-- ==== Sys2Proof/Word.lean ====
section
/-! DEFINITION. The words of the model: bytes, 64-bit register words and byte strings, with the little-endian
order of R6 (spec/00_scope.md) decided once. -/

namespace Sys2Proof

/-- One byte of a format, a frame or the shared store. -/
abbrev Byte := BitVec 8

/-- A register of either window: 64 bits (R8). -/
abbrev Word := BitVec 64

/-- A byte string, byte 0 first (R6). -/
abbrev Bytes := List Byte

/-- `le n v`: `v` as `n` bytes, least significant first (R6). -/
def le : Nat → Nat → Bytes
  | 0, _ => []
  | n + 1, v => BitVec.ofNat 8 v :: le n (v / 256)

/-- The number a little-endian byte string spells (R6). -/
def ofLe : Bytes → Nat
  | [] => 0
  | b :: bs => b.toNat + 256 * ofLe bs

/-- `n` zero bytes: reserved bytes of a layout. -/
def zeros (n : Nat) : Bytes := List.replicate n 0

/-- The `n` bytes of `bs` from offset `i`, as a number. -/
def bytesAt (bs : Bytes) (i n : Nat) : Nat := ofLe ((bs.drop i).take n)

/-- Bit `i` of a number. -/
def bit (v i : Nat) : Bool := v.testBit i

/-- A Bool as a field value. -/
def b2n (b : Bool) : Nat := if b then 1 else 0

/-- The number a `w`-bit field spells in two's complement. -/
def asSigned (w v : Nat) : Int :=
  if 2 * (v % 2 ^ w) < 2 ^ w then ((v % 2 ^ w : Nat) : Int) else ((v % 2 ^ w : Nat) : Int) - ((2 ^ w : Nat) : Int)

/-- A number as a `w`-bit two's complement field. -/
def toField (w : Nat) (i : Int) : Nat := (i % ((2 ^ w : Nat) : Int)).toNat

/-- A number clamped to what a signed `w`-bit field holds. -/
def clampSigned (w : Nat) (i : Int) : Int :=
  max (-((2 ^ (w - 1) : Nat) : Int)) (min i (((2 ^ (w - 1) : Nat) : Int) - 1))

end Sys2Proof
end

