-- ==== Sys2Proof/Types.lean ====
section
/-! DEFINITION. The data that commands carry and the block sends: records, PTP messages, images and the like, each
as the spec lays it out. -/

namespace Sys2Proof.Machine

/-- A record (R150): the header's fields and the body, whose length is a multiple of 8. VERSION, LENGTH and HCRC are
functions of these (`Machine/Records.lean`). -/
structure Rec where
  type : Nat
  cls : Nat
  flags : Nat := 0
  comp : Nat := 0
  tgen : Nat := 0
  src : Nat
  seq : Nat := 0
  epoch : Nat := 0
  quality : Nat := 0
  offset : Nat := 0
  body : Bytes := []
deriving DecidableEq, Repr

/-- The two levels above the node that have a master and a deputy (R15). -/
inductive Tier where
  | group | system
deriving DecidableEq, Repr

/-- A PTP message the block or a Potik sends (R63). Times are fleet times in 2^-16 ns. -/
inductive Ptp where
  | sync (seqId : Nat) (origin : Int)
  | delayReq (seqId : Nat)
  | delayResp (seqId : Nat) (receive : Int) (correction : Int)
  | pdelayReq (seqId : Nat)
  | pdelayResp (seqId : Nat) (turnaround : Int)
  | announce (clockClass : Nat)
deriving DecidableEq, Repr

/-- 32 elements of an operand along K as they are stored (R250 to R254): the format code of R134, the E8M0 scale (of MX formats; TRN2 holds its own),
the bytes, and whether one of its words is poisoned (R270). -/
structure Blk where
  fmt : Nat
  scale : Nat := 127
  data : Bytes
  poison : Bool := false
deriving DecidableEq, Repr

/-- What leaves the block or a Potik in one command: the boundary signals that are pulses, the answers on a bus, and
the messages sent. Frames of records leave through `frame`. -/
inductive Emit where
  /-- stb_mgt_resp and stb_mgt_rdata (R43). -/
  | busResp (err : Bool) (data : Nat)
  /-- The answer of a Potik window access in die space (R9). -/
  | dieResp (die : Nat) (data : Nat)
  /-- An MCTP message from the endpoint (R45, R439), byte 0 first. -/
  | mctp (msg : Bytes)
  /-- A PTP message on time link `link` (R63). -/
  | ptp (link : Nat) (m : Ptp)
  /-- A PTP message of the Potik of die slot `die` (R505). -/
  | ptkPtp (die : Nat) (m : Ptp)
  /-- A frame that LNK hands to TIM (R147). -/
  | toTim (port : Nat) (payload : Bytes)
  /-- A record frame of EXP on LNK port `port` to destination `dest` (R381). -/
  | frame (port dest : Nat) (payload : Bytes)
  /-- A record with the fleet addresses it is sent to (R24, R25, R163, R449 to R452). -/
  | directed (dst : List Nat) (r : Rec)
  /-- A record handed over a CONTENT 0 route to an island (R420, R503). -/
  | deliver (island : Nat) (r : Rec)
  /-- stb_dig_ans with stb_dig_ans_id (R39). -/
  | digAnswer (round ans : Nat)
  /-- stb_pwr_ack with its code and met (R58). -/
  | pwrAck (code : Nat) (met : Bool)
  /-- stb_msi_req with stb_msi_vec (R47). -/
  | msi (vec : Nat)
  /-- An active edge of stb_tim_pulse[n] (R80). -/
  | pulse (n : Nat)
  /-- A record frame of the Potik of die slot `die`: EtherType, destination and payload (R145, R163). -/
  | ptkFrame (die etherType dest : Nat) (payload : Bytes)
  /-- A trailer of a collective chunk of the Potik of die slot `die`, on its lane (R136). -/
  | trailer (die lane : Nat) (bytes : Bytes)
  /-- A part of a package body on the load channel of a Potik's slot (R138, R164). -/
  | packageData (die slot : Nat) (last : Bool) (bytes : Bytes)
  /-- A re-digest request to a die: round and sequence (R137). -/
  | redigest (die round seq : Nat)
  /-- ptk_tst_run with core and slot (R139, R140). -/
  | testRun (die core slot : Nat) (run : Bool)
  /-- A memory-port request (R41): address, bytes, write. -/
  | memReq (addr bytes : Nat) (write : Bool)
  /-- A word that STO delivers to a reader, with its poison bit (R352, R356). -/
  | word (data : Word) (poison : Bool)
  /-- What COD hands on: a status of R369, and the coded or decoded bytes; with a status other than 0 the consumer takes `extent` poisoned
  bytes instead (R370). -/
  | block (status : Nat) (data : Bytes) (extent : Nat)
  /-- ptk_hs_req for a sensor (R117). -/
  | sensorReq (die sensor : Nat)
  /-- A tile's outputs as its consumers take them: tile number, flags of R269, blocks and poisoned elements by row (R258, R270). -/
  | tileOut (id flags : Nat) (rows : List (List Blk)) (poison : List (List Bool))
  /-- The tokens of a run (R288): model, epoch, and the elements of each present subject as FP32 codes. -/
  | tokens (model epoch : Nat) (toks : List (Nat × List Nat))
  /-- A tile's outputs stay missing (R248). -/
  | tileMissing (id : Nat)
  /-- ptk_tile_take (R131). -/
  | tileTake (die : Nat) (take : Bool)
deriving DecidableEq, Repr


/-- An entry of the profile table (R274). -/
structure Profile where
  id : Nat
  fmtA : Nat
  fmtB : Nat
  fmtC : Nat
  model : Nat := 0
  group : Nat := 16
  repro : Bool := true
  ftz : Bool := false
  ovfSat : Bool := true
  cLast : Bool := false
  round : Nat := 0
  ulpTol : Nat := 0
  relLog2 : Nat := 0
  aKMajor : Bool := true
  bKMajor : Bool := true
  cRowMajor : Bool := true
deriving DecidableEq, Repr

/-- A tile (R246): its number in the schedule, profile, layer tag, the blocks of each row of A and of each column of B along K, C in (FP32 codes
by row), the format of its output, the flags of R269 that its inputs carry, and the tiles whose outputs are its operand B, each with the
number of K-blocks it gives. -/
structure Tile where
  id : Nat
  profile : Nat
  layer : Nat := 0
  a : List (List Blk)
  b : List (List Blk)
  c : Option (List (List Nat)) := none
  out : Nat := 0
  flags : Nat := 0
  sources : List (Nat × Nat) := []
  /-- The model and the epoch whose run the tile belongs to; none for a tile of the baseline product. -/
  run : Option (Nat × Nat) := none
deriving DecidableEq, Repr

/-- A sequence model (R282 to R294): subject class, L, W, H, n_out, the ZERO and SCALE of its TOKEN slots in order, KV_SCALE by layer. -/
structure ModelCfg where
  cls : Nat
  layers : Nat := 1
  window : Nat := 1
  h : Nat := 32
  nOut : Nat := 1
  tokens : List (Nat × Nat) := []
  kvScale : List Nat := []
deriving DecidableEq, Repr

/-- The outputs of a subject (R289): FP32 codes, SAT of R269, poison of R270. -/
structure ModelOut where
  subject : Nat
  vals : List Nat := []
  sat : Bool := false
  poison : Bool := false
deriving DecidableEq, Repr

/-- The present key and value of a subject at a layer, FP32 codes (R283, R294). -/
structure KvEntry where
  layer : Nat
  subject : Nat
  key : List Nat
  value : List Nat
deriving DecidableEq, Repr

/-- An event slot of a performance event bus in one domain cycle (R105); absent attributes have their bit of `has` clear. -/
structure PevSlot where
  id : Nat
  inc : Nat
  has : Nat := 0
  priv : Nat := 0
  req : Nat := 0
  /-- Address bits [63:6]. -/
  addr : Nat := 0
  tc : Nat := 0
deriving DecidableEq, Repr

/-- What a March sweep latches of one element (R100, R101): the values of its counters, its cycle counter for a group, and the changes of
its domain's divided clock that the running 1 µs window holds up to the latch: their number, the first and the last. -/
structure Latch where
  values : List Nat
  cycles : Nat := 0
  n : Nat := 0
  first : Int := 0
  last : Int := 0
deriving DecidableEq, Repr

/-- ptk_vf_point and ptk_vf_busy (R123). -/
structure Vf where
  point : Nat := 0
  busy : Bool := false
deriving DecidableEq, Repr

/-- A write beat of the tensor watch tap; `addr` is address bits [63:6] (R126). -/
structure WBeat where
  addr : Nat
  data : Bytes
  be : Nat
  tag : Nat := 0
  fmt : Nat := 0
  last : Bool := false
  poison : Bool := false
  unit : Nat := 0
deriving DecidableEq, Repr

/-- A counter of a Potik: counter `c` of a unit's census, or counter `k` of a group. -/
inductive PCounter where
  | census (unit c : Nat)
  | group (g k : Nat)
deriving DecidableEq, Repr

/-- A PTP message that a Potik receives (R63); times in 2^-16 ns. -/
inductive PtkMsg where
  | sync (domain seqId : Nat) (twoStep : Bool) (t1 corr : Int)
  | followUp (domain seqId : Nat) (t1 corr : Int)
  | delayResp (domain seqId : Nat) (t4 corr : Int)
deriving DecidableEq, Repr


/-- A stream of the image's stream table (R166): its entry number is its place in the list. -/
structure StreamCfg where
  sender : Nat
  cls : Nat
  queue : Nat := 0
  seqCheck : Bool := false
  aware : Bool := false
  cir : Nat := 0
  pir : Nat := 0
  cbs : Nat := 0
  pbs : Nat := 0
deriving DecidableEq, Repr

/-- A quantity of a reduction plan (R185): which inputs it selects, and its operator. Inputs are census counts (kind 0), counter-group
counts (1), cycle counts (2) or a health statistic (3 MEAN, 4 MIN, 5 MAX, 6 COUNT) of index `index`, of units `unitLo` to `unitHi` (for
counter groups, of groups in that range). At the group and system levels the inputs are the children's entries of the same quantity. -/
structure Quantity where
  number : Nat
  op : Nat
  kind : Nat := 0
  index : Nat := 0
  unitLo : Nat := 0
  unitHi : Nat := 2047
  /-- Edges of HIST, as order keys, ascending. -/
  edges : List Nat := []
  /-- k of TOPK and BOTTOMK. -/
  k : Nat := 1
deriving DecidableEq, Repr

/-- A die of the FLEET section: its slot, package, address of its fabric port, public key and failure-domain tags (R16, R31, R419). -/
structure DieCfg where
  slot : Nat
  package : Nat := 0
  mac : Nat := 0
  publicKey : Bytes := []
  /-- The EUI-64 of the die's Potik, which its challenge response covers (R483). -/
  eui : Nat := 0
  /-- Tags: tray, power shelf, cooling loop, switch, site; 0xFFFF none. -/
  tags : List Nat := []
  /-- Readings of the census map, of the counter groups and of the sensors, as the sweep lengths give them (R370). -/
  census : Nat := 0
  groups : Nat := 0
  sensors : Nat := 0
  /-- Unit classes by unit ranges: first unit, last unit, class. -/
  units : List (Nat × Nat × Nat) := []
  /-- Die type, and TEST_CORES (R120, R345). -/
  dieType : Nat := 0
  testCores : Nat := 0
deriving DecidableEq, Repr

/-- One reduced result of a quantity (R185, R188), kept wide until output. -/
structure Agg where
  op : Nat
  /-- SUM, SUMSQ, COUNT, OR: the value; MIN, MAX: the extreme. -/
  val : Int := 0
  src : Nat := 0
  span : Nat := 0
  /-- HIST bins. -/
  bins : List Nat := []
  /-- SKETCH: n and the nodes held. -/
  n : Nat := 0
  nodes : List (Nat × Nat) := []
  /-- TOPK, BOTTOMK: k, and value, source, epoch within the span, most extreme first. -/
  k : Nat := 1
  tops : List (Int × Nat × Nat) := []
  /-- EFLAGS of R191. -/
  eflags : Nat := 0
  /-- Something has entered. -/
  some : Bool := false
deriving DecidableEq, Repr

/-- The content of a Summary (R191). -/
structure SumBody where
  kind : Nat := 0
  level : Nat
  res : Nat := 0
  plan : Nat := 0
  epoch : Nat
  expected : Nat := 0
  present : Nat := 0
  poisoned : Nat := 0
  lateIn : Nat := 0
  lost : Nat := 0
  quality : Nat := 0
  loss : Bool := false
  entries : List (Nat × Agg) := []
deriving DecidableEq, Repr

/-- A time link of the image (R62): use 0 parent, 1 child, 2 closure; the group or node at the far end; whether it runs the peer-to-peer
mechanism; whether it is a long-haul link; and its asymmetry in 2^-16 ns (R69). -/
structure TimeLink where
  use : Nat
  peer : Nat := 0
  p2p : Bool := false
  longHaul : Bool := false
  asym : Int := 0
deriving DecidableEq, Repr

/-- An epoch schedule (R76): T0 in 2^-16 ns, E0, and P in ns. -/
structure Sched where
  t0 : Int
  e0 : Nat
  p : Nat
deriving DecidableEq, Repr

/-- A package of the tray (R21): its number, the die slots of its lead and alternate lead, and of all its dies. -/
structure LeadCfg where
  package : Nat
  lead : Nat
  alt : Nat
  dies : List Nat := []
deriving DecidableEq, Repr

/-- An archive stream of the image (R373). -/
structure ArchCfg where
  source : Nat
  /-- n of the source ring: it has 2^n slots (R359). -/
  slots : Nat := 6
  decimate : Nat := 0
  elem : Nat := 0
  rawKib : Nat := 1
  archive : Nat
  index : Nat
deriving DecidableEq, Repr

/-- The live coders of R371: COD's archive assembler for a stream, TRC's trace export, and the live trace of the Potik of a die. -/
inductive LiveCoder where
  | archive (stream : Nat)
  | trc
  | potik (die : Nat)
deriving DecidableEq, Repr

/-- What a snapshot latches that only the instant itself shows (R409): the latch stamp of each island after the tick, in 0.25 ns; channels as
receiver, channel, sender cycles waited and whether the buffer is full; frames waiting for credit by port × 8 + class; cores waiting for
operands; ages of ARB's jobs in µs, the one in progress first; and µs since the last chunk of each open round of DIG. -/
structure SnapFigures where
  latch : List Nat := []
  chans : List (Nat × Nat × Nat × Bool) := []
  frames : List Nat := []
  starved : List Nat := []
  ages : List Nat := []
  rounds : List Nat := []
deriving DecidableEq, Repr


/-- An entry of the route graph (R420). -/
structure Route where
  src : Nat
  dst : Nat
  channel : Nat := 0
  content : Nat
  types : Nat := 0
deriving DecidableEq, Repr

/-- A destination of the export table (R378). -/
structure DestCfg where
  dmac : Nat := 0
  link : Nat := 0
  weight : Nat := 1
  /-- Export classes it receives, as CLASS − 8. -/
  classes : List Nat := []
  coarsenOk : Bool := false
  /-- This block's level address for the destination (R379). -/
  level : Nat := 0
  /-- Queue depth in KiB per class, by CLASS − 8. -/
  depthKib : List Nat := []
deriving DecidableEq, Repr

/-- One mapping of the export table: a record type and CLASS, and its destinations, at most 8 (R378). -/
structure ExpMap where
  type : Nat
  cls : Nat
  dests : List Nat
deriving DecidableEq, Repr

/-- A region of the region map (R355); base and size in bytes. -/
structure Region where
  kind : Nat
  inst : Nat := 0
  /-- In the memory stacks rather than in the shared store. -/
  external : Bool := false
  base : Nat
  size : Nat
deriving DecidableEq, Repr

/-- One entry of a register batch: window offset, write or read, value (R163). -/
structure CtrlEntry where
  offset : Nat
  write : Bool
  value : Nat := 0
deriving DecidableEq, Repr

/-- The body of a Control request (R163). -/
inductive CtrlBody where
  | batch (entries : List CtrlEntry)
  | part (slot : Nat) (last : Bool) (offset : Nat) (bytes : Bytes)
deriving DecidableEq, Repr

/-- A copy of a Potik's identity generation as it is read at release (R491): intact or not, EUI64 and public key. -/
structure PIdCopy where
  intact : Bool
  eui : Nat
  publicKey : Bytes
deriving DecidableEq, Repr


/-- A generation area of the one-time-programmable field (R484): copies A and B, bit 8 k + i being bit i of byte k, and the seal's 8 bits. -/
structure OtpArea where
  a : BitVec 1536 := 0
  b : BitVec 1536 := 0
  seals : BitVec 8 := 0
deriving DecidableEq, Repr


/-- A replica set (R334). -/
structure ReplicaSet where
  tag : Nat
  members : List Nat
  every : Nat := 1
  deadline : Nat := 1
deriving DecidableEq, Repr

/-- A pattern package (R345), with its activation epoch. -/
structure Package where
  id : Nat
  version : Nat
  dieType : Nat
  lengthNs : Nat
  band : Nat := 0
  bandReq : Bool := false
  withdraw : Bool := false
  classMask : Nat
  period : Nat
  body : Bytes
  act : Nat := 0
deriving DecidableEq, Repr


/-- A feature definition (R201). FP32 values are codes. -/
structure FeatDef where
  kind : Nat
  keep : Bool := false
  token : Bool := false
  tree : Bool := false
  baseline : Bool := false
  table : Nat := 0
  subst : Nat := 0
  a : Nat := 0
  b : Nat := 0
  relation : Nat := 0
  param : Nat := 0
  scale : Nat := 0
  offset : Nat := 0
  floor : Nat := 0
deriving DecidableEq, Repr

/-- A quantisation table (R214): LO or LOG_LO, SCALE, the edges, and the codes of CATEGORY by input. -/
structure QTable where
  type : Nat
  lo : Nat := 0
  scale : Nat := 0
  edges : List Nat := []
  codes : List (Nat × Nat) := []
  missing : Nat := 0
deriving DecidableEq, Repr

/-- A baseline generation (R208): m, and W by columns, as FP32 codes. -/
structure BaseGen where
  gen : Nat := 0
  act : Nat := 0
  m : List Nat := []
  w : List (List Nat) := []
deriving DecidableEq, Repr



/-- An entry of the associative memory with its leaf word (R223, R227, R234); value and mask are 480-bit numbers, the leaf value an FP32 code. -/
structure TEntry where
  value : Nat := 0
  mask : Nat := 0
  valid : Bool := false
  leaf : Nat := 0
  cls : Nat := 0
  cause : Nat := 0
  feature : Nat := 0
deriving DecidableEq, Repr

/-- A key plan (R224): its subject class and its splits, slot and threshold code. -/
structure KeyPlan where
  cls : Nat
  splits : List (Nat × Nat) := []
deriving DecidableEq, Repr

/-- A tree of the tree table (R231): plan, slice and class. -/
structure TreeCfg where
  plan : Nat
  slice : Nat
  cls : Nat
deriving DecidableEq, Repr

/-- An ensemble (R229, R232, R233, R238): subject class, classes, link, AVERAGE, EXPL_K, base values, trees by index. -/
structure Ensemble where
  cls : Nat
  classes : Nat := 1
  link : Nat := 0
  average : Bool := false
  explK : Nat := 0
  bases : List Nat := []
  trees : List TreeCfg := []
deriving DecidableEq, Repr

/-- The TREES section (R239): what one bank holds. Entries are keyed by slice × 32,768 + row. -/
structure TreeTables where
  gen : Nat := 0
  plans : List KeyPlan := []
  ensembles : List Ensemble := []
  entries : List (Nat × TEntry) := []
deriving DecidableEq, Repr


/-- A Marpiul image as the block uses it (R416 to R422): the content of its sections, each field named after what it
configures. -/
structure Image where
  generation : Nat := 0
  -- 0x02 TIME: domainNumber, schedule, time links, closure triangles (a, b, c) and DRIFT_N (R61, R62, R76, R88, R89)
  domain : Nat := 0
  sched : Option Sched := none
  timeLinks : List TimeLink := []
  triangles : List (Nat × Nat × Nat) := []
  driftN : Nat := 3
  -- 0x03 ROUTES (R420)
  routes : List Route := []
  -- 0x05 REGION_MAP (R355): region r is entry r
  regions : List Region := []
  -- archive streams and dictionary of COD (R367, R373)
  archives : List ArchCfg := []
  dict : List Nat := []
  -- 0x06 STREAMS: the export table (R378)
  dests : List DestCfg := []
  exports : List ExpMap := []
  /-- The switch traffic class of telemetry (R36). -/
  telemetryTc : Nat := 0
  -- ingest streams, queues and the colour map (R166 to R169)
  streams : List StreamCfg := []
  ingestQueues : Nat := 0
  /-- Depth of each ingest queue in KiB. -/
  queueKib : List Nat := []
  /-- Pre-colour of each CLASS: 0 green, 1 yellow, 2 red. -/
  colours : List Nat := []
  -- 0x01 FLEET
  dies : List DieCfg := []
  /-- Potik window values written in arming step 1 (R483): offset and value. -/
  potikRegs : List (Nat × Nat) := []
  /-- This block's group, node and addressing mode (R17, R34). -/
  group : Nat := 0
  node : Nat := 0
  addrMode : Nat := 0
  /-- The packages' leads (R21), and the address record frames to this block carry. -/
  packages : List LeadCfg := []
  nodeMac : Nat := 0
  /-- The senders of the group's and the system's level: the node addresses of the group, and the group addresses of the system. -/
  groupNodes : List Nat := []
  systemGroups : List Nat := []
  /-- The blocks of the group masters and group deputies of the system's groups, as node addresses, in the order of `systemGroups`. -/
  groupMasters : List Nat := []
  groupDeputies : List Nat := []
  /-- Masters and deputies of this block's group and of the system, as the node addresses of their blocks (R15, R33). -/
  groupMaster : Nat := 0
  systemMaster : Nat := 0
  groupDeputy : Option Nat := none
  systemDeputy : Option Nat := none
  /-- Alternate parents of this block's node and group roles, and the blocks whose alternate parent it is (R33, R449). -/
  nodeAlt : Option Nat := none
  groupAlt : Option Nat := none
  altFor : List Nat := []
  /-- Dies per block of this block's subtree, by node address (R446). -/
  trays : List (Nat × Nat) := []
  /-- Lag and threshold of R24 for the group and for the system. -/
  groupLag : Nat := 2
  groupThreshold : Nat := 8
  systemLag : Nat := 2
  systemThreshold : Nat := 8
  -- 0x07 REDUCTION: plan number and quantities per level (R185)
  planNo : Nat := 0
  plans : List (List Quantity) := []
  /-- SPLIT, PARTNER and whether a partner is named, per level (R189, R197). -/
  splits : List (Nat × Nat × Bool) := []
  /-- n of the epoch rings: FEATURE_RING, SUMMARY_RING and SCORE (R359). -/
  featN : Nat := 6
  sumN : Nat := 6
  scoreN : Nat := 6
  -- 0x08 FEATURES (R200, R208, R214): programs by subject class (unit, die, node, group), tables, and the baseline of generation 0
  features : List (List FeatDef) := []
  tables : List QTable := []
  base0 : Option BaseGen := none
  -- 0x09 TREES (R239)
  trees : Option TreeTables := none
  -- 0x0A MODELS, and the section's CRC-64 (R282, R298)
  models : List ModelCfg := []
  modelsCrc : Nat := 0
  -- 0x0B PROFILES and canary seeds by core (R272, R274)
  profiles : List Profile := []
  canarySeeds : List Nat := []
  -- 0x0E POLICY: replica table, replay quotas by stratum, package key (R334, R339, R346); contributors of this gateway by VERSION (R327)
  replicas : List ReplicaSet := []
  quotas : List Nat := []
  packageKey : Option Bytes := none
  contributors : List (Nat × Nat) := []
  -- 0x0F PACKAGES, as they stand in the section (R345)
  packages_ : List Bytes := []
  /-- 0x0D STEWARD (R434): service code and cores of each program, owners of mailboxes 2 and 3; QUERY_MASK (R440). -/
  programs : List (Nat × Nat) := []
  mboxOwners : List (Option Nat) := []
  queryMask : Nat := 0
  /-- POLICY of verdicts by subject class (R301): the words of STB_VRD_POLICY_SRC, _TH and _CNT, and the cause class of each class of the cause
  ensemble; the cause class that names a straggler; failure domains as type, number and member dies (R31). -/
  policies : List (Nat × Nat × Nat) := []
  causeMaps : List (List Nat) := []
  straggler : Nat := 5
  domains : List (Nat × Nat × List Nat) := []
  /-- 0x01 FLEET, the block table: each block's EUI-64 and its node address (R419). -/
  blocks : List (Nat × Nat) := []
  /-- 0x04 ISLAND (R422): island, offset and value of each record. -/
  islandRegs : List (Nat × Nat × Nat) := []
  /-- Site tags of the system's groups (R31, R205). -/
  sites : List (Nat × Nat) := []
  /-- RW fields that sections other than ISLAND load and no field above holds (the Autumn budget, the domain thresholds): island, offset, entry and
  value; and SNAP_MIB (R410, R422). -/
  loads : List (Nat × Nat × Nat × Nat) := []
  snapMib : Nat := 64
deriving DecidableEq, Repr

end Sys2Proof.Machine
end

