-- ==== Sys2Proof/Syntax.lean ====
section
/-! DEFINITION. The commands of the block: one constructor for each row of spec/opcode_table.json, in its order. -/

namespace Sys2Proof

open Machine

/-- The commands. An operand is what the command brings from outside the block: an address, a value, a record, an instant. -/
inductive Instr where
  /-- The block's time reaches the next tick of the epoch schedule and opens a new epoch. (R76) -/
  | equinoxTick
  /-- A Potik's own time reaches the next tick and it opens a new epoch. (R79) The die slot, Potik's time, which is that of a tick, and ptk_tst_sig. -/
  | ptkTick (die : Nat) (now : Int) (sig : Nat)
  /-- A deputy receives a presence record, updates P and answers with an Acknowledgement. (R24) The level, the master's block and the epoch number of its presence record. -/
  | presenceReceive (tier : Tier) (src : Nat) (epoch : Nat)
  /-- At a tick where E minus P exceeds lag plus threshold, the deputy becomes acting master and sends a takeover Broadcast. (R25) -/
  | takeover (tier : Tier)
  /-- A child or the old master receives a takeover Broadcast for its level. (R25) The level, the acting master's block, the takeover epoch and the epoch from which to resend. -/
  | takeoverReceive (tier : Tier) (acting : Nat) (epoch : Nat) (resendFrom : Nat)
  /-- At the first tick after a takeover Broadcast, a child switches its parent to the acting master. (R25) -/
  | parentSwitch
  /-- A master that received a takeover Broadcast yields its role at the next tick. (R27) -/
  | yield (tier : Tier)
  /-- A master receives no acknowledgement for threshold presence records and sets deputy-lost. (R28) -/
  | deputyLost (tier : Tier)
  /-- After 4 silent epochs of a lead Potik, the node aggregator makes the alternate lead the lead and redirects members. (R22) -/
  | leadLost (package : Nat)
  /-- stb_lnk_up of a port falls; LNK stops the port and moves unstarted frames. (R37) -/
  | lnkDown (port : Nat)
  /-- stb_lnk_up of a port rises, releasing destinations held while all ports were down. (R389) -/
  | lnkUp (port : Nat)
  /-- LNK receives a frame and hands it to TIM or ING or discards it. (R147) The port, the switch's frame error, the EtherType, the UDP destination port of an unfragmented IP frame, and the payload. -/
  | frameReceive (port : Nat) (error : Bool) (etherType : Nat) (udp : Option Nat) (payload : Bytes)
  /-- A transfer crosses an inter-island channel and is checked for parity. (R53) Source and destination island, CONTENT and record type of the stream (R420), the physical channel, and whether a parity bit fails. -/
  | channelTransfer (src : Nat) (dst : Nat) (content : Nat) (type : Nat) (channel : Nat) (bad : Bool)
  /-- The last beat of a collective chunk passes the tap and DIG checks its trailer and digest. (R327) `round` is ctl [19:4], `marked` ctl [2] of the last beat; `payload` holds the payload beats' bytes. -/
  | chunkCheck (round : Nat) (marked : Bool) (trailer payload : Bytes) (now : Int)
  /-- The round-end strobe arrives and DIG answers the round clean, integrity-stop or unchecked. (R328) -/
  | roundEnd (round : Nat)
  /-- stb_mem_grant changes and STO meters to the new grant. (R41) -/
  | memGrantChange (grant : Nat)
  /-- Read data returns on a memory port and poisoned pieces are stored as poison. (R42) Each 64-byte piece with its poison bit. -/
  | memReadReturn (port : Nat) (tag : Nat) (pieces : List (Bytes × Bool))
  /-- The gateway refuses a memory request on stb_mem_err. (R42) -/
  | memRefused (port : Nat) (tag : Nat)
  /-- A management access that is not aligned 64-bit completes with a bus error and is recorded. (R9) The byte address in the window, the bytes accessed, and the direction. -/
  | busAccess (addr : Nat) (bytes : Nat) (write : Bool)
  /-- An access not completed by the island within 2 µs completes with a bus error. (R43) -/
  | accessTimeout (addr : Nat) (write : Bool)
  /-- A write to a register that has no row of its own, applied by its access codes. (R10) As REGISTER_READ. -/
  | registerWrite (die : Option Nat) (addr bytes value : Nat) (now : Int)
  /-- MCTP control command assigning the endpoint ID. (R45) Instance ID, operation and endpoint ID of DMTF DSP0236. -/
  | setEndpointId (iid : Nat) (op : Nat) (eid : Nat)
  /-- MCTP control command returning the endpoint ID. (R45) -/
  | getEndpointId (iid : Nat)
  /-- MCTP control command returning the endpoint UUID. (R45) -/
  | getEndpointUuid (iid : Nat)
  /-- MCTP control command returning supported MCTP versions. (R45) The message type asked about; 0xFF the base specification. -/
  | getMctpVersionSupport (iid : Nat) (type : Nat)
  /-- MCTP control command returning supported message types. (R45) -/
  | getMessageTypeSupport (iid : Nat)
  /-- MCTP control command returning vendor-defined message support. (R45) -/
  | getVendorDefinedMessageSupport (iid : Nat) (selector : Nat)
  /-- An MCTP message of an unsupported type is rejected with the control error. (R45) -/
  | mctpUnsupportedType (type : Nat)
  /-- MGT offers a waiting interrupt message for an island on stb_msi_req. (R47) -/
  | msiOffer
  /-- The interrupt controller takes the offered message. (R47) -/
  | msiAck
  /-- A write of _INT_EN that may make enabled pending causes non-zero and offer a message. (R495) -/
  | intEnWrite (island : Nat) (value : Nat)
  /-- A selected edge on a capture input is timed and stored in its FIFO. (R82) The input, the edge, and its refined fleet time in 2^-16 ns. -/
  | captureEdge (input : Nat) (falling : Bool) (time : Int)
  /-- A read of STB_TIM_CAPm_LO returns and removes the oldest entry and latches its high part. (R91) -/
  | captureRead (input : Nat)
  /-- A read of STB_TIM_TIME_LO latches the high part of fleet time. (R91) Fleet time in 2^-16 ns. -/
  | timeLoRead (now : Int)
  /-- A write of STB_TIM_TIME_HI sets a grandmaster's time in INIT. (R83) The value written to STB_TIM_TIME_HI. -/
  | timeSet (hi : Nat)
  /-- stb_mcs_up of a long-haul port falls and EXP holds its destinations. (R389) -/
  | mcsDown (port : Nat)
  /-- stb_mcs_up of a long-haul port rises and its held destinations are released. (R389) -/
  | mcsUp (port : Nat)
  /-- stb_mcs_alarm rises; every long-haul destination is held and MCS_ALARM is set. (R389) -/
  | mcsAlarm
  /-- stb_tamper_n falls; the working key and pending key are erased and programming stops. (R490) As POWER_ON_RESET. -/
  | tamper (written : Nat)
  /-- stb_por_n asserted; everything is lost. (R475) `written`: bit positions of an OTP programming in progress already written. -/
  | powerOnReset (written : Nat)
  /-- stb_rst_cold_n asserted; acts as power-on. (R475) As POWER_ON_RESET. -/
  | coldReset (written : Nat)
  /-- stb_rst_warm_n asserted; work in flight is lost and configuration kept. (R476) As POWER_ON_RESET. -/
  | warmReset (written : Nat)
  /-- A reset input is released and start-up resumes at the stage R478 gives. (R49) 0 power-on, 1 cold, 2 warm; the block's time, in 2^-16 ns. -/
  | resetRelease (which : Nat) (now : Int)
  /-- No stb_refclk edge for 1 µs; every island but MGT is forced to Winter state. (R50) -/
  | refclkLost
  /-- The reference has run again for 100 µs and islands begin quiet-period recovery. (R50) -/
  | refclkRestored
  /-- stb_pwr_cap_req offers a new cap, which replaces any unacknowledged one. (R58) -/
  | powerCapRequest (code : Nat)
  /-- A write of CAP_CODE, clamped, changes the effective cap. (R56) -/
  | pwrCapWrite (value : Nat)
  /-- Every 1 µs the block applies or reverses one clock step or core park toward the cap. (R57) -/
  | capStep
  /-- The power estimate is updated every 1 µs. (R56) The estimate that the activity counters of the islands give. -/
  | pwrEstimateUpdate (watts : Nat)
  /-- stb_pwr_fast_n falls and every tensor core stops issuing. (R58) -/
  | fastShed
  /-- stb_pwr_fast_n rises and issue resumes at the next tile boundary. (R58) -/
  | fastShedRelease
  /-- A PTP Sync is received on a parent link. (R69) The time link, sequenceId, twoStepFlag, originTimestamp, LNK's stamp and correctionField, times in 2^-16 ns. -/
  | syncReceive (link : Nat) (seqId : Nat) (twoStep : Bool) (t1 : Int) (t2 : Int) (corr : Int)
  /-- A PTP Follow_Up is received and paired with its Sync. (R70) preciseOriginTimestamp and correctionField. -/
  | followUpReceive (link : Nat) (seqId : Nat) (t1 : Int) (corr : Int)
  /-- A two-step Sync's Follow_Up does not arrive within a sync interval and both are discarded. (R70) -/
  | followUpTimeout (link : Nat)
  /-- A Delay_Req is received on a child link and answered with Delay_Resp. (R63) LNK's stamp and correctionField. -/
  | delayReqReceive (link : Nat) (seqId : Nat) (rx : Int) (corr : Int)
  /-- A Delay_Resp completes an offset measurement that feeds the servo. (R69) receiveTimestamp and correctionField. -/
  | delayRespReceive (link : Nat) (seqId : Nat) (t4 : Int) (corr : Int)
  /-- A Pdelay_Req is received and answered with one-step Pdelay_Resp. (R63) LNK's stamps of the request and of the answer, and correctionField. -/
  | pdelayReqReceive (link : Nat) (seqId : Nat) (rx : Int) (tx : Int) (corr : Int)
  /-- A Pdelay_Resp is received for the peer-delay exchange. (R69) requestReceiptTimestamp (two-step), LNK's stamp and correctionField. -/
  | pdelayRespReceive (link : Nat) (seqId : Nat) (twoStep : Bool) (t2 : Int) (rx : Int) (corr : Int)
  /-- A Pdelay_Resp_Follow_Up is received for the peer-delay exchange. (R63) responseOriginTimestamp and correctionField. -/
  | pdelayRespFollowUpReceive (link : Nat) (seqId : Nat) (t3 : Int) (corr : Int)
  /-- A received Announce is checked for domain and changes no port state. (R64) -/
  | announceReceive (link : Nat) (domain : Nat)
  /-- A Management, Signaling or foreign-domain PTP message is discarded and counted. (R64) -/
  | ptpDiscard
  /-- A sync interval expires and TIM sends Sync on child links and Delay_Req toward its parent. (R63) Fleet time. -/
  | syncInterval (now : Int)
  /-- Once per second TIM sends Announce on child links. (R64) -/
  | announceInterval
  /-- No valid measurement for HOLDOVER_N sync intervals moves the servo to HOLDOVER. (R71) -/
  | holdoverEntry
  /-- HOLDOVER lasts longer than HOLDOVER_LIMIT and the servo becomes UNQUAL. (R71) ns spent in HOLDOVER. -/
  | unqualEntry (held : Nat)
  /-- A due time step is applied in the first cycle after the next tick. (R74) A die's Potik, or the block itself. -/
  | stepApply (die : Option Nat)
  /-- A write of STB_TIM_ASYM_DATA changes a link's asymmetry from the next tick. (R90) The 32-bit ASYM field. -/
  | asymWrite (link : Nat) (value : Nat)
  /-- Each evaluation interval a group master sends its closure offsets to the system master. (R88) -/
  | closureReport
  /-- The system master sums each closure triangle for the latest interval. (R88) -/
  | loopEvaluation
  /-- A pulse output reaches the fleet time of its next active edge. (R80) -/
  | pulseEdge (n : Nat)
  /-- A write of a pulse output's MODE, setting MISSED or MODE_ERR when applicable. (R81) The value written to STB_TIM_PULSEn_CFG, and fleet time. -/
  | pulseModeWrite (n : Nat) (value : Nat) (now : Int)
  /-- A Potik receives a Sync, Follow_Up or Delay_Resp and pairs it with its stamp. (R67) The die slot, the number under which the MAC delivers the frame, and the message. -/
  | ptkPtpReceive (die : Nat) (rxSeq : Nat) (m : PtkMsg)
  /-- ptk_mac_rx_sof stamps a received frame under its sequence number. (R67) The die slot, ptk_mac_rx_seq, ptk_mac_fec, and the time at which Potik captures the strobe. -/
  | ptkRxStamp (die : Nat) (seq : Nat) (fec : Nat) (time : Int)
  /-- Each Potik sync interval Potik sends one Delay_Req. (R505) ptk_mac_fec, and the time at which the Delay_Req's strobe is captured. -/
  | ptkDelayReqInterval (die : Nat) (fec : Nat) (tap : Int)
  /-- A 1 µs window ends and Potik computes each domain's measured period. (R93) The changes of the divided clock stamped in the window: their number, the first and the last, and the window's end. -/
  | domainWindow (die : Nat) (domain : Nat) (n : Nat) (first : Int) (last : Int) (tEnd : Int)
  /-- 16 ns after the last latch Potik hands the sweep and Health records to its shaper. (R104) The instant s0, and what the sweep latched, in sweep order. -/
  | sweepHandoff (die : Nat) (s0 : Int) (elems : List Latch)
  /-- A write to a programmable counter, select or RELOAD register takes effect in the domain or is dropped. (R111) Window offset and value. -/
  | ptkCounterWrite (die : Nat) (off : Nat) (value : Nat)
  /-- A sampling-mode counter wraps, reloads and arms a capture on the retire port. (R113) Group and counter, its value before the domain cycle, and the cycle's event slots. -/
  | sampleArm (die : Nat) (g : Nat) (k : Nat) (before : Nat) (slots : List PevSlot) (now : Int)
  /-- A qualifying retiring instruction is captured into the sample buffer. (R113) The group whose port retires the instruction, the port's signals, and the domain cycles since the wrap. -/
  | sampleCapture (die : Nat) (g : Nat) (addr : Nat) (insn : Nat) (lat : Nat) (priv : Nat) (src : Nat) (pev : Nat) (skid : Nat) (now : Int)
  /-- An armed capture unsatisfied within 4,096 domain cycles is abandoned. (R114) -/
  | sampleAbandon (die : Nat) (g : Nat)
  /-- In export mode the buffer is drained into Sample buffer records at a tick or at 2,048 entries. (R116) -/
  | sampleDrain (die : Nat) (now : Int)
  /-- A read of PTK_SMP_READ returns 8 bytes of the oldest entry; the fourth removes it. (R116) -/
  | smpRead (die : Nat)
  /-- A sampling round of the enabled health sensors starts. (R117) The round's number within the epoch: it starts at tick + k × 100 µs. -/
  | healthRound (die : Nat) (k : Nat)
  /-- A sensor acknowledges with a sample or an error. (R117) ptk_hs_err and ptk_hs_data, for the sensor now requested. -/
  | healthAck (die : Nat) (err : Bool) (code : Nat)
  /-- A sensor does not acknowledge within 300 ns and adds 1 to ERRORS. (R117) -/
  | healthAckTimeout (die : Nat)
  /-- Every 100 µs Potik reads ACT_CTR of every unit to derive load classes. (R124) ns since the last read, and ACT_CTR of every wired unit in sweep order. -/
  | activityRead (die : Nat) (dt : Nat) (values : List Nat)
  /-- A write-stream beat is retired from the FIFO into matching watch slots. (R127) -/
  | wsBeat (die : Nat)
  /-- The die offers a tile; Potik steps its LFSR and takes or declines it. (R131) The signals of the tile tap. -/
  | tileOffer (die : Nat) (desc : Nat) (id : Nat) (unit : Nat) (bytes : Nat) (vf : Vf) (now : Int)
  /-- A taken tile's stream ends and its length is checked. (R133) The bytes streamed, and whether a beat was poisoned. -/
  | tileStreamEnd (die : Nat) (data : Bytes) (poison : Bool)
  /-- A write of SEED reseeds the tile sampling LFSR. (R132) The 64-bit value written to PTK_TILE_CFG. -/
  | tileSeedWrite (die : Nat) (value : Nat)
  /-- A collective-send chunk ends and Potik presents its trailer. (R136) The lane's signals, and the payload. -/
  | csChunkEnd (die : Nat) (lane : Nat) (round : Nat) (seq : Nat) (payload : Bytes) (retain : Bool) (poison : Bool)
  /-- A write of PTK_CSD_REQ asks the die for a retained chunk. (R137) The value written to PTK_CSD_REQ. -/
  | redigestRequest (die : Nat) (value : Nat) (vf : Vf) (now : Int)
  /-- The die answers a re-digest request and Potik sends a Digest report. (R137) The retained payload, or none for ptk_rd_miss. -/
  | redigestAnswer (die : Nat) (payload : Option Bytes) (now : Int)
  /-- No answer within 10 ms gives a Digest report of TIMEOUT. (R137) -/
  | redigestTimeout (die : Nat) (now : Int)
  /-- ptk_tst_wait of a core rises and Potik may start a due package. (R139) -/
  | testWaitRise (die : Nat) (core : Nat) (vf : Vf) (now : Int)
  /-- ptk_tst_wait falls; the wait is recorded and a running test is aborted. (R140) `sig` is ptk_tst_sig at that instant. -/
  | testWaitFall (die : Nat) (core : Nat) (sig : Nat) (now : Int)
  /-- ptk_tst_done ends a test as PASS or FAIL with a Test result record. (R140) -/
  | testDone (die : Nat) (pass : Bool) (sig : Nat) (now : Int)
  /-- A test has no done within 2 × LENGTH_NS and ends NO_ANSWER. (R140) -/
  | testNoAnswer (die : Nat) (sig : Nat) (now : Int)
  /-- A debug trace beat is stamped into the live block or ring. (R141) ptk_trc_id, ptk_trc_sync and the 16 bytes of ptk_trc_d. -/
  | traceBeat (die : Nat) (source : Nat) (sync : Bool) (data : Bytes) (now : Int)
  /-- A write of TRIG or a trigger request triggers Potik's trace. (R142) -/
  | ptkTraceTrigger (die : Nat)
  /-- A frozen ring has been sent and the ring resumes. (R141) -/
  | ptkRingSent (die : Nat)
  /-- A record is queued in Potik's shaper, dropping lower levels if needed. (R145) The record: the Potik's own, or one that a lead forwards for a member. -/
  | ptkRecordEnqueue (die : Nat) (r : Rec)
  /-- Potik starts a frame while its token bucket is positive and deducts it. (R145) `dt` is the time in ns since the last PTK_FRAME_START of the Potik. -/
  | ptkFrameStart (die : Nat) (dt : Nat)
  /-- ptk_tamper_n falls and Potik erases its working key. (R146) -/
  | ptkTamper (die : Nat)
  /-- ING takes a record frame, parsing packed records or storing a fragment for reassembly. (R148) The frame is the oldest that LNK has handed to ING. -/
  | recordFrame
  /-- A record not complete within REASM_US is discarded. (R149) The record is named by its SRC and SEQ. -/
  | reassemblyTimeout (src : Nat) (seq : Nat)
  /-- ING header-checks, polices, sequence-checks and queues one record. (R165) The record is the oldest that ING has parsed; `dt` is the time in ns since the previous record of its stream. -/
  | recordIngest (dt : Nat)
  /-- A Potik executes a Control request of OP 1 and answers with a response. (R164) The request is the oldest that the Potik holds. -/
  | registerBatch (die : Nat) (now : Int)
  /-- A Potik passes a Control request of OP 2 to a test slot's load channel. (R164) The request is the oldest that the Potik holds. -/
  | packageData (die : Nat) (now : Int)
  /-- The node aggregator receives a Control response. (R164) -/
  | controlResponse (r : Rec) (now : Int)
  /-- A request with no response within 1 ms is resent; after 3 the Potik is unreachable. (R164) -/
  | controlResend (tag : Nat)
  /-- ALN takes a record from an ingest queue once its epoch can be open. (R173) The record is the oldest of ingest queue `queue`. -/
  | alnRecordAccept (queue : Nat)
  /-- A level's lateness window after the tick ends and ALN closes the epoch. (R180) The epoch is the oldest open one of the level: 0 node, 1 group, 2 system. -/
  | epochClose (level : Nat)
  /-- ALN finishes reducing a closed epoch and sends its Summary. (R181) The epoch is the oldest closed one of the level that waits for reduction. -/
  | reductionDone (level : Nat)
  /-- A child receives a Coarsen request from its parent. (R194) -/
  | coarsenRequest (src : Nat) (step : Nat) (fromEpoch : Nat)
  /-- Every 64 epochs with STEP above 0 the requester resends its request. (R193) -/
  | coarsenResend (level : Nat)
  /-- A range-B child or partner receives a bypass Broadcast. (R198) The Broadcast of a group master: its address, the partner group, begin or end, and the activation epoch. -/
  | bypassBroadcast (src : Nat) (partner : Nat) (begin_ : Bool) (actEpoch : Nat)
  /-- A group master receives a partner's refusal and coarsens instead. (R198) The partner's address. -/
  | bypassRefusal (src : Nat)
  /-- Aligned data of a closed epoch reach FEA and pass 1 evaluates the features. (R202) -/
  | featurePass (level epoch : Nat)
  /-- The baseline product returns and FEA forms residual slots. (R209) `cls`: subject class 0 unit, 1 die, 2 node, 3 group; the subjects whose product returns. -/
  | baselineProduct (cls epoch : Nat) (subjects : List Nat)
  /-- BASE_DEADLINE passes and subjects without a product get MISSING residuals. (R220) -/
  | baseDeadline (cls epoch : Nat)
  /-- Model outputs return and FEA encodes MODEL slots and hands TREE codes on. (R219) -/
  | modelOutputs (cls epoch : Nat) (outs : List ModelOut)
  /-- MODEL_DEADLINE passes and missing model slots are MISSING. (R220) -/
  | modelDeadline (cls epoch : Nat)
  /-- A write of STB_FEA_EXT_DATA sets an external code from the next epoch. (R218) -/
  | extDataWrite (entry value : Nat)
  /-- TRE builds keys and issues lookups for a subject's TREE codes. (R231) -/
  | treeEvaluate (cls epoch subject : Nat)
  /-- A subject's lookups complete and TRE writes its score rows. (R237) `errs`: ensemble, tree, and 1 for a single-bit or 2 for a double-bit error of the leaf word. -/
  | treeLookupsDone (cls epoch subject : Nat) (errs : List (Nat × Nat × Nat))
  /-- DEADLINE_US passes and unfinished lookups are abandoned with MISSING rows. (R236) -/
  | treeDeadline (level epoch : Nat)
  /-- The scrubber reads an entry and repairs it on parity failure. (R241) `bad`: parity fails; `backingPoison`: the backing copy is poisoned. -/
  | scrubRead (bank slice row : Nat) (bad backingPoison : Bool)
  /-- The old TRE bank retires when no epoch using it remains. (R240) -/
  | bankRetire
  /-- The dispatcher gives a tile to a pool core. (R247) -/
  | tileDispatch (home : Nat) (tile : Tile)
  /-- A core finishes a tile and its outputs are released. (R263) -/
  | tileComplete (core : Nat) (wrong : Option (List (List Nat)))
  /-- A residue check fails; the core is held and a dispute rerun starts. (R277) -/
  | residueMismatch (core loc : Nat) (rx : Option (List (List Nat)))
  /-- The rerun on core Y ends and the dispute outcome is decided. (R277) -/
  | disputeRerunDone (core : Nat) (clean : Bool) (ry : Option (List (List Nat))) (agrees : Bool) (loc : Nat)
  /-- A poisoned weight word is reloaded at the next tile boundary. (R271) -/
  | weightReload (core : Nat)
  /-- The dispatcher replays a queued Tile on the longest-idle core. (R279) -/
  | replayDispatch
  /-- A Tile record joins the replay queue or is dropped. (R340) -/
  | replayEnqueue (r : Rec)
  /-- ARB begins the next queued job. (R281) -/
  | arbJobStart
  /-- ARB finishes a job with its exact result. (R281) -/
  | arbJobDone
  /-- A job unfinished within ARB_TIMEOUT_MS ends without a result. (R281) `place` 0 is the job in progress, 1 and up the queued ones. -/
  | arbTimeout (place : Nat)
  /-- ARB's residue check fails and the job returns to the head of the queue. (R460) -/
  | arbResidue (loc : Nat)
  /-- A model run of the next waiting epoch begins. (R296) -/
  | modelRunStart (model : Nat)
  /-- A model run ends; outputs return and the slot header is written. (R296) The compiled graph's outputs and present keys and values, as FP32 codes. -/
  | modelRunEnd (model : Nat) (outs : List ModelOut) (kv : List KvEntry)
  /-- A level's issue instant comes and VRD builds the batch of the epoch. (R322) -/
  | issueInstant (level epoch : Nat)
  /-- A batch's signature completes and the batch goes to EXP. (R323) -/
  | batchSigned
  /-- A write of SPARES sets SPARE_LEFT from the next issue instant. (R314) -/
  | sparesWrite (value : Nat)
  /-- A master or deputy receives a child's verdict batch. (R322) -/
  | verdictBatchReceive (records : List Rec)
  /-- VRD receives a failing outcome against a die and counts it per stratum. (R333) -/
  | integrityOutcome (r : Rec)
  /-- A Digest report answers a checker dispute and decides its outcome. (R331) -/
  | digestReport (r : Rec)
  /-- The node aggregator receives a Tensor watch record. (R335) -/
  | tensorWatchReceive (r : Rec)
  /-- The evaluating master receives a WEIGHT_DIGEST and compares when all are present. (R336) -/
  | weightDigestReceive (r : Rec)
  /-- DEADLINE epochs after the first digest, the master compares an ordinal. (R336) -/
  | replicaDeadline (set ordinal : Nat)
  /-- FOCUS_EPOCHS pass and the replica set leaves focus. (R338) -/
  | focusEnd (set : Nat)
  /-- TST receives a Test result and updates due bits and outcomes. (R349) -/
  | testResultReceive (r : Rec) (now : Int)
  /-- A package due longer than DEFER_CEILING_S marks its core TEST_OVERDUE. (R350) -/
  | testOverdue (die core package : Nat)
  /-- An agent reads or writes a shared-store word with ECC and poison. (R352) The requester, the direction, the byte address of the word, the word and the poison bit written, and what the check of a word read finds: 0 clean, 1 correctable, 2 uncorrectable. -/
  | storeAccess (island : Nat) (write : Bool) (addr : Nat) (data : Word) (poison : Bool) (errs : Nat)
  /-- The patrol scrubber reads the next word of the store. (R353) What the check finds, as in STORE_ACCESS; `skip`: the word is being written in the same cycle. -/
  | patrolScrub (errs : Nat) (skip : Bool)
  /-- A write of ACTIVATE requests activation of the idle bank at the next tick. (R367) -/
  | dictActivate
  /-- A write to the idle dictionary bank, ignored for a retiring bank. (R367) -/
  | dictDataWrite (value : Nat)
  /-- A retiring bank's INFLIGHT reaches 0 and it becomes idle. (R367) -/
  | dictBankRetire
  /-- COD codes a block, storing it raw if coding does not shrink it. (R363) Element width code, whether the block is COD's own (coded with the active dictionary), the data, and the bytes free at the destination. -/
  | codeBlock (elem : Nat) (own : Bool) (raw : Bytes) (room : Nat)
  /-- COD decodes a block and reports its status. (R369) The record's TGEN, the DICT_SERIAL of an archive block's index entry, and the bytes. -/
  | decodeBlock (tgen : Nat) (serial : Option Nat) (block : Bytes)
  /-- A live coder ends its block at a flush and hands it on. (R371) The live coder that flushes. -/
  | liveFlush (coder : LiveCoder)
  /-- The assembler appends an archived epoch's slot to a stream's live block. (R373) -/
  | archiveAppend (stream : Nat)
  /-- The gateway completes an archive block write and the index entry is written. (R375) -/
  | archiveWriteDone (stream : Nat)
  /-- An archive pin lapses after 10 ms. (R375) The pin's number, 0 to 3. -/
  | pinExpire (pin : Nat)
  /-- A record reaches EXP and joins its destinations' egress queues. (R379) A record `r` of island `n`. -/
  | exportEnqueue (n : Nat) (r : Rec)
  /-- EXP chooses a queue by class and fair queuing and starts a frame. (R387) The LNK port that can start a frame. -/
  | exportFrameStart (port : Nat)
  /-- Every 1 µs each link and class bucket gains its rate. (R384) -/
  | bucketRefill
  /-- A held primary Summary whose age requires coarser resolution is merged. (R391) -/
  | heldSummaryMerge
  /-- An island offers a trace message and TRC accepts it into the ring. (R398) The island, the message code and its payload. -/
  | traceMessage (island : Nat) (code : Nat) (payload : Bytes)
  /-- A write of TRIG triggers a trace capture. (R402) -/
  | trcTrigWrite
  /-- The trigger reserve fills and TRC becomes FROZEN. (R401) -/
  | reserveFull
  /-- POST_EPOCHS ticks after the trigger end the capture. (R401) -/
  | postEpochsExpire
  /-- TRC empties the ring and returns to ARMED at a tick. (R401) -/
  | rearm
  /-- A write of REARM requests re-arm at the next tick. (R401) -/
  | trcRearmWrite
  /-- TRACE_BOOST is cleared at a tick when nothing remains or BOOST_MAX passed. (R405) -/
  | boostExpire
  /-- A write of STB_TRC_SNAP requests a Solstice snapshot. (R408) -/
  | snapRequest (epoch : Nat)
  /-- At the snapshot tick every island latches its items and TRC exports them. (R409) -/
  | snapshotTake (f : SnapFigures)
  /-- A Potik latches its state at s0 and sends one snapshot Trace record. (R411) What R411 latches from the die: beats since the eop of each lane, the four words of ptk_tst_wait, ns of the running test, bytes of the tile received, and µs that each re-digest has been held. -/
  | ptkSnapshot (die : Nat) (s0 : Int) (beats : List Nat) (waits : List Nat) (testNs : Nat) (tileBytes : Nat) (held : List Nat)
  /-- FREEZE freezes every _PMCn at the next tick. (R415) -/
  | pmcFreeze
  /-- UNFREEZE unfreezes every _PMCn at the next tick. (R415) -/
  | pmcUnfreeze
  /-- CLEAR clears every _PMCn at the next tick. (R415) -/
  | pmcClear
  /-- A _PMCn wraps, sets OVF and may raise the interrupt. (R413) -/
  | pmcOverflow (island : Nat) (counter : Nat)
  /-- LOAD starts the staging copy of an image. (R423) The 64-bit value written to STB_MGT_IMG_LEN. -/
  | imageLoad (value : Nat)
  /-- The staging copy ends as STAGED or FAILED. (R423) False when the gateway has refused a request of the copy. -/
  | stagingComplete (ok : Bool)
  /-- VERIFY starts verification of the staged image. (R424) -/
  | imageVerify
  /-- Verification ends as VERIFIED or FAILED with a reason. (R424) The content of the image's sections as the verifier has parsed them, and the first failure, reason and section table entry, that lies in an inner encoding which the spec does not lay out. -/
  | verificationDone (content : Image) (fail : Option (Nat × Nat))
  /-- ARM with COMMIT_EPOCH starts every island loading its shadow. (R425) The value written to STB_MGT_IMG_COMMIT, and the instant. -/
  | commitArm (value : Nat) (now : Int)
  /-- The last shadow is ready and the state becomes READY. (R425) -/
  | shadowReady (island : Nat)
  /-- 10 µs before the commit tick the commit is fixed or deferred. (R426) -/
  | guardInstant
  /-- CANCEL before the guard instant discards the shadows. (R427) -/
  | commitCancel
  /-- A steward program faults, stops and records an error. (R437) -/
  | programFault (program : Nat)
  /-- A tick handler has not returned by the next tick. (R437) -/
  | tickOverrun (program : Nat)
  /-- A stopped program restarts from its tick handler after the quiet period. (R437) -/
  | programRestart (program : Nat)
  /-- DOORBELL delivers a mailbox request to its owner. (R438) -/
  | mailboxDoorbell (mailbox : Nat)
  /-- The owner writes its response and DONE is set. (R438) -/
  | mailboxResponse (mailbox : Nat) (response : Bytes)
  /-- Query returning up to 64 registers. (R440) The block's time, and what _CYC reads at each place of the request. -/
  | readReg (now : Int) (cycs : List Nat)
  /-- Query writing up to 64 registers. (R440) -/
  | writeReg (now : Int)
  /-- Query returning bytes of a region with a poison map. (R440) The contents and the poison of a region in the memory stacks, none when the gateway refuses the read. -/
  | readRegion (ext : Option (Bytes × List Bool))
  /-- Query pinning an archive index entry. (R440) -/
  | archivePin
  /-- Query releasing an archive pin. (R440) -/
  | archiveUnpin
  /-- Query writing up to 256 external feature entries. (R440) -/
  | extWrite
  /-- Query setting SPARES, RATE and RESERVE of the Autumn budget. (R440) -/
  | setBudget
  /-- Query delivering part of a pattern package. (R440) The activation epoch and the deadline that the service gives a complete package. -/
  | packagePart (act deadline : Nat)
  /-- Query triggering a trace capture. (R440) -/
  | trigger
  /-- Query requesting a Solstice snapshot. (R440) -/
  | snapshot
  /-- Query returning generation, roles, epoch and image state. (R440) -/
  | status
  /-- A START request in mailbox 1 opens a JOB broadcast. (R442) -/
  | jobStart
  /-- A CANCEL request in mailbox 1 cancels a staged job. (R442) -/
  | jobCancel
  /-- A block receives a part of a tree broadcast and stores and forwards it. (R447) -/
  | broadcastPart (src kind resend gen act deadline part parts : Nat) (payload : Bytes)
  /-- A block receives a HEADS Broadcast and learns of open broadcasts. (R449) `entries`: KIND, PARTS, BGEN and DEADLINE_EPOCH of each. -/
  | heads (entries : List (Nat × Nat × Nat × Nat))
  /-- No part within 3 × h sends a REQUEST to the alternate parent. (R450) -/
  | broadcastRequest (kind : Nat)
  /-- A parent receives a REQUEST and resends held parts. (R450) -/
  | requestReceive (src kind gen first : Nat)
  /-- A block receives an Acknowledgement from a child or forwards it. (R451) -/
  | acknowledgement (root kind status gen covered holes : Nat) (final : Bool)
  /-- At its finalisation time a block sends its FINAL acknowledgement. (R452) -/
  | finalise (kind : Nat)
  /-- A die silent for 16 epochs is checked and re-armed. (R482) -/
  | armedCheck (die : Nat)
  /-- A detector reports an error, recorded or merged. (R462) -/
  | errorDetect (island code loc : Nat)
  /-- A 1 s interval ends and error counts restart. (R457) -/
  | errorInterval
  /-- The quiet period passes and the island recovers. (R468) -/
  | winterLeave (island : Nat)
  /-- A 3,600 s interval ends and HOUR_COUNT restarts. (R469) -/
  | hourInterval
  /-- FENCE forces Winter state and sets FENCED. (R470) -/
  | fence (island : Nat)
  /-- UNFENCE clears FENCED and LATCHED and starts a quiet period. (R470) -/
  | unfence (island : Nat)
  /-- ISLAND_RESET forces Winter outputs and clears the island's work. (R473) -/
  | islandReset (island : Nat)
  /-- An island reset releases within 100 µs. (R473) -/
  | islandResetRelease (island : Nat)
  /-- A write of HOLD; clearing it after the period recovers at once. (R468) -/
  | holdWrite (island : Nat) (value : Bool)
  /-- Writing 1 to VALID clears the first-error record. (R462) -/
  | errFirstClear (island : Nat)
  /-- ARM of _INJECT arms an inverted check on the next item. (R472) -/
  | injectArm (island value : Nat)
  /-- Self-test completes and failing cores are fenced. (R479) The islands that failed, the numbers of the store words that read uncorrectable, and whether stb_tamper_n is low now. -/
  | bistDone (failed words : List Nat) (tamper : Bool)
  /-- CERT_CHECK checks the device certificate against digest and key. (R480) The value written to STB_MGT_ID_CTRL with bit 13 set. -/
  | certCheck (value : Nat)
  /-- KEYGEN starts generating a pending key pair. (R487) The value written to STB_MGT_ID_CTRL with bit 16 set. -/
  | keygen (value : Nat)
  /-- The pending key pair is ready. (R487) -/
  | keygenDone
  /-- PROGRAM checks a request and starts programming a generation. (R487) The value written to STB_MGT_ID_CTRL with bit 18 set. -/
  | program (value : Nat)
  /-- OTP programming ends with the seal or a failure reason. (R488) Bit positions of copies A and B, 0 to 3,071, that read back differently. -/
  | programDone (wrong : List Nat)
  /-- At the first qualifying tick the block arms and raises stb_ready. (R481) Fleet time, in 2^-16 ns: that of a tick. -/
  | blockArm (now : Int)
  /-- ptk_rst_n resets all of Potik. (R482) -/
  | ptkReset (die : Nat)
  /-- SIGN starts signing the arming nonce. (R483) -/
  | ptkSign (die : Nat)
  /-- Potik finishes the signature and sets DONE. (R483) -/
  | ptkSignDone (die : Nat)
  /-- A write of ARM requests arming or disarming at the next tick. (R483) The value written to PTK_CTRL. -/
  | ptkArmWrite (die : Nat) (value : Nat)
  /-- A master receives the deputy's Acknowledgement of a presence record, ending its run of unanswered presence records. (R28) -/
  | presenceAcknowledgement (tier : Tier) (epoch : Nat)
  /-- A pulse on stb_lnk_tx_crd returns one beat credit for a switch traffic class of an LNK port. (R36) The port and the switch traffic class. -/
  | lnkCreditReturn (port : Nat) (tc : Nat)
  /-- A pulse on stb_mem_crd returns one request credit to a memory port. (R41) -/
  | memCreditReturn (port : Nat)
  /-- A census or programmable counter wraps and sets its sticky OVF bit, which a later wrap Event reports. (R108) The counter; for one of a group, its value before the domain cycle and the cycle's event slots; the instant. -/
  | counterWrap (die : Nat) (c : PCounter) (before : Nat) (slots : List PevSlot) (now : Int)
  /-- A write-stream beat is presented on the tap and enters the 32-beat FIFO, or is lost with its bytes counted as dropped when the FIFO is full. (R126) The beat, the die's voltage and frequency pins, and the instant. -/
  | wsBeatArrival (die : Nat) (b : WBeat) (vf : Vf) (now : Int)
  /-- A Potik receives a Control request frame, checks it, and holds it, discards it, answers BUSY, OP or REFUSED, or resends a stored response. (R163) EtherType, source address and payload of the frame, and the instant. -/
  | controlRequest (die : Nat) (etherType : Nat) (smac : Nat) (frame : Bytes) (now : Int)
  /-- The query service receives an MCTP query and queues it, or answers it at once with BUSY, UNSUPPORTED or LENGTH. (R441) The message's header and body, after the enterprise number. -/
  | queryRequest (request : Bytes)
  /-- ptk_rst_n is released; Potik reads its identity field and starts its servo in INIT. (R482) Copies A and B of the identity generation, and the level of ptk_tamper_n. -/
  | ptkResetRelease (die : Nat) (a : PIdCopy) (b : PIdCopy) (tamperHigh : Bool)
  /-- A pulse output's active width WIDTH runs out and the output returns to inactive. (R80) -/
  | pulseWidthEnd (n : Nat)
  /-- A read of a register with behaviour of its own: RC fields clear, a low-half 32-bit Potik read latches the high half, or an auto-advancing index moves. (R10) A die slot for the Potik window; the access's length; the time of the block or of the Potik; what _CYC counts. -/
  | registerRead (die : Option Nat) (addr bytes : Nat) (now : Int) (cyc : Nat)
deriving DecidableEq, Repr

end Sys2Proof
end

