-- ==== Sys2Proof/Config.lean ====
section
/-! DEFINITION. What one implementation fixes, and the values the spec leaves open: opaque constants, which no proof can
look into. -/

namespace Sys2Proof.Config

/-- A value that the spec leaves open, by the number of the draw (log entry 1). -/
opaque freeValue : Nat → Word

/-- The silicon revision that _ID reports (R494): fixed in silicon, and not stated (log entry 2). -/
def revision : Nat := 1

/-- The endpoint's UUID, 16 bytes as four words: fixed in silicon, and not stated (R45; log entry 5). -/
opaque endpointUuid : Nat → BitVec 32

/-- The MCTP versions that Get MCTP Version Support reports, first entry (R45; log entry 5). -/
opaque mctpVersion : BitVec 32

/-- SHA-384 (log entry 6). -/
opaque sha384 : Bytes → Bytes

/-- The ECDSA P-384 signature, r then s, that the private key of a public key gives for a digest (log entry 6). -/
opaque ecdsaSign : Bytes → Bytes → Bytes

/-- The public key of the private key that a wrapped key gives, none when the unwrap fails, and the wrapped key of a public key's private key
(R480, R484, R488; log entry 6). -/
opaque unwrapKey : Bytes → Option Bytes
opaque wrapKey : Bytes → Bytes

/-- The point of a DER-encoded X.509 v3 certificate whose subjectPublicKeyInfo names id-ecPublicKey on secp384r1, X then Y; none otherwise
(R480; log entry 6). -/
opaque certPoint : Bytes → Option Bytes

/-- The public key of a key pair that the random bit generator gives (R487; log entries 1 and 6). -/
opaque newKey : Nat → Bytes

/-- An ECDSA P-384 signature verifies: public key, digest, signature (log entry 6). -/
opaque ecdsaVerify : Bytes → Bytes → Bytes → Bool

/-- Which way stochastic rounding takes m / 2^k (R274; log entry 27). -/
opaque stochasticUp : Nat → Nat → Bool

/-- The FP32 code that a core's sum of exact terms v × 2^e gives under an OPEN profile, whose order and rounding are not stated (R275; log
entry 27). -/
opaque openSum : Nat → List (Int × Int) → Nat

end Sys2Proof.Config
end

