-- ==== Sys2Proof/Machine/State.lean ====
section
/-! DEFINITION. The state of the block and of the Potik units of its tray, as plain data: every register (in the two
register banks, each register at its address), every queue, buffer, table, counter and pin the spec names, and the queue of the
commands that wait. -/

namespace Sys2Proof.Machine

/-- A sparse table: keys strictly rising, no entry equal to what an unlisted key reads as. -/
abbrev Tab (β : Type) := List (Nat × β)

/-- Where a register field lies: the register's address, the field's lowest bit and width, and the distance `step`
between the copies of the register. -/
structure Fld where
  addr : Nat
  lo : Nat
  w : Nat
  step : Nat
deriving DecidableEq, Repr

/-- An access code of R10. -/
inductive Acc where
  | rw | ro | wo | w1c | w1s | rc
deriving DecidableEq, Repr

/-- The index register that selects the entry a data register shows (R497): its address, and where the index lies. -/
structure IdxRef where
  addr : Nat
  lo : Nat
  w : Nat
  pad : Nat
deriving DecidableEq, Repr

/-- One register of a window: its first address, the distance and number of its copies, its index register, and its
fields (lowest bit, width, access code). -/
structure RegRow where
  base : Nat
  step : Nat
  count : Nat
  idx : Option IdxRef
  flds : List (Nat × Nat × Acc)
deriving DecidableEq, Repr

/-- A stop that the spec gives. No command of this block faults: every rejected access or message has an answer that the
spec states (a bus error, a status code, a count), and that answer is its effect. -/
inductive Fault where
  /-- Raised by no command. Safe. -/
  | none
deriving DecidableEq, Repr

/-- A command without a meaning. -/
inductive Refusal where
  /-- Raised by an arm of `exec` that has no meaning yet. Safe: the run stops. -/
  | notModelled (mnemonic : String)
deriving DecidableEq, Repr

/-- Losses of one destination, or of one reporter, since its last Loss marker (R162). -/
structure Loss where
  total : Nat := 0
  firstEpoch : Nat := 0
  lastEpoch : Nat := 0
  firstOffset : Nat := 0
  lastOffset : Nat := 0
  byType : List Nat := []
deriving DecidableEq, Repr

/-- A copy of generation 0 as the model takes it to be programmed at delivery (R484; log entry 30): cores T0 to T79 enabled, EUI64 1, digest 1 of the
image signing key, the wrapped key and the certificate's digest 0, and its CHECK. -/
def otpCopy0 : BitVec 1536 := BitVec.ofNat 1536 0xa8c773eb000000000000000000000000000000000000000000000000000000000000000000000000000000000000000000000000000000000000000000000001000000000000000000000000000000000000000000000000000000000000000000000000000000000000000000000000000000000000000000000000000000000000000000000000000000000000000000000000000000000000000000000000000000000000000000000000000000010000ffffffffffffffffffff00000001

/-- The field at delivery: generation 0 sealed, generations 1 to 3 blank. -/
def otpDelivered : Tab OtpArea := [(0, { a := otpCopy0, b := otpCopy0, seals := 0xFF })]

/-- What one master or deputy role of a level keeps (R24 to R28). -/
structure RoleSt where
  /-- P of R24: the highest presence epoch a deputy has received. -/
  presence : Nat := 0
  /-- Presence records of a master without an acknowledgement, in a row (R28). -/
  unanswered : Nat := 0
  /-- A takeover Broadcast for this level has arrived: the master yields at the next tick (R27). -/
  yieldDue : Bool := false
  /-- The block that acts in this one's place (R27). -/
  acting : Option Nat := none
deriving DecidableEq, Repr

/-- The standing tree of one role of this block (R33). -/
structure TreeSt where
  parent : Option Nat := none
  alt : Option Nat := none
  children : List Nat := []
  /-- A takeover Broadcast has arrived from the parent's level: the new parent, taken at the first tick after it (R25). -/
  switchTo : Option Nat := none
  /-- The epoch from which the takeover asks to resend (R26). -/
  resendFrom : Nat := 0
deriving DecidableEq, Repr

/-- A package's lead (R21, R22), by die slot. -/
structure LeadSt where
  lead : Nat := 0
  alt : Nat := 0
  /-- All dies of the package. -/
  dies : List Nat := []
  /-- Consecutive epochs without a record from the lead. -/
  silent : Nat := 0
deriving DecidableEq, Repr

/-- MGT: management, interrupts, power, boundary inputs (01, 02). -/
structure Mgt where
  group : RoleSt := {}
  system : RoleSt := {}
  nodeTree : TreeSt := {}
  groupTree : TreeSt := {}
  systemTree : TreeSt := {}
  /-- Packages of the tray by package number. -/
  leads : Tab LeadSt := []
  /-- Islands whose message waits for stb_msi_ack, in the order offered (R47). -/
  msiWait : List Nat := []
  /-- stb_msi_req is high for the first of `msiWait`. -/
  msiReq : Bool := false
  /-- The newest cap code of the gateway that is not acknowledged yet (R58). -/
  capUnacked : Option Nat := none
  /-- The effective cap has risen and measures of R57 are being reversed. -/
  capRising : Bool := false
  /-- Cores parked under R57, the latest first, as island numbers. -/
  parked : List Nat := []
  /-- Sum and number of the estimates of the open epoch, for EPOCH_AVG_W. -/
  estSum : Nat := 0
  estCount : Nat := 0
  /-- The reference clock is missing now (R50). -/
  refclkLost : Bool := false
  /-- Reset inputs asserted now: power-on, cold, warm (R49). -/
  por : Bool := false
  cold : Bool := false
  warm : Bool := false
  /-- stb_ready (R481). -/
  ready : Bool := false
  /-- The public key of the working key pair (R489); none before stage IDENTITY and after its erasure (R490). -/
  key : Option Bytes := none
  /-- Errors counted in the running 1 s interval, per island: CORRECTED and CONTAINED (R457). -/
  ceCount : Tab Nat := []
  ueCount : Tab Nat := []
  /-- The staged image (R423, R424): its length, 0 without one, and what verification has read from it. -/
  stagedLen : Nat := 0
  verified : Option Image := none
  /-- The armed commit (R426, R427): the epoch of the tick it is aimed at, its deferrals so far, and whether it is fixed. -/
  aim : Nat := 0
  deferrals : Nat := 0
  fixed : Bool := false
  /-- The one-time-programmable field (R484), area 0 to 3; it outlives power. -/
  otp : Tab OtpArea := otpDelivered
  /-- A programming in progress (R488), its area and the copy it writes; the public key that the copy's generation holds. -/
  otpProg : Option (Nat × BitVec 1536) := none
  /-- The pending key pair's public key (R487). -/
  pendingKey : Option Bytes := none
  /-- A KEYGEN runs. -/
  keygen : Bool := false
  /-- A CERT_CHECK that waits for the public key (R480). -/
  certHeld : Bool := false
  /-- When a warm reset was released: the block arms 100 µs later at the earliest (R478). -/
  released : Option Int := none
deriving DecidableEq, Repr

/-- LNK: the four switch ports (02). -/
structure Lnk where
  /-- Beat credits held, keyed by port × 8 + switch traffic class (R36); negative while beats of a frame in progress wait for theirs. -/
  credits : Tab Int := []
  /-- Counts of the physical channels' transfers, sent and received, keyed by receiver × 65,536 + channel (R409). -/
  chanSent : Tab Nat := []
  chanRecv : Tab Nat := []
deriving DecidableEq, Repr

/-- The servo of R71 to R74, which TIM and every Potik run. -/
structure Servo where
  /-- State code of R71. -/
  st : Nat := 0
  /-- Rate in 2^-48 steps (R72). -/
  rate : Int := 0
  /-- The integral of R72, in 2^-16 ns. -/
  sum : Int := 0
  /-- Measurements of ACQUIRE, the first first. -/
  acq : List Int := []
  /-- Consecutive offsets within LOCK_THRESH, and above UNLOCK_THRESH. -/
  lockRun : Nat := 0
  unlockRun : Nat := 0
  /-- A step that waits for the next tick (R74): the median to subtract, in 2^-16 ns. -/
  stepDue : Option Int := none
deriving DecidableEq, Repr

/-- A two-step Sync that waits for its Follow_Up (R70). -/
structure SyncWait where
  seqId : Nat
  t2 : Int
  corr : Int
deriving DecidableEq, Repr

/-- A time link's exchanges (R69, R70). -/
structure TLink where
  /-- A two-step Sync without its Follow_Up. -/
  wait : Option SyncWait := none
  /-- t2 − t1 − c_sync of the latest complete Sync. -/
  sync : Option Int := none
  /-- The outstanding Delay_Req: sequenceId and t3. -/
  dreq : Option (Nat × Int) := none
  /-- The outstanding Pdelay_Req: sequenceId and its send time. -/
  pdreq : Option (Nat × Int) := none
  /-- A two-step Pdelay_Resp that waits for its follow-up: t2, t4 and correction. -/
  pdresp : Option (Int × Int × Int) := none
  /-- mean_link of the peer-delay exchange. -/
  meanLink : Option Int := none
  /-- The latest ô of a closure link, until it is reported (R88). -/
  closure : Option Int := none
  /-- Next sequenceIds of the messages sent. -/
  nextSync : Nat := 0
  nextDreq : Nat := 0
  /-- The asymmetry in force: that of STB_TIM_ASYM_DATA as of the last tick (R90). -/
  asym : Int := 0
deriving DecidableEq, Repr

/-- One entry of a capture FIFO (R82). -/
structure CapEntry where
  time : Int
  unqual : Bool
deriving DecidableEq, Repr

/-- A pulse output (R80, R81). -/
structure Pulse where
  /-- The output is active now. -/
  active : Bool := false
  /-- The fleet time of the next active edge; none when no edge is to come. In Equinox mode edges follow the ticks. -/
  next : Option Int := none
  /-- Equinox mode has been written and its first tick is to come or has come. -/
  equinox : Bool := false
deriving DecidableEq, Repr

/-- TIM: fleet time (03). -/
structure Tim where
  /-- The time counter, in 2^-16 ns, as the last command that depends on it read it. -/
  time : Int := 0
  /-- The counter's value from which the open epoch's stamps count: time − opened is the advance of R74. -/
  opened : Int := 0
  /-- An epoch has been opened since the block armed. -/
  open_ : Bool := false
  /-- A step was applied in the open epoch (STEPPED, R74). -/
  stepped : Bool := false
  servo : Servo := {}
  /-- Sync intervals without a valid measurement (R71). -/
  silent : Nat := 0
  sched : Option Sched := none
  pending : Option Sched := none
  /-- The schedule before the running one took over (R177). -/
  before : Option Sched := none
  links : Tab TLink := []
  /-- Capture FIFOs, per input, oldest first. -/
  caps : Tab (List CapEntry) := []
  pulses : Tab Pulse := []
  /-- Driver software has set the time of this grandmaster (R71, R83). -/
  gmSet : Bool := false
  /-- Closure offsets received for the latest interval, keyed by pair index: group x × 256 + group y (R88). -/
  closures : Tab (Option Int) := []
deriving DecidableEq, Repr

/-- A Control request without its response (R164): what it was sent for decides what the response does. -/
inductive CtrlFor where
  /-- Arming step of R483, 1 to 4. -/
  | arm (step : Nat)
  | disarm
  /-- The staged configuration of a job written into an armed Potik (R446). -/
  | config
  /-- A read of PTK_CTRL (R482). -/
  | check
  /-- A trigger, a snapshot request, a quota or a redirection: nothing follows the response. -/
  | plain
  /-- A package part, of the package in the given slot (R347). -/
  | package (slot : Nat)
deriving DecidableEq, Repr

/-- An outstanding Control request of the node aggregator. -/
structure CtrlReq where
  tag : Nat
  die : Nat
  body : CtrlBody
  resends : Nat := 0
  purpose : CtrlFor := .plain
deriving DecidableEq, Repr

/-- A reassembly in progress (R149). -/
structure Reasm where
  src : Nat
  seq : Nat
  frags : Tab (Option Bytes) := []
  last : Option Nat := none
deriving DecidableEq, Repr

/-- What ING keeps of a stream beside its registers: whether X is set, the bitmap of the 64 numbers below X (bit k: X − 1 − k is
missing), and the token buckets in 1/1000 bit, none while full (R166, R171). -/
structure StreamSt where
  xSet : Bool := false
  missing : Nat := 0
  tokens : Option (Nat × Nat) := none
deriving DecidableEq, Repr

/-- Losses of a sender in the open epoch (R172). -/
structure Tally where
  gap : Int := 0
  shaper : Nat := 0
  dropped : Loss := {}
  /-- A Loss marker of the sender was dropped: the count is unknown (R168). -/
  unknown : Bool := false
deriving DecidableEq, Repr

/-- ING: ingest (06). -/
structure Ing where
  /-- Record frames that LNK has handed over, oldest first. -/
  frames : List Bytes := []
  reasm : List Reasm := []
  /-- SRC and SEQ of records discarded in reassembly, whose later fragments are discarded too (R149). -/
  dead : List (Nat × Nat) := []
  /-- Whole records that wait for the header check, oldest first. -/
  arrived : List Bytes := []
  streams : Tab StreamSt := []
  /-- Ingest queues, oldest first (R169). -/
  queues : Tab (List Rec) := []
  tallies : Tab Tally := []
  /-- Die slots of which a record has arrived in the open epoch (R22, R482). -/
  heard : List Nat := []
deriving DecidableEq, Repr

/-- An input of the node level's reduction, and of FEA: an aligned count or a health statistic (R179, R185). -/
structure AInput where
  /-- Address of the unit; of the die for counter groups and sensors. -/
  src : Nat
  /-- 0 census, 1 counter group, 2 cycles, 3 MEAN, 4 MIN, 5 MAX, 6 COUNT. -/
  kind : Nat
  /-- Counter, group × 8 + counter, group, or sensor. -/
  index : Nat
  value : Int
  eflags : Nat := 0
  poison : Bool := false
deriving DecidableEq, Repr

/-- What ALN keeps of a counter (R175, R177): the reconstructed value, the raw one, its stamp, whether the stamp is usable, its epoch,
and the rounded aligned value of that epoch with its flags. -/
structure CRef where
  r : Int
  raw : Nat
  offset : Nat
  usable : Bool
  epoch : Nat
  aligned : Int
  eflags : Nat
deriving DecidableEq, Repr

/-- A sender's contribution to an epoch of a level. -/
structure Contrib where
  sender : Nat
  inputs : List AInput := []
  /-- At the group and system levels: the child's Summaries, primary first. -/
  sums : List SumBody := []
  quality : Nat := 0
  loss : Bool := false
  poisoned : Nat := 0
  lateIn : Nat := 0
deriving DecidableEq, Repr

/-- An epoch of a level: open, closed and waiting for reduction, or reduced and within its late horizon. -/
structure AEpoch where
  level : Nat
  epoch : Nat
  /-- 0 open, 1 closed, 2 reduced, 3 abandoned. -/
  st : Nat := 0
  contribs : List Contrib := []
  late : List Contrib := []
  expected : Nat := 0
  lost : Nat := 0
  /-- Closes of the level since this epoch closed. -/
  age : Nat := 0
deriving DecidableEq, Repr

/-- The upward Summaries of a level: the span in progress (R194, R195). -/
structure Outlet where
  span : Option SumBody := none
  /-- The latest Coarsen request: sender, STEP, FROM_EPOCH. -/
  req : Option (Nat × Nat × Nat) := none
  /-- FROM_EPOCH of the level's own step, and the step before it. -/
  selfFrom : Nat := 0
  selfOld : Nat := 0
  /-- Resolution now sent. -/
  res : Nat := 0
  quiet : Nat := 0
  /-- Epochs since the level's own request was last sent; FROM_EPOCH and whether a bypass is being waited for. -/
  sinceReq : Nat := 0
  bypassFrom : Option Nat := none
  /-- A bypass Broadcast of the parent: the block's Summaries go to this group from the epoch on. -/
  divert : Option (Nat × Nat) := none
deriving DecidableEq, Repr

/-- ALN: alignment and reduction (07). -/
structure Aln where
  epochs : List AEpoch := []
  /-- Counter references, keyed by slot × 2^20 + unit × 2^8 + counter for the census, and by 2^40 above for counter groups. -/
  refs : Tab (Option CRef) := []
  /-- Raw values of the last sweep of each census counter by the sweep's epoch, for DELTA records (R176): epoch and raw value. -/
  raws : Tab (Option (Nat × Nat)) := []
  outlets : Tab Outlet := []
  /-- The replay ring of upward Summaries of the last 64 closed epochs, per level, oldest first (R26). -/
  rings : Tab (List Rec) := []
  /-- Sources and epochs of primary Summaries already accepted, per level: duplicates are discarded (R26). -/
  seen : Tab (List (Nat × Nat)) := []
deriving DecidableEq, Repr

/-- A memory-port request (R41): its tag, address in the memory stacks, length in 64-byte units, direction, and, for a read, the shared-store
address that its data goes to. -/
structure MemReq where
  tag : Nat
  addr : Nat
  len : Nat
  write : Bool
  dest : Nat := 0
deriving DecidableEq, Repr

/-- STO: the shared store and the memory ports (14). -/
structure Sto where
  /-- The shared store, by byte address (R351), and its poisoned words, by word address. -/
  mem : Tab Byte := []
  poison : Tab Bool := []
  /-- The retiring region map (R357), and the epoch at whose tick it was replaced. -/
  old : List Region := []
  oldFrom : Nat := 0
  /-- The next word the patrol scrubber reads (R353). -/
  scrubAt : Nat := 0
  /-- Requests that wait for a credit or the grant, oldest first; outstanding ones and credits per port (R41). -/
  waiting : List MemReq := []
  out : Tab (List MemReq) := []
  credits : Tab Nat := []
  nextTag : Nat := 0
deriving DecidableEq, Repr

/-- An index entry of R374. -/
structure IndexEntry where
  first : Nat
  epochs : Nat
  offset : Nat := 0
  size : Nat := 0
  serial : Nat := 0
  raw : Bool := false
  gap : Bool := false
  poison : Bool := false
  valid : Bool := false
  tgen : Nat := 0
  stream : Nat
deriving DecidableEq, Repr

/-- What the archive assembler keeps of a stream (R373 to R377). -/
structure Arch where
  /-- The next epoch to consider; none before the stream has seen one. -/
  next : Option Nat := none
  /-- The open live block: raw bytes, first epoch, archived epochs, poisoned source, last epoch, and the bank it began with: TGEN and serial. -/
  raw : Bytes := []
  first : Nat := 0
  count : Nat := 0
  bad : Bool := false
  last : Nat := 0
  tgen : Nat := 0
  serial : Nat := 0
  /-- The entry of the block being written. -/
  writing : Option IndexEntry := none
  /-- The next block's offset, and the next entry's place in the index ring. -/
  offset : Nat := 0
  place : Nat := 0
  /-- The index ring, by place. -/
  entries : Tab (Option IndexEntry) := []
deriving DecidableEq, Repr

/-- COD: the codec (14). -/
structure Cod where
  /-- The entries of banks 0 and 1 when active or retiring (R367). -/
  banks : Tab (List Nat) := []
  /-- The bank that is idle, or retiring until it is idle. -/
  idle : Nat := 0
  /-- The dictionary log of R368: serials and dictionaries, newest first, at most 16. -/
  log : List (Nat × List Nat) := []
  arch : Tab Arch := []
  /-- Pinned entries by pin number, 0 to 3: stream and place (R375). -/
  pins : Tab (Option (Nat × Nat)) := []
deriving DecidableEq, Repr


/-- A slot of a row (R206, R215): its FP32 value, none while missing or not evaluated; its code and status. -/
structure SlotVal where
  val : Option Nat := none
  code : Nat := 0
  status : Nat := 2
deriving DecidableEq, Repr

/-- A feature row (R222) with its FP32 values. -/
structure FRow where
  cls : Nat
  subject : Nat
  epoch : Nat
  flags : Nat := 0
  baseGen : Nat := 0
  /-- Passes done: bit 0 pass 1, bit 1 residuals, bit 2 model outputs. -/
  passes : Nat := 0
  slots : List SlotVal := []
  /-- Its baseline product has returned; its model outputs. -/
  product : Bool := false
  outs : Option (List Nat) := none
  outSat : Bool := false
deriving DecidableEq, Repr

/-- Interval sums of the baseline (R210), fixed point: N, S, and Y by columns. -/
structure BaseSums where
  n : Int := 0
  s : List Int := []
  y : List (List Int) := []
deriving DecidableEq, Repr

/-- FEA: features (08). -/
structure Fea where
  /-- Rows of the last 64 closed epochs and of those in progress. -/
  rows : List FRow := []
  /-- EWMA states: inputs taken and s, keyed by (class × 2^32 + subject) × 256 + slot. -/
  ewma : Tab (Option (Nat × Nat)) := []
  /-- External entries in force: the register's word and the epoch from which it acts; entries written since the last tick. -/
  ext : Tab (Option (Nat × Nat)) := []
  extDue : List Nat := []
  /-- Baseline generations: in force, since which epoch, the one before, and the one that waits. -/
  base : Option BaseGen := none
  since : Nat := 0
  before : Option BaseGen := none
  next : Option BaseGen := none
  /-- The generation slot of R360 that is in force: 0 A, 1 B. -/
  slot : Nat := 0
  /-- Loadings by subject, and interval sums by interval number. -/
  loadings : Tab (List Nat) := []
  sums : Tab BaseSums := []
deriving DecidableEq, Repr



/-- A bank of TRE (R223, R239): the tables loaded, entries invalidated, and trees excluded under R242, as ensemble × 8,192 + tree. -/
structure TreeBank where
  tables : TreeTables := {}
  excluded : List Nat := []
deriving DecidableEq, Repr

/-- A leaf reference of a score row (R237). -/
structure LeafRef where
  value : Nat
  selector : Nat
  feature : Nat
  cause : Nat
  cls : Nat
  place : Nat
  bank : Nat
  nan : Bool
deriving DecidableEq, Repr

/-- A score row (R237). -/
structure ScoreRow where
  cls : Nat
  subject : Nat
  epoch : Nat
  ensemble : Nat
  bank : Nat := 0
  status : Nat := 0
  classes : Nat := 1
  winner : Nat := 0
  flags : Nat := 0
  trees : Nat := 0
  gen : Nat := 0
  excluded : Nat := 0
  margins : List Nat := []
  refs : List LeafRef := []
deriving DecidableEq, Repr

/-- TRE: tree ensembles (09). -/
structure Tre where
  banks : Tab TreeBank := []
  /-- The backing region's copy of each bank's tables (R239), which R242 and R244 use. -/
  backing : Tab TreeTables := []
  /-- Subjects whose lookups are in progress: class, epoch, subject, bank. -/
  flight : List (Nat × Nat × Nat × Nat) := []
  /-- Score rows of the last 64 epochs. -/
  rows : List ScoreRow := []
  /-- The bank that a commit has loaded as TRE's shadow. -/
  shadow : Bool := false
deriving DecidableEq, Repr

/-- A package due on a core (R349): since which epoch and time; whether the Potik's due bit has been set. -/
structure DueCore where
  die : Nat
  core : Nat
  pkg : Nat
  epoch : Nat
  time : Int
  marked : Bool := false
deriving DecidableEq, Repr

/-- A Potik's slot as TST fills it (R348): the package with its version, and the next byte of its body; none once loaded. -/
structure TstSlot where
  pkg : Nat
  version : Nat
  next : Option Nat := some 0
deriving DecidableEq, Repr

/-- TST: test scheduling (13). -/
structure Tst where
  /-- Packages held, those whose activation epoch is to come included. -/
  packages : List Package := []
  /-- Slots of the Potik units, keyed by die slot × 16 + package slot. -/
  slots : Tab (Option TstSlot) := []
  due : List DueCore := []
  /-- The last PASS or FAIL: die slot, core, package and time. -/
  done : List (Nat × Nat × Nat × Int) := []
  /-- NO_ANSWER results in a row: die slot, core, package and number. -/
  noAns : List (Nat × Nat × Nat × Nat) := []
  /-- Cores with an overdue package: fleet address and package; and the cores marked TEST_OVERDUE in the open epoch (R350). -/
  late : List (Nat × Nat) := []
  overdue : List Nat := []
deriving DecidableEq, Repr


/-- An open round of DIG (R328): a covered chunk failed or is POISONED; senders with a dispute; arrivals by contributor (R311). -/
structure DRound where
  round : Nat
  /-- Chunks seen (R409). -/
  chunks : Nat := 0
  stop : Bool := false
  disputed : List Nat := []
  arrivals : List (Nat × Int) := []
deriving DecidableEq, Repr

/-- Straggler figures of a level and epoch (R311): rounds, and charge in 2^-16 ns and LAST count by contributor. -/
structure Strag where
  level : Nat
  epoch : Nat
  rounds : Nat := 0
  charges : List (Nat × Int × Nat) := []
deriving DecidableEq, Repr

/-- DIG: digest checking (13). -/
structure Dig where
  rounds : List DRound := []
  /-- Rounds of which no chunk is checked, not answered yet (R40, R328). -/
  unchecked : List Nat := []
  /-- Rounds answered, within half the number space behind the latest (log entry 29). -/
  answered : List Nat := []
  /-- Rounds answered 0b10 since DIG entered Winter state (R333). -/
  dark : Nat := 0
  strag : List Strag := []
  /-- Epochs in which DIG answered 0b10 or was in Winter state (R312). -/
  unmeasured : List Nat := []
deriving DecidableEq, Repr


/-- A sequence model's runs (R296): epochs whose tokens wait, oldest first, the running epoch, and MIN_PAST by the epoch from which it applies. -/
structure Seq where
  waiting : List Nat := []
  running : Option Nat := none
  minPast : List (Nat × Nat) := []
deriving DecidableEq, Repr

/-- What a tile runs for (R246, R272, R277, R279). -/
inductive TileFor where
  | main
  | canary
  /-- A dispute's rerun, of the core X that is held. -/
  | rerun (x : Nat)
  /-- Sub-tile `sub` of a replay, on the first or the second core of a pair. -/
  | replay (no sub : Nat) (second : Bool)
deriving DecidableEq, Repr

/-- A tile in a core's sequencer. -/
structure CoreJob where
  tile : Tile
  why : TileFor
deriving DecidableEq, Repr

/-- A tensor core (R246): tiles given to it, the running one first, and its LFSR (R272). -/
structure Core where
  jobs : List CoreJob := []
  lfsr : BitVec 32 := 1
deriving DecidableEq, Repr

/-- An open residue dispute (R277): core X and its job, result R_X; core Y and R_Y once it is known; ARB has it. -/
structure Dispute where
  x : Nat
  job : CoreJob
  rx : List (List Nat)
  y : Nat
  ry : Option (List (List Nat)) := none
  arb : Bool := false
deriving DecidableEq, Repr

/-- A canary tile's FP32 outputs (R273): its layer, y4 and y8. -/
structure CanaryPair where
  id : Nat
  layer : Nat
  y4 : Option (List Nat) := none
  y8 : Option (List Nat) := none
deriving DecidableEq, Repr

/-- A captured tile (R134, R340): its die, context tag, whether it was forced, the tile, and the accelerator's output by row. -/
structure Captured where
  die : Nat
  context : Nat
  forced : Bool
  fmtA : Nat
  fmtB : Nat
  fmtC : Nat
  cIn : Bool
  m : Nat
  n : Nat
  k : Nat
  profile : Nat
  data : Bytes
deriving DecidableEq, Repr

/-- A sub-tile of a replay (R279): its first row and column, its cores, and their results. -/
structure SubTile where
  row : Nat
  col : Nat
  cores : List Nat
  first : Option (List (List Nat)) := none
  second : Option (List (List Nat)) := none
  paired : Bool := false
  done : Option (List (List Nat)) := none
deriving DecidableEq, Repr

/-- A replay in progress, or judged by ARB. -/
structure Replay where
  no : Nat
  src : Captured
  subs : List SubTile
deriving DecidableEq, Repr

/-- An ARB job (R281): kind 0 residue dispute of core `ref`, 1 replay number `ref`, 2 checker dispute of die `ref` with round and sequence. -/
structure ArbJob where
  kind : Nat
  ref : Nat
  round : Nat := 0
  seq : Nat := 0
deriving DecidableEq, Repr

/-- The tensor dispatcher, the cores and ARB (10). -/
structure Tdsp where
  cores : Tab Core := []
  /-- Cores by the time since which they are idle, the longest first. -/
  idle : List Nat := List.range 84
  /-- STB_STW_TDSP_CFG as of the last tick (R261). -/
  cfg : Word := 0x6406081303
  /-- Canary buffer: E4M3 rows of canary sources by tile number (R272). -/
  canaryBuf : Tab (Option (List (List Blk))) := []
  pairs : List CanaryPair := []
  /-- Canary tiles and sum of d of the open epoch, by layer tag. -/
  canarySum : Tab (Nat × Nat) := []
  disputes : List Dispute := []
  replayQ : List Captured := []
  replays : List Replay := []
  nextReplay : Nat := 0
  arbQ : List ArbJob := []
  arb : Option ArbJob := none
  /-- Recovered cores, which join the pool at the next tick (R466). -/
  rejoin : List Nat := []
deriving DecidableEq, Repr

/-- Trials and failures of a die in a stratum in an epoch (R305, R342). -/
structure Evid where
  die : Nat
  stratum : Nat
  epoch : Nat
  trials : Nat := 0
  fails : Nat := 0
deriving DecidableEq, Repr

/-- VRD's bookkeeping of a subject that this block evaluates (R302 to R306): bits, own level, epochs with data since a condition last held for it,
epochs without data, the latest score, cause output, cause and row, the effective level and cause with their contributor, and candidacy. -/
structure VSub where
  cls : Nat
  subject : Nat
  watch : Nat := 0
  suspect : Nat := 0
  level : Nat := 0
  calm : Nat := 0
  noData : Nat := 0
  score : Nat := 0
  causeP : Nat := 0
  cause : Nat := 0
  rowEpoch : Nat := 0
  rowFlags : Nat := 0
  stratum : Option Nat := none
  /-- Effective level and cause, the epoch in which the level began, and the unit or die that gives the cause. -/
  eff : Nat := 0
  effCause : Nat := 0
  since : Nat := 0
  cited : Nat := 0
  /-- Consecutive epochs with data at an effective level of SUSPECT, and candidacy (R306). -/
  susRun : Nat := 0
  cand : Bool := false
  /-- The last epoch whose effective level was SUSPECT or higher, and the epoch of the last record issued. -/
  lastSus : Option Nat := none
  issued : Nat := 0
deriving DecidableEq, Repr

/-- A child's latest batch at a master (R322): level of the master, the child's address, the epoch, the records, and whether it has come since the
last issue instant. -/
structure VChild where
  level : Nat
  src : Nat
  epoch : Nat
  recs : List Rec
  fresh : Bool := true
deriving DecidableEq, Repr

/-- What a master keeps of a die below it: the latest Verdict's body, the latest Explanation bodies, the level it last issued for it, and, while
a FENCE_RECOMMEND stands, the epochs without a restatement (R310, R315, R317). -/
structure VDie where
  die : Nat
  body : Bytes
  expl : List Bytes := []
  last : Nat := 2
  fenced : Option Nat := none
deriving DecidableEq, Repr

/-- A batch that waits for its signature (R322, R323). -/
structure VBatch where
  level : Nat
  epoch : Nat
  recs : List Rec
deriving DecidableEq, Repr

/-- VRD: verdicts (12). -/
structure Vrd where
  /-- Trials and failures within EVID_WINDOW. -/
  evid : List Evid := []
  subs : List VSub := []
  children : List VChild := []
  /-- Dies below this block as a group master and as the system master. -/
  groupDies : List VDie := []
  systemDies : List VDie := []
  /-- The Autumn budget (R314, R315): a written SPARES that waits for the next issue instant, the ledger of dies and epochs, and the held queue. -/
  sparesDue : Option Nat := none
  ledger : List (Nat × Nat) := []
  held : List Nat := []
  /-- Domains standing: level, type, number, and the epoch in which the verdict began; domains the system master's batches name (R320, R321). -/
  domains : List (Nat × Nat × Nat × Nat) := []
  outer : List (Nat × Nat) := []
  /-- Late child records by level since the level's last issue instant (R322). -/
  late : Tab Nat := []
  /-- Batches that wait, the one being signed first; its first signature has failed (R460). -/
  batches : List VBatch := []
  signFailed : Bool := false
deriving DecidableEq, Repr

/-- An acknowledgement as a block sends it: STATUS, FINAL, COVERED and HOLE_DEVICES (R445). -/
structure Ack where
  status : Nat := 0
  final : Bool := false
  covered : Nat := 0
  holes : Nat := 0
deriving DecidableEq, Repr

/-- A tree broadcast of one kind (R447 to R452); its BGEN, PARTS, PARTS_HELD and counts are register fields. -/
structure Bcast where
  /-- Part payloads held, keyed by part index. -/
  held : Tab (Option Bytes) := []
  actEpoch : Nat := 0
  deadline : Nat := 0
  /-- The broadcast is known, from a part or a HEADS entry (R449, R450). -/
  known : Bool := false
  /-- Dies whose arming challenge a JOB broadcast waits for (R446), and those that failed it. -/
  challenged : List Nat := []
  failed : List Nat := []
  /-- The block holds the broadcast (R446). -/
  holds : Bool := false
  /-- Acknowledgements counted, per root: covered and hole devices (R451). -/
  acks : Tab (Option (Nat × Nat)) := []
  /-- The latest acknowledgement this block sent. -/
  own : Option Ack := none
  /-- A REQUEST has gone to the alternate parent, and whether the next one goes there too (R450). -/
  askedAlt : Bool := false
  nextAlt : Bool := true
  /-- No new part has come from the parent for 3 × h (R450). -/
  silent : Bool := false
  /-- Blocks that asked for parts from an index on, while parts are still to come (R450). -/
  asking : List (Nat × Nat) := []
  finalised : Bool := false
deriving DecidableEq, Repr

/-- A job (R442): what it excludes, its parameters and its activation. -/
structure Job where
  /-- Exclude (true) and include entries in order, the later one deciding. -/
  delta : List (Nat × Bool) := []
  rounds : Nat := 1
  act : Nat := 0
  gen : Nat := 0
deriving DecidableEq, Repr

/-- A WEIGHT_DIGEST held (R336). -/
structure WDigest where
  set : Nat
  ord : Nat
  member : Nat
  status : Nat
  digest : Nat
  context : Nat
  since : Nat
deriving DecidableEq, Repr

/-- A Potik that is being armed (R483): for a staged job, whose tick sets ARM; the nonce written, and when. -/
structure Arming where
  die : Nat
  job : Bool := false
  nonce : Bytes := []
  sent : Int := 0
deriving DecidableEq, Repr

/-- A query that the query service holds (R439, R441): whether it came through mailbox 0, and its header and body. -/
structure Query where
  mbox : Bool
  req : Bytes
deriving DecidableEq, Repr

/-- STW: the steward cluster (10, 11, 13, 17, 18). -/
structure Stw where
  /-- Control requests without a response, oldest first (R164). -/
  ctrl : List CtrlReq := []
  /-- The next TAG. -/
  nextTag : Nat := 0
  /-- Dies whose Potik is armed. -/
  armed : List Nat := []
  arming : List Arming := []
  /-- Tick overruns of each program in a row, and the epoch of the last (R437). -/
  overruns : Tab (Nat × Nat) := []
  /-- Tree broadcasts, keyed by kind 2 to 5. -/
  bcasts : Tab Bcast := []
  /-- Digests that replica comparisons wait for (R336). -/
  digests : List WDigest := []
  /-- Ordinals by set × 2^32 + member, members with an unsynced slot instance so keyed, and senders whose class-3 stream has lost records since
  the job start (R335). -/
  ordinals : Tab Nat := []
  cut : List Nat := []
  gapped : List Nat := []
  /-- Sets in focus, and the members of this tray whose quotas are raised, with their set (R338). -/
  focus : List Nat := []
  focused : List (Nat × Nat) := []
  /-- The job in force and the staged one (R453). -/
  job : Job := {}
  staged : Option Job := none
  /-- Queries that wait for their answer, oldest first (R441), and the parts of pattern packages delivered by query (R440). -/
  queries : List Query := []
  pkgParts : Tab (List (Nat × Bytes)) := []
deriving DecidableEq, Repr

/-- An egress queue of one destination and class (R378, R387). -/
structure EQueue where
  recs : List Rec := []
  s : BitVec 64 := 0
  f : BitVec 64 := 0
deriving DecidableEq, Repr

/-- The frame EXP has started on a port (R381): its link, destination, class and records. -/
structure TxFrame where
  link : Nat
  dest : Nat
  cls : Nat
  recs : List Rec
deriving DecidableEq, Repr

/-- EXP: export (15). -/
structure Exp where
  /-- Queues keyed by destination × 8 + (CLASS − 8). -/
  queues : Tab EQueue := []
  /-- Virtual times keyed by link × 8 + class. -/
  v : Tab (BitVec 64) := []
  /-- Link buckets, and class buckets keyed by link × 8 + class, in bits; a stopped bucket is one whose rate was 0 at the last refill
  (R383 to R385). -/
  linkBits : Tab Int := []
  classBits : Tab Int := []
  linkStop : Tab Bool := []
  classRun : Tab Bool := []
  /-- Losses not yet reported, per destination (R379). -/
  losses : Tab Loss := []
  /-- Frames in progress, per LNK port. -/
  tx : Tab (Option TxFrame) := []
  /-- Fragments of a record still to leave: port, and the record's remaining payloads (R381). -/
  frags : Tab (List Bytes) := []
  /-- Long-haul ports that must be seen low and then rise after stb_mcs_alarm (R389): seen low already or not. -/
  alarmWait : Tab Nat := []
  /-- Next sequence numbers of the records the block originates, per source address (R153). -/
  seqs : Tab Nat := []
deriving DecidableEq, Repr

/-- An entry of the trace ring (R397). -/
structure TrcEntry where
  source : Nat
  sync : Bool := false
  code : Nat
  iseq : Nat := 0
  payload : Bytes := []
  epoch : Nat := 0
  offset : Nat := 0
  quality : Nat := 0
deriving DecidableEq, Repr

/-- TRC: the block's own trace and snapshots (16). -/
structure Trc where
  /-- Message FIFOs, per island, at most 64 entries each (R398). -/
  fifos : Tab (List TrcEntry) := []
  /-- An entry of the island was lost: its next accepted entry carries SYNC. -/
  lostFlag : Tab Bool := []
  /-- The last island served. -/
  last : Nat := 0
  /-- The pre-trigger part, oldest first, and the trigger reserve, in order (R396, R401). -/
  pre : List TrcEntry := []
  reserve : List TrcEntry := []
  /-- Slots of the ring as the running map and SNAP_MIB give them, and the RESERVE_PCT in force since the last re-arm. -/
  slots : Nat := 0
  pct : Nat := 25
  /-- Entries of the capture already handed to EXP. -/
  exported : Nat := 0
  /-- Ticks since the trigger; ticks since TRACE_BOOST was last set (R401, R405). -/
  sinceTrigger : Nat := 0
  sinceBoost : Nat := 0
  /-- Driver software has written REARM (R401). -/
  rearmDue : Bool := false
  /-- Entries lost in the running FROZEN state. -/
  frozenLost : Nat := 0
  /-- Losses since the last KIND 1 marker (R406). -/
  loss : Loss := {}
  /-- The stamp of the last accepted entry of each island: epoch and offset. -/
  lastStamp : Tab (Nat × Nat) := []
  /-- The snapshot area: items in order, and how many have been handed to EXP (R410). -/
  snap : List TrcEntry := []
  snapExported : Nat := 0
  snapEpoch : Nat := 0
deriving DecidableEq, Repr

/-- What the integrator fixes for a Potik (R95, R120). The defaults are those of a reference die (log entry 20). -/
structure PParams where
  units : Nat := 256
  dieUnit : Bool := true
  groups : Nat := 32
  sensors : Nat := 64
  domains : Nat := 1
  retPorts : Nat := 1
  /-- DOMAIN_NOMINAL by domain in ps, UNIT_DOMAIN by unit (the last entry for unit 2,047 and any unit beyond), GROUP_DOMAIN by group. -/
  nominal : List Nat := [500]
  unitDomain : List Nat := []
  groupDomain : List Nat := []
  /-- GROUP_RET_PORT by group, and PEV_EVENT by port and line. -/
  groupPort : List (Option Nat) := []
  pev : List (List (Option Nat)) := []
  /-- Counters of wired units that the integrator leaves unused: unit and counter (R97). -/
  unwired : List (Nat × Nat) := []
  wsDomain : Nat := 0
  tileDomain : Nat := 0
  csLanes : Nat := 8
  csDomain : Nat := 0
  testCores : Nat := 256
  abortNs : Nat := 10000
  version : Nat := 1
deriving DecidableEq, Repr

/-- A domain clock as Potik measures it (R93): the last change, the period as a ratio of 2^-16 ns, and windows in a row without a change. -/
structure PDomain where
  last : Option Int := none
  num : Nat := 0
  den : Nat := 1
  quiet : Nat := 0
deriving DecidableEq, Repr

/-- A counter's wrap that its next reading reports (R104), and what the next wrap Event reports of it (R109): number, epoch and stamp of
the first. -/
structure PWrap where
  at_ : Option Int := none
  count : Nat := 0
  first : Int := 0
  epoch : Nat := 0
  stamp : Nat := 0
deriving DecidableEq, Repr

/-- An armed capture of a group (R113, R114): the counter, and the line of the retire port, none under the imprecise rule. -/
structure PArmed where
  counter : Nat
  line : Option Nat
deriving DecidableEq, Repr

/-- A sensor's samples of the open epoch (R117, R118). -/
structure PSensor where
  n : Nat := 0
  sum : Int := 0
  lo : Int := 0
  hi : Int := 0
deriving DecidableEq, Repr

/-- An instance of a watch slot (R127, R128, R130). -/
structure WInst where
  fmt : Nat
  flags : Nat := 0
  tag : Nat := 0
  context : Nat := 0
  count : Nat := 0
  nan : Nat := 0
  inf : Nat := 0
  absMax : Nat := 0
  sum : Nat := 0
  sumsq : Nat := 0
  dropped : Nat := 0
  digest : BitVec 64 := 0
  hist : List Nat := List.replicate 16 0
  offset : Nat := 0
  quality : Nat := 0
  firstAddr : Nat := 0
  prevAddr : Nat := 0
deriving DecidableEq, Repr

/-- A watch slot (R127): PTK_TW_CFG, BASE and LIMIT in force, the open instance, whether a beat matched in the open epoch, and the entries
that closed in it. -/
structure Watch where
  cfg : Word := 0x2F004
  base : Word := 0
  limit : Word := 0
  inst : Option WInst := none
  matched : Bool := false
  entries : List Bytes := []
deriving DecidableEq, Repr

/-- A beat in the tap's FIFO with the stamp, quality and context tag of its instant. -/
structure WEntry where
  beat : WBeat
  offset : Nat
  quality : Nat
  context : Nat
deriving DecidableEq, Repr

/-- The tile in the buffer (R131 to R134). -/
structure PTile where
  desc : Nat
  id : Nat
  unit : Nat
  bytes : Nat
  forced : Bool
  context : Nat
  quality : Nat
  offset : Nat
  epoch : Nat
deriving DecidableEq, Repr

/-- A re-digest request held (R137), with the tag at the request (R160). -/
structure PRedigest where
  round : Nat
  seq : Nat
  context : Nat
deriving DecidableEq, Repr

/-- The running test (R139, R140). -/
structure PTest where
  core : Nat
  slot : Nat
  package : Nat
  start : Int
  context : Nat
  quality : Nat
  offset : Nat
  epoch : Nat
deriving DecidableEq, Repr

/-- A trace beat (R141, R159). -/
structure PBeat where
  source : Nat
  sync : Bool
  data : Bytes
  epoch : Nat
  offset : Nat
  quality : Nat
deriving DecidableEq, Repr

/-- A record in the shaper (R143 to R145): the EtherType and address of its frames when an unarmed Potik answers a request (R163), the raised
priority of R144, and the payloads still to send once its first frame has started. -/
structure PItem where
  r : Rec
  etherType : Option Nat := none
  dest : Option Nat := none
  raised : Bool := false
  frags : Option (List Bytes) := none
deriving DecidableEq, Repr

/-- A Control request held (R163, R164): TAG, body, and the frame it came in. -/
structure PReq where
  tag : Nat
  body : CtrlBody
  etherType : Nat
  smac : Nat
deriving DecidableEq, Repr

/-- A Potik unit (03, 04, 05, 06, 20). -/
structure Potik where
  params : PParams := {}
  /-- Its register bank, by window offset. -/
  regs : Tab Word := []
  /-- The die's fleet address with unit 2,047. -/
  addr : Nat := 0
  /-- ptk_rst_n is low. -/
  inReset : Bool := false
  -- time (R67, R68, R71 to R79)
  time : Int := 0
  opened : Int := 0
  open_ : Bool := false
  stepped : Bool := false
  servo : Servo := {}
  /-- Sync intervals without a valid measurement. -/
  silent : Nat := 0
  link : TLink := {}
  /-- Stamps of the last 16 received frames: sequence number and corrected time, newest first (R67). -/
  stamps : List (Nat × Int) := []
  sched : Option Sched := none
  schedNext : Option Sched := none
  -- domains and counters (R93, R96, R104 to R111)
  doms : Tab PDomain := []
  /-- Wraps, keyed by unit × 16 + counter, and by 2^20 + group × 8 + counter. -/
  wraps : Tab PWrap := []
  /-- Raw values of the last sweep, keyed by unit × 16 + counter, and the sweep's epoch. -/
  raws : Tab Nat := []
  rawEpoch : Nat := 0
  /-- The next sweep is a key sweep (R156). -/
  keyNext : Bool := true
  /-- The open epoch's sweep has not been handed over yet. -/
  sweepDue : Bool := false
  -- sampler (R113 to R116)
  armedCap : Tab (Option PArmed) := []
  samples : List Bytes := []
  dropPending : Bool := false
  /-- Drops since the previous Sample buffer record. -/
  dropCount : Nat := 0
  /-- MODE in force. -/
  sampleLocal : Bool := false
  /-- 64-bit words of the oldest entry read already. -/
  readPhase : Nat := 0
  -- health (R117, R118)
  sensors : Tab PSensor := []
  /-- Sensors of the running round still to request, the one requested now first. -/
  round : List Nat := []
  /-- The epoch that the Health record of the last tick reports. -/
  healthDue : Option Nat := none
  -- context (R121 to R124)
  vf : Vf := {}
  band : Nat := 0
  ctxValid : Bool := false
  /-- Largest valid code of the selected sensors in the running round. -/
  roundMax : Option Int := none
  /-- Last ACT_CTR values by unit, and the counter they are of. -/
  actRaw : Tab (Option Nat) := []
  actCtr : Nat := 0
  /-- Activities: numerator by unit, and the common denominator. -/
  act : Tab Nat := []
  actDen : Nat := 1
  -- tensor watch (R126 to R130)
  fifo : List WEntry := []
  watches : Tab Watch := []
  -- tiles (R131 to R134)
  lfsr : BitVec 32 := 1
  tile : Option PTile := none
  /-- Epochs of the running quota window. -/
  window : Nat := 0
  -- digests (R136, R137)
  /-- Digests sent, keyed by round × 2^32 + sequence. -/
  sent : Tab (Option Word) := []
  redigests : List PRedigest := []
  /-- Round and sequence of the last chunk of each lane. -/
  lanes : Tab (Nat × Nat) := []
  -- tests (R138 to R140)
  waits : Tab (List Nat) := []
  waiting : Tab (Option Int) := []
  test : Option PTest := none
  /-- Next byte of the package body by slot (R164). -/
  loaded : Tab Nat := []
  -- trace (R141, R142)
  /-- Mode in force. -/
  trcMode : Nat := 0
  live : List PBeat := []
  ring : List PBeat := []
  /-- Beats still to store after a trigger; none when untriggered. -/
  post : Option Nat := none
  trcLoss : Loss := {}
  /-- Triggers that came while the ring was frozen (R142). -/
  trigIgnored : Nat := 0
  /-- Epochs of raised priority left in live mode. -/
  hold : Nat := 0
  -- shaper (R143 to R145)
  levels : Tab (List PItem) := []
  /-- Bits that the bucket lacks to be full, in 1/1000 bit. -/
  deficit : Nat := 0
  /-- Records dropped, by the member they came from; 0 for the Potik's own. -/
  losses : Tab Loss := []
  -- control (R163, R164)
  held : List PReq := []
  /-- The last 8 answers: TAG and record, newest first. -/
  answered : List (Nat × Rec) := []
  -- 32-bit accesses (R119)
  /-- Latched high half by register, and held low half of a counter or RELOAD register. -/
  latched : Tab Nat := []
  lowHeld : Tab (Option Nat) := []
  -- identity (R483, R490)
  /-- EUI64 and public key of the identity generation read at release (R491); none without a usable copy. -/
  ident : Option (Nat × Bytes) := none
  /-- A signature of the nonce is being computed. -/
  signing : Bool := false
  /-- What the running command sends. -/
  out : List Emit := []
deriving DecidableEq, Repr


/-- The whole machine. Block registers are keyed by block address, Potik registers (in `Potik`) by window offset; an
entry of an indirect window lies 2^26 × index above its data register. -/
structure State where
  /-- The block's register bank: every entry that differs from its reset value (R8, R13). -/
  regs : Tab Word := []
  mgt : Mgt := {}
  tim : Tim := {}
  lnk : Lnk := {}
  ing : Ing := {}
  aln : Aln := {}
  exp : Exp := {}
  trc : Trc := {}
  /-- The running image; none before the first commit after power-on or a cold reset (R2). -/
  img : Option Image := none
  /-- The image before the last commit, which epochs opened before that commit's epoch keep (R213, R357). -/
  prevImg : Option (Nat × Image) := none
  fea : Fea := {}
  tre : Tre := {}
  tst : Tst := {}
  stw : Stw := {}
  tdsp : Tdsp := {}
  /-- The sequence models' runs, by model 0 to 3. -/
  seqs : Tab Seq := []
  vrd : Vrd := {}
  dig : Dig := {}
  sto : Sto := {}
  cod : Cod := {}
  /-- The Potik units of the tray, by die slot (R1). -/
  potiks : Tab Potik := []
  /-- What the last command sent. -/
  out : List Emit := []
  /-- The model's own: draws taken from `Config.freeValue` so far. -/
  fresh : Nat := 0
  /-- The commands that wait, first in, first out. -/
  pending : List Instr := []
deriving DecidableEq, Repr

/-- The machine right after power-on reset (R13, R475): every field at its reset value. -/
def State.reset : State := {}

end Sys2Proof.Machine
end

