-- ==== Sys2Proof/Machine/Fields.lean ====
section
/-! DEFINITION. The named register fields of the two windows (spec 00 to 21, every register table; R10, R492 to R498):
where each field lies. A block register at island n is keyed by its block address n × 0x80000 + offset, a Potik register by its
window offset. `step` is the distance between the copies of a register: its array stride, 0x80000 for a register that every
island (or every tensor core) has, 0x100 for a counter group and 2^26 for the entries of an indirect window (R497). -/

namespace Sys2Proof.Machine.F

-- STB_MGT_ROLE: 01_fleet_and_roles.md R33
abbrev MGT_ROLE_NODE_AGG : Fld := ⟨0x1100, 0, 1, 0⟩
abbrev MGT_ROLE_GROUP_MASTER : Fld := ⟨0x1100, 1, 1, 0⟩
abbrev MGT_ROLE_GROUP_DEPUTY : Fld := ⟨0x1100, 2, 1, 0⟩
abbrev MGT_ROLE_SYSTEM_MASTER : Fld := ⟨0x1100, 3, 1, 0⟩
abbrev MGT_ROLE_SYSTEM_DEPUTY : Fld := ⟨0x1100, 4, 1, 0⟩
abbrev MGT_ROLE_GROUP_ACTING : Fld := ⟨0x1100, 5, 1, 0⟩
abbrev MGT_ROLE_SYSTEM_ACTING : Fld := ⟨0x1100, 6, 1, 0⟩
abbrev MGT_ROLE_GROUP_YIELDED : Fld := ⟨0x1100, 7, 1, 0⟩
abbrev MGT_ROLE_SYSTEM_YIELDED : Fld := ⟨0x1100, 8, 1, 0⟩
abbrev MGT_ROLE_GROUP_DEPUTY_LOST : Fld := ⟨0x1100, 9, 1, 0⟩
abbrev MGT_ROLE_SYSTEM_DEPUTY_LOST : Fld := ⟨0x1100, 10, 1, 0⟩
abbrev MGT_ROLE_GROUP : Fld := ⟨0x1100, 16, 8, 0⟩
abbrev MGT_ROLE_NODE : Fld := ⟨0x1100, 24, 6, 0⟩
abbrev MGT_ROLE_ADDR_MODE : Fld := ⟨0x1100, 30, 2, 0⟩
abbrev MGT_ROLE_ROLE_EPOCH : Fld := ⟨0x1100, 32, 32, 0⟩
-- STB_MGT_MCTP_CAP: 02_block_boundary.md R46
abbrev MGT_MCTP_CAP_ENTERPRISE : Fld := ⟨0x1300, 0, 32, 0⟩
abbrev MGT_MCTP_CAP_EID : Fld := ⟨0x1300, 32, 8, 0⟩
abbrev MGT_MCTP_CAP_FLIT_MODE : Fld := ⟨0x1300, 40, 1, 0⟩
abbrev MGT_MCTP_CAP_QUERY_READY : Fld := ⟨0x1300, 41, 1, 0⟩
-- STB_MGT_ROUTE_INDEX: 02_block_boundary.md R54
abbrev MGT_ROUTE_INDEX_ROUTE : Fld := ⟨0x1400, 0, 8, 0⟩
-- STB_MGT_ROUTE_DATA: 02_block_boundary.md R54
abbrev MGT_ROUTE_DATA_SRC : Fld := ⟨0x1408, 0, 7, 0x4000000⟩
abbrev MGT_ROUTE_DATA_DST : Fld := ⟨0x1408, 8, 7, 0x4000000⟩
abbrev MGT_ROUTE_DATA_ACTIVE : Fld := ⟨0x1408, 15, 1, 0x4000000⟩
abbrev MGT_ROUTE_DATA_DROPS : Fld := ⟨0x1408, 16, 32, 0x4000000⟩
-- STB_MGT_PWR_CAP: 02_block_boundary.md R58
abbrev MGT_PWR_CAP_CAP_CODE : Fld := ⟨0x1200, 0, 6, 0⟩
-- STB_MGT_PWR_STATUS: 02_block_boundary.md R58
abbrev MGT_PWR_STATUS_EST_W : Fld := ⟨0x1208, 0, 10, 0⟩
abbrev MGT_PWR_STATUS_GW_CAP : Fld := ⟨0x1208, 16, 6, 0⟩
abbrev MGT_PWR_STATUS_EFF_CAP : Fld := ⟨0x1208, 24, 6, 0⟩
abbrev MGT_PWR_STATUS_CAP_UNMET : Fld := ⟨0x1208, 30, 1, 0⟩
abbrev MGT_PWR_STATUS_FAST_HOLD : Fld := ⟨0x1208, 31, 1, 0⟩
abbrev MGT_PWR_STATUS_TENSOR_STEP : Fld := ⟨0x1208, 32, 4, 0⟩
abbrev MGT_PWR_STATUS_PARKED : Fld := ⟨0x1208, 40, 7, 0⟩
abbrev MGT_PWR_STATUS_EPOCH_AVG_W : Fld := ⟨0x1208, 48, 10, 0⟩
-- STB_MGT_BOUNDARY: 02_block_boundary.md R58
abbrev MGT_BOUNDARY_LNK_UP : Fld := ⟨0x1210, 0, 4, 0⟩
abbrev MGT_BOUNDARY_MCS_UP : Fld := ⟨0x1210, 4, 8, 0⟩
abbrev MGT_BOUNDARY_MCS_ALARM : Fld := ⟨0x1210, 12, 1, 0⟩
abbrev MGT_BOUNDARY_TAMPER : Fld := ⟨0x1210, 13, 1, 0⟩
abbrev MGT_BOUNDARY_REFCLK_LOST : Fld := ⟨0x1210, 14, 1, 0⟩
abbrev MGT_BOUNDARY_GRANT_LOW : Fld := ⟨0x1210, 15, 1, 0⟩
abbrev MGT_BOUNDARY_MEM_GRANT : Fld := ⟨0x1210, 16, 6, 0⟩
abbrev MGT_BOUNDARY_GRANT_HIGH : Fld := ⟨0x1210, 22, 1, 0⟩
-- STB_TIM_TIME_LO: 03_time.md R91
abbrev TIM_TIME_LO_FRAC : Fld := ⟨0x81000, 0, 16, 0⟩
abbrev TIM_TIME_LO_NS : Fld := ⟨0x81000, 16, 32, 0⟩
abbrev TIM_TIME_LO_SEC_LO : Fld := ⟨0x81000, 48, 16, 0⟩
-- STB_TIM_TIME_HI: 03_time.md R91
abbrev TIM_TIME_HI_SEC_HI : Fld := ⟨0x81008, 0, 32, 0⟩
-- STB_TIM_SERVO: 03_time.md R91
abbrev TIM_SERVO_STATE : Fld := ⟨0x81010, 0, 3, 0⟩
abbrev TIM_SERVO_RATE_SAT : Fld := ⟨0x81010, 3, 1, 0⟩
abbrev TIM_SERVO_RATE : Fld := ⟨0x81010, 8, 40, 0⟩
abbrev TIM_SERVO_RELOCKS : Fld := ⟨0x81010, 48, 16, 0⟩
-- STB_TIM_OFFSET: 03_time.md R91
abbrev TIM_OFFSET_OFFSET : Fld := ⟨0x81018, 0, 32, 0⟩
abbrev TIM_OFFSET_MEAN_DELAY : Fld := ⟨0x81018, 32, 32, 0⟩
-- STB_TIM_SERVO_CFG: 03_time.md R91
abbrev TIM_SERVO_CFG_STEP_THRESH : Fld := ⟨0x81020, 0, 16, 0⟩
abbrev TIM_SERVO_CFG_UNLOCK_THRESH : Fld := ⟨0x81020, 16, 16, 0⟩
abbrev TIM_SERVO_CFG_LOCK_THRESH : Fld := ⟨0x81020, 32, 8, 0⟩
abbrev TIM_SERVO_CFG_KP : Fld := ⟨0x81020, 40, 4, 0⟩
abbrev TIM_SERVO_CFG_KI : Fld := ⟨0x81020, 44, 4, 0⟩
abbrev TIM_SERVO_CFG_HOLDOVER_N : Fld := ⟨0x81020, 48, 4, 0⟩
abbrev TIM_SERVO_CFG_LOG_SYNC : Fld := ⟨0x81020, 52, 4, 0⟩
abbrev TIM_SERVO_CFG_HOLDOVER_LIMIT : Fld := ⟨0x81020, 56, 8, 0⟩
-- STB_TIM_EPOCH: 03_time.md R91
abbrev TIM_EPOCH_EPOCH : Fld := ⟨0x81028, 0, 48, 0⟩
-- STB_TIM_SCHED: 03_time.md R91
abbrev TIM_SCHED_PERIOD_NS : Fld := ⟨0x81030, 0, 30, 0⟩
abbrev TIM_SCHED_PENDING : Fld := ⟨0x81030, 30, 1, 0⟩
abbrev TIM_SCHED_PENDING_E0 : Fld := ⟨0x81030, 32, 32, 0⟩
-- STB_TIM_PULSEn_CFG: 03_time.md R91
abbrev TIM_PULSE_CFG_MODE : Fld := ⟨0x81100, 0, 2, 0x20⟩
abbrev TIM_PULSE_CFG_POLARITY : Fld := ⟨0x81100, 2, 1, 0x20⟩
abbrev TIM_PULSE_CFG_QUAL_ONLY : Fld := ⟨0x81100, 3, 1, 0x20⟩
abbrev TIM_PULSE_CFG_MISSED : Fld := ⟨0x81100, 4, 1, 0x20⟩
abbrev TIM_PULSE_CFG_MODE_ERR : Fld := ⟨0x81100, 5, 1, 0x20⟩
abbrev TIM_PULSE_CFG_WIDTH : Fld := ⟨0x81100, 8, 24, 0x20⟩
abbrev TIM_PULSE_CFG_COMP : Fld := ⟨0x81100, 32, 16, 0x20⟩
-- STB_TIM_PULSEn_START_LO: 03_time.md R91
abbrev TIM_PULSE_START_LO_FRAC : Fld := ⟨0x81108, 0, 16, 0x20⟩
abbrev TIM_PULSE_START_LO_NS : Fld := ⟨0x81108, 16, 32, 0x20⟩
abbrev TIM_PULSE_START_LO_SEC_LO : Fld := ⟨0x81108, 48, 16, 0x20⟩
-- STB_TIM_PULSEn_START_HI: 03_time.md R91
abbrev TIM_PULSE_START_HI_SEC_HI : Fld := ⟨0x81110, 0, 32, 0x20⟩
-- STB_TIM_PULSEn_PERIOD: 03_time.md R91
abbrev TIM_PULSE_PERIOD_PERIOD : Fld := ⟨0x81118, 0, 48, 0x20⟩
-- STB_TIM_CAPm_CFG: 03_time.md R91
abbrev TIM_CAP_CFG_EN : Fld := ⟨0x81200, 0, 1, 0x20⟩
abbrev TIM_CAP_CFG_EDGE : Fld := ⟨0x81200, 1, 1, 0x20⟩
abbrev TIM_CAP_CFG_COUNT : Fld := ⟨0x81200, 8, 5, 0x20⟩
abbrev TIM_CAP_CFG_OVERFLOW : Fld := ⟨0x81200, 16, 1, 0x20⟩
abbrev TIM_CAP_CFG_COMP : Fld := ⟨0x81200, 32, 16, 0x20⟩
-- STB_TIM_CAPm_LO: 03_time.md R91
abbrev TIM_CAP_LO_FRAC : Fld := ⟨0x81208, 0, 16, 0x20⟩
abbrev TIM_CAP_LO_NS : Fld := ⟨0x81208, 16, 32, 0x20⟩
abbrev TIM_CAP_LO_SEC_LO : Fld := ⟨0x81208, 48, 16, 0x20⟩
-- STB_TIM_CAPm_HI: 03_time.md R91
abbrev TIM_CAP_HI_SEC_HI : Fld := ⟨0x81210, 0, 32, 0x20⟩
abbrev TIM_CAP_HI_VALID : Fld := ⟨0x81210, 32, 1, 0x20⟩
abbrev TIM_CAP_HI_UNQUAL : Fld := ⟨0x81210, 33, 1, 0x20⟩
-- STB_TIM_GM: 03_time.md R91
abbrev TIM_GM_GM : Fld := ⟨0x81300, 0, 1, 0⟩
abbrev TIM_GM_SOURCE : Fld := ⟨0x81300, 1, 1, 0⟩
abbrev TIM_GM_PPS_INPUT : Fld := ⟨0x81300, 2, 2, 0⟩
abbrev TIM_GM_PPS_LOCKED : Fld := ⟨0x81300, 4, 1, 0⟩
abbrev TIM_GM_UTC_OFFSET : Fld := ⟨0x81300, 16, 16, 0⟩
-- STB_TIM_ASYM_INDEX: 03_time.md R91
abbrev TIM_ASYM_INDEX_LINK : Fld := ⟨0x81400, 0, 10, 0⟩
-- STB_TIM_ASYM_DATA: 03_time.md R91
abbrev TIM_ASYM_DATA_ASYM : Fld := ⟨0x81408, 0, 32, 0x4000000⟩
abbrev TIM_ASYM_DATA_PEER : Fld := ⟨0x81408, 32, 8, 0x4000000⟩
abbrev TIM_ASYM_DATA_LONG_HAUL : Fld := ⟨0x81408, 40, 1, 0x4000000⟩
abbrev TIM_ASYM_DATA_USE : Fld := ⟨0x81408, 41, 2, 0x4000000⟩
-- STB_TIM_LOOP_INDEX: 03_time.md R91
abbrev TIM_LOOP_INDEX_TRIANGLE : Fld := ⟨0x81410, 0, 10, 0⟩
-- STB_TIM_LOOP_DATA: 03_time.md R91
abbrev TIM_LOOP_DATA_SUM : Fld := ⟨0x81418, 0, 32, 0x4000000⟩
abbrev TIM_LOOP_DATA_DRIFT : Fld := ⟨0x81418, 32, 1, 0x4000000⟩
abbrev TIM_LOOP_DATA_INCOMPLETE : Fld := ⟨0x81418, 33, 1, 0x4000000⟩
abbrev TIM_LOOP_DATA_CONSEC : Fld := ⟨0x81418, 40, 8, 0x4000000⟩
abbrev TIM_LOOP_DATA_DRIFT_THRESH : Fld := ⟨0x81418, 48, 16, 0x4000000⟩
-- PTK_TIME_CORRm: 03_time.md R91
abbrev PTK_TIME_CORR_D_TX : Fld := ⟨0x400, 0, 32, 0x8⟩
abbrev PTK_TIME_CORR_D_RX : Fld := ⟨0x400, 32, 32, 0x8⟩
-- PTK_TIME_STATUS: 03_time.md R91
abbrev PTK_TIME_STATUS_STATE : Fld := ⟨0x420, 0, 3, 0⟩
abbrev PTK_TIME_STATUS_RATE_SAT : Fld := ⟨0x420, 3, 1, 0⟩
abbrev PTK_TIME_STATUS_FEC : Fld := ⟨0x420, 4, 2, 0⟩
abbrev PTK_TIME_STATUS_NO_STAMP : Fld := ⟨0x420, 6, 1, 0⟩
abbrev PTK_TIME_STATUS_EPOCH : Fld := ⟨0x420, 16, 48, 0⟩
-- PTK_TIME_SERVO_CFG: 03_time.md R91
abbrev PTK_TIME_SERVO_CFG_STEP_THRESH : Fld := ⟨0x428, 0, 16, 0⟩
abbrev PTK_TIME_SERVO_CFG_UNLOCK_THRESH : Fld := ⟨0x428, 16, 16, 0⟩
abbrev PTK_TIME_SERVO_CFG_LOCK_THRESH : Fld := ⟨0x428, 32, 8, 0⟩
abbrev PTK_TIME_SERVO_CFG_KP : Fld := ⟨0x428, 40, 4, 0⟩
abbrev PTK_TIME_SERVO_CFG_KI : Fld := ⟨0x428, 44, 4, 0⟩
abbrev PTK_TIME_SERVO_CFG_HOLDOVER_N : Fld := ⟨0x428, 48, 4, 0⟩
abbrev PTK_TIME_SERVO_CFG_LOG_SYNC : Fld := ⟨0x428, 52, 4, 0⟩
abbrev PTK_TIME_SERVO_CFG_HOLDOVER_LIMIT : Fld := ⟨0x428, 56, 8, 0⟩
-- PTK_ID: 04_potik_counters.md R119
abbrev PTK_ID_UNITS : Fld := ⟨0x0, 0, 12, 0⟩
abbrev PTK_ID_DIE_UNIT : Fld := ⟨0x0, 12, 1, 0⟩
abbrev PTK_ID_GROUPS : Fld := ⟨0x0, 16, 7, 0⟩
abbrev PTK_ID_SENSORS : Fld := ⟨0x0, 24, 9, 0⟩
abbrev PTK_ID_DOMAINS : Fld := ⟨0x0, 33, 7, 0⟩
abbrev PTK_ID_RET_PORTS : Fld := ⟨0x0, 40, 5, 0⟩
abbrev PTK_ID_VERSION : Fld := ⟨0x0, 48, 8, 0⟩
-- PTK_DOM_INDEX: 04_potik_counters.md R119
abbrev PTK_DOM_INDEX_DOMAIN : Fld := ⟨0x100, 0, 6, 0⟩
-- PTK_DOM_DATA: 04_potik_counters.md R119
abbrev PTK_DOM_DATA_NOMINAL_PS : Fld := ⟨0x108, 0, 16, 0x4000000⟩
abbrev PTK_DOM_DATA_MEASURED_PS : Fld := ⟨0x108, 16, 16, 0x4000000⟩
abbrev PTK_DOM_DATA_STRETCH : Fld := ⟨0x108, 32, 1, 0x4000000⟩
abbrev PTK_DOM_DATA_HALTED : Fld := ⟨0x108, 33, 1, 0x4000000⟩
abbrev PTK_DOM_DATA_STRETCH_Q : Fld := ⟨0x108, 34, 4, 0x4000000⟩
-- PTK_CEN_CTRL: 04_potik_counters.md R119
abbrev PTK_CEN_CTRL_WRAP_EVT : Fld := ⟨0x200, 0, 1, 0⟩
-- PTK_CEN_STATUS: 04_potik_counters.md R119
abbrev PTK_CEN_STATUS_LAST_LEN : Fld := ⟨0x208, 0, 12, 0⟩
abbrev PTK_CEN_STATUS_SWEEPING : Fld := ⟨0x208, 12, 1, 0⟩
abbrev PTK_CEN_STATUS_OVF_COUNT : Fld := ⟨0x208, 32, 16, 0⟩
-- PTK_CEN_INDEX: 04_potik_counters.md R119
abbrev PTK_CEN_INDEX_COUNTER : Fld := ⟨0x210, 0, 4, 0⟩
abbrev PTK_CEN_INDEX_UNIT : Fld := ⟨0x210, 4, 11, 0⟩
-- PTK_CEN_DATA: 04_potik_counters.md R119
abbrev PTK_CEN_DATA_VALUE : Fld := ⟨0x218, 0, 32, 0x4000000⟩
abbrev PTK_CEN_DATA_OVF : Fld := ⟨0x218, 32, 1, 0x4000000⟩
abbrev PTK_CEN_DATA_WIRED : Fld := ⟨0x218, 33, 1, 0x4000000⟩
abbrev PTK_CEN_DATA_DOMAIN : Fld := ⟨0x218, 34, 6, 0x4000000⟩
abbrev PTK_CEN_DATA_HALTED : Fld := ⟨0x218, 40, 1, 0x4000000⟩
-- PTK_SMP_CTRL: 04_potik_counters.md R119
abbrev PTK_SMP_CTRL_EN : Fld := ⟨0x300, 0, 1, 0⟩
abbrev PTK_SMP_CTRL_MODE : Fld := ⟨0x300, 1, 1, 0⟩
-- PTK_SMP_STATUS: 04_potik_counters.md R119
abbrev PTK_SMP_STATUS_COUNT : Fld := ⟨0x308, 0, 13, 0⟩
abbrev PTK_SMP_STATUS_FULL : Fld := ⟨0x308, 13, 1, 0⟩
abbrev PTK_SMP_STATUS_DROPS : Fld := ⟨0x308, 16, 32, 0⟩
-- PTK_SMP_READ: 04_potik_counters.md R119
abbrev PTK_SMP_READ_DATA : Fld := ⟨0x310, 0, 64, 0⟩
-- PTK_HS_INDEX: 04_potik_counters.md R119
abbrev PTK_HS_INDEX_SENSOR : Fld := ⟨0x500, 0, 8, 0⟩
-- PTK_HS_CFG: 04_potik_counters.md R119
abbrev PTK_HS_CFG_EN : Fld := ⟨0x508, 0, 1, 0x4000000⟩
abbrev PTK_HS_CFG_LAST : Fld := ⟨0x508, 16, 16, 0x4000000⟩
abbrev PTK_HS_CFG_ERRORS : Fld := ⟨0x508, 32, 16, 0x4000000⟩
-- PTK_HS_DATA: 04_potik_counters.md R119
abbrev PTK_HS_DATA_MEAN : Fld := ⟨0x510, 0, 16, 0x4000000⟩
abbrev PTK_HS_DATA_MIN : Fld := ⟨0x510, 16, 16, 0x4000000⟩
abbrev PTK_HS_DATA_MAX : Fld := ⟨0x510, 32, 16, 0x4000000⟩
abbrev PTK_HS_DATA_COUNT : Fld := ⟨0x510, 48, 14, 0x4000000⟩
abbrev PTK_HS_DATA_ERR : Fld := ⟨0x510, 62, 1, 0x4000000⟩
-- PTK_PGg_INFO: 04_potik_counters.md R119
abbrev PTK_PG_INFO_DOMAIN : Fld := ⟨0x1000, 0, 6, 0x100⟩
abbrev PTK_PG_INFO_RET_PORT : Fld := ⟨0x1000, 8, 5, 0x100⟩
-- PTK_PGg_STATUS: 04_potik_counters.md R119
abbrev PTK_PG_STATUS_OVF : Fld := ⟨0x1008, 0, 8, 0x100⟩
abbrev PTK_PG_STATUS_WR_DROP : Fld := ⟨0x1008, 8, 8, 0x100⟩
abbrev PTK_PG_STATUS_HALTED : Fld := ⟨0x1008, 16, 1, 0x100⟩
abbrev PTK_PG_STATUS_ARMED : Fld := ⟨0x1008, 17, 1, 0x100⟩
-- PTK_PGg_CYC: 04_potik_counters.md R119
abbrev PTK_PG_CYC_CYCLES : Fld := ⟨0x1010, 0, 64, 0x100⟩
-- PTK_PGg_CNTk: 04_potik_counters.md R119
abbrev PTK_PG_CNT_VALUE : Fld := ⟨0x1018, 0, 48, 0x100⟩
-- PTK_PGg_SELk: 04_potik_counters.md R119
abbrev PTK_PG_SEL_EVENT : Fld := ⟨0x1058, 0, 10, 0x100⟩
abbrev PTK_PG_SEL_EN : Fld := ⟨0x1058, 10, 1, 0x100⟩
abbrev PTK_PG_SEL_OVF_EVT : Fld := ⟨0x1058, 11, 1, 0x100⟩
abbrev PTK_PG_SEL_SAMPLE : Fld := ⟨0x1058, 12, 1, 0x100⟩
abbrev PTK_PG_SEL_PRIV_MASK : Fld := ⟨0x1058, 14, 4, 0x100⟩
abbrev PTK_PG_SEL_ADDR_SEL : Fld := ⟨0x1058, 18, 2, 0x100⟩
abbrev PTK_PG_SEL_ADDR_INV : Fld := ⟨0x1058, 20, 1, 0x100⟩
abbrev PTK_PG_SEL_TC_MASK : Fld := ⟨0x1058, 24, 8, 0x100⟩
abbrev PTK_PG_SEL_MASTER_MATCH : Fld := ⟨0x1058, 32, 12, 0x100⟩
abbrev PTK_PG_SEL_MASTER_MASK : Fld := ⟨0x1058, 44, 12, 0x100⟩
-- PTK_PGg_RELOADk: 04_potik_counters.md R119
abbrev PTK_PG_RELOAD_RELOAD : Fld := ⟨0x1098, 0, 48, 0x100⟩
-- PTK_PGg_ADDRA_BASE: 04_potik_counters.md R119
abbrev PTK_PG_ADDRA_BASE_ADDR : Fld := ⟨0x10d8, 6, 58, 0x100⟩
-- PTK_PGg_ADDRA_LIMIT: 04_potik_counters.md R119
abbrev PTK_PG_ADDRA_LIMIT_ADDR : Fld := ⟨0x10e0, 6, 58, 0x100⟩
-- PTK_PGg_ADDRB_BASE: 04_potik_counters.md R119
abbrev PTK_PG_ADDRB_BASE_ADDR : Fld := ⟨0x10e8, 6, 58, 0x100⟩
-- PTK_PGg_ADDRB_LIMIT: 04_potik_counters.md R119
abbrev PTK_PG_ADDRB_LIMIT_ADDR : Fld := ⟨0x10f0, 6, 58, 0x100⟩
-- PTK_CAP_ID: 05_potik_capture.md R120
abbrev PTK_CAP_ID_CS_LANES : Fld := ⟨0x600, 0, 4, 0⟩
abbrev PTK_CAP_ID_TEST_CORES : Fld := ⟨0x600, 4, 9, 0⟩
abbrev PTK_CAP_ID_TEST_ABORT_NS : Fld := ⟨0x600, 16, 17, 0⟩
abbrev PTK_CAP_ID_WS_DOMAIN : Fld := ⟨0x600, 33, 6, 0⟩
abbrev PTK_CAP_ID_CS_DOMAIN : Fld := ⟨0x600, 39, 6, 0⟩
abbrev PTK_CAP_ID_TILE_DOMAIN : Fld := ⟨0x600, 45, 6, 0⟩
-- PTK_CTX_CFG: 05_potik_capture.md R125
abbrev PTK_CTX_CFG_TEMP_SENSOR : Fld := ⟨0x608, 0, 32, 0⟩
abbrev PTK_CTX_CFG_HYST : Fld := ⟨0x608, 32, 8, 0⟩
abbrev PTK_CTX_CFG_NB_SHIFT : Fld := ⟨0x608, 40, 4, 0⟩
abbrev PTK_CTX_CFG_ACT_CTR : Fld := ⟨0x608, 44, 4, 0⟩
-- PTK_CTX_TTH: 05_potik_capture.md R125
abbrev PTK_CTX_TTH_TH1 : Fld := ⟨0x610, 0, 16, 0⟩
abbrev PTK_CTX_TTH_TH2 : Fld := ⟨0x610, 16, 16, 0⟩
abbrev PTK_CTX_TTH_TH3 : Fld := ⟨0x610, 32, 16, 0⟩
abbrev PTK_CTX_TTH_TH4 : Fld := ⟨0x610, 48, 16, 0⟩
-- PTK_CTX_TTH2: 05_potik_capture.md R125
abbrev PTK_CTX_TTH2_TH5 : Fld := ⟨0x618, 0, 16, 0⟩
abbrev PTK_CTX_TTH2_TH6 : Fld := ⟨0x618, 16, 16, 0⟩
abbrev PTK_CTX_TTH2_TH7 : Fld := ⟨0x618, 32, 16, 0⟩
-- PTK_CTX_LTH: 05_potik_capture.md R125
abbrev PTK_CTX_LTH_LT1 : Fld := ⟨0x620, 0, 8, 0⟩
abbrev PTK_CTX_LTH_LT2 : Fld := ⟨0x620, 8, 8, 0⟩
abbrev PTK_CTX_LTH_LT3 : Fld := ⟨0x620, 16, 8, 0⟩
abbrev PTK_CTX_LTH_LT4 : Fld := ⟨0x620, 24, 8, 0⟩
abbrev PTK_CTX_LTH_LT5 : Fld := ⟨0x620, 32, 8, 0⟩
abbrev PTK_CTX_LTH_LT6 : Fld := ⟨0x620, 40, 8, 0⟩
abbrev PTK_CTX_LTH_LT7 : Fld := ⟨0x620, 48, 8, 0⟩
-- PTK_CTX_STATUS: 05_potik_capture.md R125
abbrev PTK_CTX_STATUS_TAG : Fld := ⟨0x628, 0, 16, 0⟩
abbrev PTK_CTX_STATUS_TEMP_CODE : Fld := ⟨0x628, 16, 16, 0⟩
-- PTK_TW_INDEX: 05_potik_capture.md R130
abbrev PTK_TW_INDEX_SLOT : Fld := ⟨0x640, 0, 4, 0⟩
-- PTK_TW_CFG: 05_potik_capture.md R130
abbrev PTK_TW_CFG_EN : Fld := ⟨0x648, 0, 1, 0x4000000⟩
abbrev PTK_TW_CFG_MODE : Fld := ⟨0x648, 1, 1, 0x4000000⟩
abbrev PTK_TW_CFG_MAX_INST : Fld := ⟨0x648, 2, 6, 0x4000000⟩
abbrev PTK_TW_CFG_EXP_BASE : Fld := ⟨0x648, 8, 8, 0x4000000⟩
abbrev PTK_TW_CFG_EXP_STEP : Fld := ⟨0x648, 16, 4, 0x4000000⟩
abbrev PTK_TW_CFG_TAG : Fld := ⟨0x648, 32, 16, 0x4000000⟩
abbrev PTK_TW_CFG_SKIPPED : Fld := ⟨0x648, 48, 16, 0x4000000⟩
-- PTK_TW_BASE: 05_potik_capture.md R130
abbrev PTK_TW_BASE_ADDR : Fld := ⟨0x650, 6, 58, 0x4000000⟩
-- PTK_TW_LIMIT: 05_potik_capture.md R130
abbrev PTK_TW_LIMIT_ADDR : Fld := ⟨0x658, 6, 58, 0x4000000⟩
-- PTK_TILE_CFG: 05_potik_capture.md R135
abbrev PTK_TILE_CFG_EN : Fld := ⟨0x680, 0, 1, 0⟩
abbrev PTK_TILE_CFG_SHIFT : Fld := ⟨0x680, 1, 5, 0⟩
abbrev PTK_TILE_CFG_WINDOW : Fld := ⟨0x680, 16, 16, 0⟩
abbrev PTK_TILE_CFG_SEED : Fld := ⟨0x680, 32, 32, 0⟩
-- PTK_TILE_STATUS: 05_potik_capture.md R135
abbrev PTK_TILE_STATUS_BUSY : Fld := ⟨0x688, 0, 1, 0⟩
abbrev PTK_TILE_STATUS_TAKEN : Fld := ⟨0x688, 16, 16, 0⟩
abbrev PTK_TILE_STATUS_MISSED_QUOTA : Fld := ⟨0x688, 32, 16, 0⟩
abbrev PTK_TILE_STATUS_BAD_LEN : Fld := ⟨0x688, 48, 16, 0⟩
-- PTK_TILE_QUOTA_INDEX: 05_potik_capture.md R135
abbrev PTK_TILE_QUOTA_INDEX_STRATUM : Fld := ⟨0x690, 0, 10, 0⟩
-- PTK_TILE_QUOTA_DATA: 05_potik_capture.md R135
abbrev PTK_TILE_QUOTA_DATA_QUOTA : Fld := ⟨0x698, 0, 8, 0x4000000⟩
abbrev PTK_TILE_QUOTA_DATA_COUNT : Fld := ⟨0x698, 8, 8, 0x4000000⟩
-- PTK_CSD_STATUS: 05_potik_capture.md R137
abbrev PTK_CSD_STATUS_CHUNKS : Fld := ⟨0x6c0, 0, 32, 0⟩
abbrev PTK_CSD_STATUS_RD_PENDING : Fld := ⟨0x6c0, 32, 3, 0⟩
-- PTK_TST_STATUS: 05_potik_capture.md R140
abbrev PTK_TST_STATUS_RUNNING : Fld := ⟨0x700, 0, 1, 0⟩
abbrev PTK_TST_STATUS_CORE : Fld := ⟨0x700, 1, 8, 0⟩
abbrev PTK_TST_STATUS_SLOT : Fld := ⟨0x700, 9, 4, 0⟩
abbrev PTK_TST_STATUS_LAST_OUTCOME : Fld := ⟨0x700, 13, 3, 0⟩
abbrev PTK_TST_STATUS_ABORTS : Fld := ⟨0x700, 16, 16, 0⟩
-- PTK_TRC_CTRL: 05_potik_capture.md R142
abbrev PTK_TRC_CTRL_MODE : Fld := ⟨0x740, 0, 2, 0⟩
abbrev PTK_TRC_CTRL_TRIG : Fld := ⟨0x740, 2, 1, 0⟩
abbrev PTK_TRC_CTRL_FROZEN : Fld := ⟨0x740, 3, 1, 0⟩
abbrev PTK_TRC_CTRL_POST : Fld := ⟨0x740, 4, 12, 0⟩
abbrev PTK_TRC_CTRL_TRIG_HOLD : Fld := ⟨0x740, 16, 8, 0⟩
abbrev PTK_TRC_CTRL_LOST : Fld := ⟨0x740, 24, 16, 0⟩
-- PTK_SHP_CFG: 05_potik_capture.md R145
abbrev PTK_SHP_CFG_RATE_MBPS : Fld := ⟨0x780, 0, 17, 0⟩
abbrev PTK_SHP_CFG_BURST_KIB : Fld := ⟨0x780, 17, 11, 0⟩
abbrev PTK_SHP_CFG_OVERHEAD : Fld := ⟨0x780, 28, 8, 0⟩
-- PTK_SHP_STATUS: 05_potik_capture.md R145
abbrev PTK_SHP_STATUS_QUEUED : Fld := ⟨0x788, 0, 19, 0⟩
abbrev PTK_SHP_STATUS_DROPPED : Fld := ⟨0x788, 32, 32, 0⟩
-- PTK_IDENT: 05_potik_capture.md R146
abbrev PTK_IDENT_KEY_LOADED : Fld := ⟨0x7c0, 0, 1, 0⟩
abbrev PTK_IDENT_TAMPER : Fld := ⟨0x7c0, 1, 1, 0⟩
-- STB_ING_CFG: 06_record_ingest.md R172
abbrev ING_CFG_ETHERTYPE : Fld := ⟨0x181000, 0, 16, 0⟩
abbrev ING_CFG_FRAME_MAX : Fld := ⟨0x181000, 16, 14, 0⟩
abbrev ING_CFG_YELLOW_LIMIT : Fld := ⟨0x181000, 32, 7, 0⟩
abbrev ING_CFG_REASM_US : Fld := ⟨0x181000, 40, 8, 0⟩
-- STB_ING_STATUS: 06_record_ingest.md R172
abbrev ING_STATUS_INGEST_QUEUES : Fld := ⟨0x181008, 0, 17, 0⟩
abbrev ING_STATUS_REASM_OPEN : Fld := ⟨0x181008, 17, 9, 0⟩
abbrev ING_STATUS_OTHER_FRAMES : Fld := ⟨0x181008, 32, 32, 0⟩
-- STB_ING_HDR_ERR: 06_record_ingest.md R172
abbrev ING_HDR_ERR_REASON1 : Fld := ⟨0x181010, 0, 8, 0⟩
abbrev ING_HDR_ERR_REASON2 : Fld := ⟨0x181010, 8, 8, 0⟩
abbrev ING_HDR_ERR_REASON3 : Fld := ⟨0x181010, 16, 8, 0⟩
abbrev ING_HDR_ERR_REASON4 : Fld := ⟨0x181010, 24, 8, 0⟩
abbrev ING_HDR_ERR_REASON5 : Fld := ⟨0x181010, 32, 8, 0⟩
abbrev ING_HDR_ERR_REASON6 : Fld := ⟨0x181010, 40, 8, 0⟩
abbrev ING_HDR_ERR_REASON7 : Fld := ⟨0x181010, 48, 8, 0⟩
abbrev ING_HDR_ERR_REASON8 : Fld := ⟨0x181010, 56, 8, 0⟩
-- STB_ING_STREAM_INDEX: 06_record_ingest.md R172
abbrev ING_STREAM_INDEX_STREAM : Fld := ⟨0x181100, 0, 15, 0⟩
-- STB_ING_STREAM_KEY: 06_record_ingest.md R172
abbrev ING_STREAM_KEY_SENDER : Fld := ⟨0x181108, 0, 32, 0x4000000⟩
abbrev ING_STREAM_KEY_CLASS : Fld := ⟨0x181108, 32, 4, 0x4000000⟩
abbrev ING_STREAM_KEY_VALID : Fld := ⟨0x181108, 36, 1, 0x4000000⟩
abbrev ING_STREAM_KEY_SEQ_CHECK : Fld := ⟨0x181108, 37, 1, 0x4000000⟩
abbrev ING_STREAM_KEY_COLOUR_AWARE : Fld := ⟨0x181108, 38, 1, 0x4000000⟩
abbrev ING_STREAM_KEY_QUEUE : Fld := ⟨0x181108, 40, 16, 0x4000000⟩
-- STB_ING_STREAM_RATE: 06_record_ingest.md R172
abbrev ING_STREAM_RATE_CIR : Fld := ⟨0x181110, 0, 21, 0x4000000⟩
abbrev ING_STREAM_RATE_PIR : Fld := ⟨0x181110, 32, 21, 0x4000000⟩
-- STB_ING_STREAM_BURST: 06_record_ingest.md R172
abbrev ING_STREAM_BURST_CBS : Fld := ⟨0x181118, 0, 18, 0x4000000⟩
abbrev ING_STREAM_BURST_PBS : Fld := ⟨0x181118, 32, 18, 0x4000000⟩
-- STB_ING_STREAM_SEQ: 06_record_ingest.md R172
abbrev ING_STREAM_SEQ_EXPECTED : Fld := ⟨0x181120, 0, 32, 0x4000000⟩
abbrev ING_STREAM_SEQ_DUP : Fld := ⟨0x181120, 32, 32, 0x4000000⟩
-- STB_ING_STREAM_CNT0: 06_record_ingest.md R172
abbrev ING_STREAM_CNT0_RECEIVED : Fld := ⟨0x181128, 0, 32, 0x4000000⟩
abbrev ING_STREAM_CNT0_GAP : Fld := ⟨0x181128, 32, 32, 0x4000000⟩
-- STB_ING_STREAM_CNT1: 06_record_ingest.md R172
abbrev ING_STREAM_CNT1_YELLOW : Fld := ⟨0x181130, 0, 32, 0x4000000⟩
abbrev ING_STREAM_CNT1_RED : Fld := ⟨0x181130, 32, 32, 0x4000000⟩
-- STB_ING_STREAM_CNT2: 06_record_ingest.md R172
abbrev ING_STREAM_CNT2_QUEUE_FULL : Fld := ⟨0x181138, 0, 32, 0x4000000⟩
abbrev ING_STREAM_CNT2_LATE : Fld := ⟨0x181138, 32, 32, 0x4000000⟩
-- STB_ING_STREAM_CNT3: 06_record_ingest.md R172
abbrev ING_STREAM_CNT3_SHAPER_DROP : Fld := ⟨0x181140, 0, 32, 0x4000000⟩
abbrev ING_STREAM_CNT3_RED_KEPT : Fld := ⟨0x181140, 32, 16, 0x4000000⟩
abbrev ING_STREAM_CNT3_HDR_ERR : Fld := ⟨0x181140, 48, 16, 0x4000000⟩
-- STB_ING_QUEUE_INDEX: 06_record_ingest.md R172
abbrev ING_QUEUE_INDEX_QUEUE : Fld := ⟨0x181200, 0, 16, 0⟩
-- STB_ING_QUEUE_DATA: 06_record_ingest.md R172
abbrev ING_QUEUE_DATA_DEPTH_KIB : Fld := ⟨0x181208, 0, 24, 0x4000000⟩
abbrev ING_QUEUE_DATA_USED_KIB : Fld := ⟨0x181208, 24, 24, 0x4000000⟩
-- PTK_REC_CFG: 06_record_ingest.md R172
abbrev PTK_REC_CFG_ETHERTYPE : Fld := ⟨0x7a0, 0, 16, 0⟩
abbrev PTK_REC_CFG_FRAME_MAX : Fld := ⟨0x7a0, 16, 14, 0⟩
abbrev PTK_REC_CFG_KEY_INTERVAL : Fld := ⟨0x7a0, 32, 8, 0⟩
-- PTK_REC_DMAC: 06_record_ingest.md R172
abbrev PTK_REC_DMAC_DMAC : Fld := ⟨0x7a8, 0, 48, 0⟩
-- PTK_REC_SEQ: 06_record_ingest.md R172
abbrev PTK_REC_SEQ_NEXT : Fld := ⟨0x7b0, 0, 32, 0⟩
-- STB_ALN_CFG: 07_alignment_and_reduction.md R199
abbrev ALN_CFG_EARLY_CLOSE : Fld := ⟨0x201000, 0, 1, 0⟩
abbrev ALN_CFG_LATE_HORIZON : Fld := ⟨0x201000, 1, 6, 0⟩
abbrev ALN_CFG_COARSEN_HI : Fld := ⟨0x201000, 8, 7, 0⟩
abbrev ALN_CFG_COARSEN_LO : Fld := ⟨0x201000, 16, 7, 0⟩
abbrev ALN_CFG_COARSEN_N : Fld := ⟨0x201000, 24, 4, 0⟩
abbrev ALN_CFG_MAX_STEP : Fld := ⟨0x201000, 28, 3, 0⟩
abbrev ALN_CFG_BYPASS_EN : Fld := ⟨0x201000, 31, 1, 0⟩
abbrev ALN_CFG_RELEASE_N : Fld := ⟨0x201000, 32, 16, 0⟩
-- STB_ALN_STATUS: 07_alignment_and_reduction.md R199
abbrev ALN_STATUS_OPEN_EPOCHS : Fld := ⟨0x201008, 0, 6, 0⟩
abbrev ALN_STATUS_BACKLOG : Fld := ⟨0x201008, 8, 4, 0⟩
abbrev ALN_STATUS_LAST_CLOSED : Fld := ⟨0x201008, 16, 48, 0⟩
-- STB_ALN_LEVEL_INDEX: 07_alignment_and_reduction.md R199
abbrev ALN_LEVEL_INDEX_LEVEL : Fld := ⟨0x201100, 0, 2, 0⟩
-- STB_ALN_LEVEL_CFG: 07_alignment_and_reduction.md R199
abbrev ALN_LEVEL_CFG_LATE_WIN_US : Fld := ⟨0x201108, 0, 16, 0x4000000⟩
abbrev ALN_LEVEL_CFG_SPLIT : Fld := ⟨0x201108, 16, 8, 0x4000000⟩
abbrev ALN_LEVEL_CFG_PARTNER : Fld := ⟨0x201108, 24, 8, 0x4000000⟩
abbrev ALN_LEVEL_CFG_PARTNER_VALID : Fld := ⟨0x201108, 32, 1, 0x4000000⟩
-- STB_ALN_LEVEL_STATE: 07_alignment_and_reduction.md R199
abbrev ALN_LEVEL_STATE_OUT_RES : Fld := ⟨0x201110, 0, 3, 0x4000000⟩
abbrev ALN_LEVEL_STATE_REQ_RES : Fld := ⟨0x201110, 3, 3, 0x4000000⟩
abbrev ALN_LEVEL_STATE_SELF_RES : Fld := ⟨0x201110, 6, 3, 0x4000000⟩
abbrev ALN_LEVEL_STATE_BYPASS_ACTIVE : Fld := ⟨0x201110, 9, 1, 0x4000000⟩
abbrev ALN_LEVEL_STATE_SATURATED : Fld := ⟨0x201110, 10, 1, 0x4000000⟩
abbrev ALN_LEVEL_STATE_SAT_CONSEC : Fld := ⟨0x201110, 16, 8, 0x4000000⟩
-- STB_ALN_LEVEL_CNT: 07_alignment_and_reduction.md R199
abbrev ALN_LEVEL_CNT_MISSING : Fld := ⟨0x201118, 0, 16, 0x4000000⟩
abbrev ALN_LEVEL_CNT_LATE_FOLDED : Fld := ⟨0x201118, 16, 16, 0x4000000⟩
abbrev ALN_LEVEL_CNT_LATE_DROPPED : Fld := ⟨0x201118, 32, 16, 0x4000000⟩
abbrev ALN_LEVEL_CNT_WRAP_MARKED : Fld := ⟨0x201118, 48, 16, 0x4000000⟩
-- STB_FEA_CFG: 08_features.md R222
abbrev FEA_CFG_MODEL_DEADLINE_US : Fld := ⟨0x281000, 0, 16, 0⟩
abbrev FEA_CFG_BASE_DEADLINE_US : Fld := ⟨0x281000, 16, 16, 0⟩
abbrev FEA_CFG_FRAC_BITS : Fld := ⟨0x281000, 32, 6, 0⟩
abbrev FEA_CFG_K_A : Fld := ⟨0x281000, 40, 5, 0⟩
-- STB_FEA_STATUS: 08_features.md R222
abbrev FEA_STATUS_LAST_EPOCH : Fld := ⟨0x281008, 0, 48, 0⟩
abbrev FEA_STATUS_PASSES : Fld := ⟨0x281008, 48, 3, 0⟩
-- STB_FEA_CNT: 08_features.md R222
abbrev FEA_CNT_NAN_SUBST : Fld := ⟨0x281010, 0, 16, 0⟩
abbrev FEA_CNT_MISSING : Fld := ⟨0x281010, 16, 16, 0⟩
abbrev FEA_CNT_CLAMP : Fld := ⟨0x281010, 32, 16, 0⟩
abbrev FEA_CNT_MODEL_LATE : Fld := ⟨0x281010, 48, 16, 0⟩
-- STB_FEA_EXT_INDEX: 08_features.md R222
abbrev FEA_EXT_INDEX_ENTRY : Fld := ⟨0x281100, 0, 12, 0⟩
-- STB_FEA_EXT_DATA: 08_features.md R222
abbrev FEA_EXT_DATA_SUBJECT : Fld := ⟨0x281108, 0, 32, 0x4000000⟩
abbrev FEA_EXT_DATA_SLOT : Fld := ⟨0x281108, 32, 8, 0x4000000⟩
abbrev FEA_EXT_DATA_CODE : Fld := ⟨0x281108, 40, 16, 0x4000000⟩
abbrev FEA_EXT_DATA_LIFETIME : Fld := ⟨0x281108, 56, 8, 0x4000000⟩
-- STB_FEA_BASE: 08_features.md R222
abbrev FEA_BASE_GEN : Fld := ⟨0x281200, 0, 32, 0⟩
abbrev FEA_BASE_PENDING : Fld := ⟨0x281200, 32, 1, 0⟩
abbrev FEA_BASE_RANK_M1 : Fld := ⟨0x281200, 33, 6, 0⟩
abbrev FEA_BASE_FB_M1 : Fld := ⟨0x281200, 39, 8, 0⟩
abbrev FEA_BASE_BASE_INTERVAL_LOG2 : Fld := ⟨0x281200, 48, 4, 0⟩
abbrev FEA_BASE_BASE_REJECT : Fld := ⟨0x281200, 56, 8, 0⟩
-- STB_FEA_ACT: 08_features.md R222
abbrev FEA_ACT_ACT_DELAY : Fld := ⟨0x281208, 0, 16, 0⟩
abbrev FEA_ACT_PENDING_EPOCH : Fld := ⟨0x281208, 16, 48, 0⟩
-- STB_TRE_CFG: 09_tree_engine.md R245
abbrev TRE_CFG_DEADLINE_US : Fld := ⟨0x301000, 0, 16, 0⟩
abbrev TRE_CFG_NAN_RECHECK : Fld := ⟨0x301000, 16, 1, 0⟩
abbrev TRE_CFG_SCRUB_LOG2 : Fld := ⟨0x301000, 20, 4, 0⟩
-- STB_TRE_STATUS: 09_tree_engine.md R245
abbrev TRE_STATUS_ACTIVE_BANK : Fld := ⟨0x301008, 0, 1, 0⟩
abbrev TRE_STATUS_OLD_BUSY : Fld := ⟨0x301008, 1, 1, 0⟩
abbrev TRE_STATUS_SHADOW_READY : Fld := ⟨0x301008, 2, 1, 0⟩
abbrev TRE_STATUS_LAST_EPOCH : Fld := ⟨0x301008, 8, 48, 0⟩
-- STB_TRE_BANK0: 09_tree_engine.md R245
abbrev TRE_BANK0_GEN : Fld := ⟨0x301010, 0, 32, 0⟩
abbrev TRE_BANK0_INFLIGHT : Fld := ⟨0x301010, 32, 8, 0⟩
abbrev TRE_BANK0_VALID : Fld := ⟨0x301010, 40, 1, 0⟩
abbrev TRE_BANK0_LOADING : Fld := ⟨0x301010, 41, 1, 0⟩
-- STB_TRE_BANK1: 09_tree_engine.md R245
abbrev TRE_BANK1_GEN : Fld := ⟨0x301018, 0, 32, 0⟩
abbrev TRE_BANK1_INFLIGHT : Fld := ⟨0x301018, 32, 8, 0⟩
abbrev TRE_BANK1_VALID : Fld := ⟨0x301018, 40, 1, 0⟩
abbrev TRE_BANK1_LOADING : Fld := ⟨0x301018, 41, 1, 0⟩
-- STB_TRE_SWAP: 09_tree_engine.md R245
abbrev TRE_SWAP_SWAP_EPOCH : Fld := ⟨0x301020, 0, 48, 0⟩
-- STB_TRE_CNT0: 09_tree_engine.md R245
abbrev TRE_CNT0_ABANDONED : Fld := ⟨0x301028, 0, 16, 0⟩
abbrev TRE_CNT0_NO_MATCH : Fld := ⟨0x301028, 16, 16, 0⟩
abbrev TRE_CNT0_MULTI_MATCH : Fld := ⟨0x301028, 32, 16, 0⟩
abbrev TRE_CNT0_SCRUB_FIX : Fld := ⟨0x301028, 48, 16, 0⟩
-- STB_TRE_CNT1: 09_tree_engine.md R245
abbrev TRE_CNT1_LEAF_CE : Fld := ⟨0x301030, 0, 16, 0⟩
abbrev TRE_CNT1_LEAF_UE : Fld := ⟨0x301030, 16, 16, 0⟩
abbrev TRE_CNT1_NAN_DEP : Fld := ⟨0x301030, 32, 16, 0⟩
-- STB_TRE_ERR_LOC: 09_tree_engine.md R245
abbrev TRE_ERR_LOC_ROW : Fld := ⟨0x301038, 0, 15, 0⟩
abbrev TRE_ERR_LOC_SLICE : Fld := ⟨0x301038, 15, 4, 0⟩
abbrev TRE_ERR_LOC_BANK : Fld := ⟨0x301038, 19, 1, 0⟩
abbrev TRE_ERR_LOC_KIND : Fld := ⟨0x301038, 20, 3, 0⟩
-- STB_TRE_ENTRY_INDEX: 09_tree_engine.md R245
abbrev TRE_ENTRY_INDEX_ROW : Fld := ⟨0x301100, 0, 15, 0⟩
abbrev TRE_ENTRY_INDEX_SLICE : Fld := ⟨0x301100, 15, 4, 0⟩
abbrev TRE_ENTRY_INDEX_BANK : Fld := ⟨0x301100, 19, 1, 0⟩
abbrev TRE_ENTRY_INDEX_WORD : Fld := ⟨0x301100, 20, 4, 0⟩
-- STB_TRE_ENTRY_DATA: 09_tree_engine.md R245
abbrev TRE_ENTRY_DATA_DATA : Fld := ⟨0x301108, 0, 64, 0x4000000⟩
-- STB_TRE_LEAF: 09_tree_engine.md R245
abbrev TRE_LEAF_VALUE : Fld := ⟨0x301110, 0, 32, 0x4000000⟩
abbrev TRE_LEAF_CLASS : Fld := ⟨0x301110, 32, 4, 0x4000000⟩
abbrev TRE_LEAF_CAUSE : Fld := ⟨0x301110, 36, 4, 0x4000000⟩
abbrev TRE_LEAF_FEATURE : Fld := ⟨0x301110, 40, 8, 0x4000000⟩
abbrev TRE_LEAF_VALID : Fld := ⟨0x301110, 48, 1, 0x4000000⟩
-- STB_TRE_PLAN_INDEX: 09_tree_engine.md R245
abbrev TRE_PLAN_INDEX_SPLIT : Fld := ⟨0x301200, 0, 9, 0⟩
abbrev TRE_PLAN_INDEX_PLAN : Fld := ⟨0x301200, 9, 6, 0⟩
abbrev TRE_PLAN_INDEX_BANK : Fld := ⟨0x301200, 15, 1, 0⟩
-- STB_TRE_PLAN_DATA: 09_tree_engine.md R245
abbrev TRE_PLAN_DATA_SLOT : Fld := ⟨0x301208, 0, 8, 0x4000000⟩
abbrev TRE_PLAN_DATA_THRESHOLD : Fld := ⟨0x301208, 8, 16, 0x4000000⟩
abbrev TRE_PLAN_DATA_VALID : Fld := ⟨0x301208, 24, 1, 0x4000000⟩
abbrev TRE_PLAN_DATA_PLAN_SPLITS : Fld := ⟨0x301208, 32, 9, 0x4000000⟩
abbrev TRE_PLAN_DATA_SUBJECT_CLASS : Fld := ⟨0x301208, 41, 2, 0x4000000⟩
-- STB_TRE_ENS_INDEX: 09_tree_engine.md R245
abbrev TRE_ENS_INDEX_ENSEMBLE : Fld := ⟨0x301300, 0, 3, 0⟩
abbrev TRE_ENS_INDEX_BANK : Fld := ⟨0x301300, 3, 1, 0⟩
abbrev TRE_ENS_INDEX_CLASS : Fld := ⟨0x301300, 4, 4, 0⟩
-- STB_TRE_ENS_DATA: 09_tree_engine.md R245
abbrev TRE_ENS_DATA_TREES : Fld := ⟨0x301308, 0, 14, 0x4000000⟩
abbrev TRE_ENS_DATA_CLASSES_M1 : Fld := ⟨0x301308, 14, 4, 0x4000000⟩
abbrev TRE_ENS_DATA_LINK : Fld := ⟨0x301308, 18, 2, 0x4000000⟩
abbrev TRE_ENS_DATA_AVERAGE : Fld := ⟨0x301308, 20, 1, 0x4000000⟩
abbrev TRE_ENS_DATA_EXPL_K : Fld := ⟨0x301308, 21, 4, 0x4000000⟩
abbrev TRE_ENS_DATA_SUBJECT_CLASS : Fld := ⟨0x301308, 25, 2, 0x4000000⟩
abbrev TRE_ENS_DATA_VALID : Fld := ⟨0x301308, 27, 1, 0x4000000⟩
abbrev TRE_ENS_DATA_BASE : Fld := ⟨0x301308, 32, 32, 0x4000000⟩
-- STB_Tnn_TILE: 10_tensor_arithmetic.md R281
abbrev Tnn_TILE_TILES : Fld := ⟨0x801000, 0, 32, 0x80000⟩
abbrev Tnn_TILE_LAYER : Fld := ⟨0x801000, 32, 6, 0x80000⟩
abbrev Tnn_TILE_BUSY : Fld := ⟨0x801000, 38, 1, 0x80000⟩
abbrev Tnn_TILE_CANARY : Fld := ⟨0x801000, 39, 1, 0x80000⟩
abbrev Tnn_TILE_RERUN : Fld := ⟨0x801000, 40, 1, 0x80000⟩
abbrev Tnn_TILE_REPLAY : Fld := ⟨0x801000, 41, 1, 0x80000⟩
abbrev Tnn_TILE_HELD : Fld := ⟨0x801000, 42, 1, 0x80000⟩
abbrev Tnn_TILE_PARKED : Fld := ⟨0x801000, 43, 1, 0x80000⟩
-- STB_Tnn_CENSUS0: 10_tensor_arithmetic.md R281
abbrev Tnn_CENSUS0_SAT_ACC : Fld := ⟨0x801008, 0, 16, 0x80000⟩
abbrev Tnn_CENSUS0_SAT_OUT : Fld := ⟨0x801008, 16, 16, 0x80000⟩
abbrev Tnn_CENSUS0_SPREAD : Fld := ⟨0x801008, 32, 16, 0x80000⟩
abbrev Tnn_CENSUS0_NONFINITE : Fld := ⟨0x801008, 48, 16, 0x80000⟩
-- STB_Tnn_CENSUS1: 10_tensor_arithmetic.md R281
abbrev Tnn_CENSUS1_ESC_BLOCKS : Fld := ⟨0x801010, 0, 32, 0x80000⟩
abbrev Tnn_CENSUS1_RES_ERR : Fld := ⟨0x801010, 32, 16, 0x80000⟩
abbrev Tnn_CENSUS1_POISON_OUT : Fld := ⟨0x801010, 48, 16, 0x80000⟩
-- STB_Tnn_CENSUS2: 10_tensor_arithmetic.md R281
abbrev Tnn_CENSUS2_CE : Fld := ⟨0x801018, 0, 16, 0x80000⟩
abbrev Tnn_CENSUS2_UE : Fld := ⟨0x801018, 16, 16, 0x80000⟩
abbrev Tnn_CENSUS2_WEIGHT_RELOAD : Fld := ⟨0x801018, 32, 16, 0x80000⟩
abbrev Tnn_CENSUS2_FORMAT_ERR : Fld := ⟨0x801018, 48, 16, 0x80000⟩
-- STB_STW_TDSP_CFG: 10_tensor_arithmetic.md R281
abbrev STW_TDSP_CFG_FLUSH_MAX : Fld := ⟨0x702000, 0, 6, 0⟩
abbrev STW_TDSP_CFG_SPREAD_MAX : Fld := ⟨0x702000, 8, 4, 0⟩
abbrev STW_TDSP_CFG_ESC_EN : Fld := ⟨0x702000, 12, 1, 0⟩
abbrev STW_TDSP_CFG_CANARY_SHIFT : Fld := ⟨0x702000, 16, 5, 0⟩
abbrev STW_TDSP_CFG_CANARY_ALARM_LOG2 : Fld := ⟨0x702000, 24, 6, 0⟩
abbrev STW_TDSP_CFG_ARB_TIMEOUT_MS : Fld := ⟨0x702000, 32, 16, 0⟩
-- STB_STW_TDSP_POOL0: 10_tensor_arithmetic.md R281
abbrev STW_TDSP_POOL0_POOL : Fld := ⟨0x702008, 0, 64, 0⟩
-- STB_STW_TDSP_POOL1: 10_tensor_arithmetic.md R281
abbrev STW_TDSP_POOL1_POOL : Fld := ⟨0x702010, 0, 20, 0⟩
-- STB_STW_TDSP_DISPUTE: 10_tensor_arithmetic.md R281
abbrev STW_TDSP_DISPUTE_CORE : Fld := ⟨0x702018, 0, 7, 0⟩
abbrev STW_TDSP_DISPUTE_RERUN_CORE : Fld := ⟨0x702018, 8, 7, 0⟩
abbrev STW_TDSP_DISPUTE_OUTCOME : Fld := ⟨0x702018, 16, 2, 0⟩
abbrev STW_TDSP_DISPUTE_OPEN : Fld := ⟨0x702018, 20, 3, 0⟩
abbrev STW_TDSP_DISPUTE_COUNT : Fld := ⟨0x702018, 32, 16, 0⟩
abbrev STW_TDSP_DISPUTE_UNRESOLVED : Fld := ⟨0x702018, 48, 16, 0⟩
-- STB_STW_TDSP_CANARY_INDEX: 10_tensor_arithmetic.md R281
abbrev STW_TDSP_CANARY_INDEX_LAYER : Fld := ⟨0x702020, 0, 6, 0⟩
-- STB_STW_TDSP_CANARY_DATA: 10_tensor_arithmetic.md R281
abbrev STW_TDSP_CANARY_DATA_MEAN_D : Fld := ⟨0x702028, 0, 32, 0x4000000⟩
abbrev STW_TDSP_CANARY_DATA_COUNT : Fld := ⟨0x702028, 32, 16, 0x4000000⟩
abbrev STW_TDSP_CANARY_DATA_DRIFT : Fld := ⟨0x702028, 48, 1, 0x4000000⟩
-- STB_ARB_STATUS: 10_tensor_arithmetic.md R281
abbrev ARB_STATUS_QUEUED : Fld := ⟨0x581000, 0, 5, 0⟩
abbrev ARB_STATUS_BUSY : Fld := ⟨0x581000, 5, 1, 0⟩
abbrev ARB_STATUS_KIND : Fld := ⟨0x581000, 6, 2, 0⟩
-- STB_ARB_CNT: 10_tensor_arithmetic.md R281
abbrev ARB_CNT_JOBS : Fld := ⟨0x581008, 0, 16, 0⟩
abbrev ARB_CNT_DIE_WRONG : Fld := ⟨0x581008, 16, 16, 0⟩
abbrev ARB_CNT_CORE_WRONG : Fld := ⟨0x581008, 32, 16, 0⟩
abbrev ARB_CNT_NO_RESULT : Fld := ⟨0x581008, 48, 16, 0⟩
-- STB_ARB_PROF_INDEX: 10_tensor_arithmetic.md R281
abbrev ARB_PROF_INDEX_PROFILE : Fld := ⟨0x581100, 0, 15, 0⟩
abbrev ARB_PROF_INDEX_WORD : Fld := ⟨0x581100, 16, 2, 0⟩
-- STB_ARB_PROF_DATA: 10_tensor_arithmetic.md R281
abbrev ARB_PROF_DATA_DATA : Fld := ⟨0x581108, 0, 64, 0x4000000⟩
-- STB_STW_MDL_INDEX: 11_sequence_models.md R299
abbrev STW_MDL_INDEX_MODEL : Fld := ⟨0x702100, 0, 2, 0⟩
-- STB_STW_MDL_CFG: 11_sequence_models.md R299
abbrev STW_MDL_CFG_VALID : Fld := ⟨0x702108, 0, 1, 0x4000000⟩
abbrev STW_MDL_CFG_SUBJECT_CLASS : Fld := ⟨0x702108, 1, 2, 0x4000000⟩
abbrev STW_MDL_CFG_LAYERS_M1 : Fld := ⟨0x702108, 3, 6, 0x4000000⟩
abbrev STW_MDL_CFG_WINDOW_M1 : Fld := ⟨0x702108, 9, 6, 0x4000000⟩
abbrev STW_MDL_CFG_OUTPUTS_M1 : Fld := ⟨0x702108, 15, 4, 0x4000000⟩
abbrev STW_MDL_CFG_MIN_PAST : Fld := ⟨0x702108, 24, 7, 0x4000000⟩
abbrev STW_MDL_CFG_H : Fld := ⟨0x702108, 32, 32, 0x4000000⟩
-- STB_STW_MDL_STATUS: 11_sequence_models.md R299
abbrev STW_MDL_STATUS_RUN_EPOCH : Fld := ⟨0x702110, 0, 48, 0x4000000⟩
abbrev STW_MDL_STATUS_LAYER : Fld := ⟨0x702110, 48, 6, 0x4000000⟩
abbrev STW_MDL_STATUS_RUNNING : Fld := ⟨0x702110, 54, 1, 0x4000000⟩
abbrev STW_MDL_STATUS_WAITING : Fld := ⟨0x702110, 55, 2, 0x4000000⟩
-- STB_STW_MDL_CNT: 11_sequence_models.md R299
abbrev STW_MDL_CNT_ABANDONED : Fld := ⟨0x702118, 0, 16, 0x4000000⟩
abbrev STW_MDL_CNT_KV_POISON : Fld := ⟨0x702118, 16, 16, 0x4000000⟩
abbrev STW_MDL_CNT_WITHHELD : Fld := ⟨0x702118, 32, 16, 0x4000000⟩
abbrev STW_MDL_CNT_CLEARS : Fld := ⟨0x702118, 48, 16, 0x4000000⟩
-- STB_STW_MDL_WIN: 11_sequence_models.md R299
abbrev STW_MDL_WIN_NEWEST : Fld := ⟨0x702120, 0, 48, 0x4000000⟩
abbrev STW_MDL_WIN_VALID_SLOTS : Fld := ⟨0x702120, 48, 7, 0x4000000⟩
-- STB_VRD_STATUS: 12_verdicts.md R324
abbrev VRD_STATUS_KEY_LOST : Fld := ⟨0x381000, 0, 1, 0⟩
abbrev VRD_STATUS_SIGNING : Fld := ⟨0x381000, 1, 1, 0⟩
abbrev VRD_STATUS_LAST_EPOCH : Fld := ⟨0x381000, 16, 48, 0⟩
-- STB_VRD_CNT: 12_verdicts.md R324
abbrev VRD_CNT_CHANGES : Fld := ⟨0x381008, 0, 16, 0⟩
abbrev VRD_CNT_FENCED : Fld := ⟨0x381008, 16, 16, 0⟩
abbrev VRD_CNT_HELD : Fld := ⟨0x381008, 32, 16, 0⟩
abbrev VRD_CNT_LATE_VERDICT : Fld := ⟨0x381008, 48, 16, 0⟩
-- STB_VRD_STRAG: 12_verdicts.md R324
abbrev VRD_STRAG_STRAG_K : Fld := ⟨0x381010, 0, 7, 0⟩
abbrev VRD_STRAG_ROUNDS_PER_STEP : Fld := ⟨0x381010, 16, 16, 0⟩
-- STB_VRD_EVID: 12_verdicts.md R324
abbrev VRD_EVID_EVID_MIN : Fld := ⟨0x381018, 0, 8, 0⟩
abbrev VRD_EVID_EVID_CAUSE : Fld := ⟨0x381018, 8, 4, 0⟩
abbrev VRD_EVID_EVID_WINDOW : Fld := ⟨0x381018, 16, 48, 0⟩
-- STB_VRD_LEVEL_INDEX: 12_verdicts.md R324
abbrev VRD_LEVEL_INDEX_LEVEL : Fld := ⟨0x381100, 0, 2, 0⟩
-- STB_VRD_LEVEL_CFG: 12_verdicts.md R324
abbrev VRD_LEVEL_CFG_ISSUE_US : Fld := ⟨0x381108, 0, 16, 0x4000000⟩
abbrev VRD_LEVEL_CFG_LAST_EPOCH : Fld := ⟨0x381108, 16, 48, 0x4000000⟩
-- STB_VRD_POLICY_INDEX: 12_verdicts.md R324
abbrev VRD_POLICY_INDEX_CLASS : Fld := ⟨0x381200, 0, 2, 0⟩
-- STB_VRD_POLICY_SRC: 12_verdicts.md R324
abbrev VRD_POLICY_SRC_SCORE_ENS : Fld := ⟨0x381208, 0, 3, 0x4000000⟩
abbrev VRD_POLICY_SRC_SCORE_CLASS : Fld := ⟨0x381208, 3, 4, 0x4000000⟩
abbrev VRD_POLICY_SRC_SCORE_VALID : Fld := ⟨0x381208, 7, 1, 0x4000000⟩
abbrev VRD_POLICY_SRC_CAUSE_ENS : Fld := ⟨0x381208, 8, 3, 0x4000000⟩
abbrev VRD_POLICY_SRC_CAUSE_VALID : Fld := ⟨0x381208, 11, 1, 0x4000000⟩
abbrev VRD_POLICY_SRC_UNKNOWN_CAUSE : Fld := ⟨0x381208, 12, 4, 0x4000000⟩
abbrev VRD_POLICY_SRC_FENCEABLE : Fld := ⟨0x381208, 16, 16, 0x4000000⟩
abbrev VRD_POLICY_SRC_CAUSE_MIN : Fld := ⟨0x381208, 32, 32, 0x4000000⟩
-- STB_VRD_POLICY_TH: 12_verdicts.md R324
abbrev VRD_POLICY_TH_WATCH_TH : Fld := ⟨0x381210, 0, 32, 0x4000000⟩
abbrev VRD_POLICY_TH_SUSPECT_TH : Fld := ⟨0x381210, 32, 32, 0x4000000⟩
-- STB_VRD_POLICY_CNT: 12_verdicts.md R324
abbrev VRD_POLICY_CNT_WATCH_M : Fld := ⟨0x381218, 0, 4, 0x4000000⟩
abbrev VRD_POLICY_CNT_SUSPECT_M : Fld := ⟨0x381218, 4, 5, 0x4000000⟩
abbrev VRD_POLICY_CNT_CLEAR_N : Fld := ⟨0x381218, 16, 16, 0x4000000⟩
abbrev VRD_POLICY_CNT_CAND_N : Fld := ⟨0x381218, 32, 16, 0x4000000⟩
abbrev VRD_POLICY_CNT_STALE_N : Fld := ⟨0x381218, 48, 8, 0x4000000⟩
abbrev VRD_POLICY_CNT_RESTATE : Fld := ⟨0x381218, 56, 8, 0x4000000⟩
-- STB_VRD_BUDGET: 12_verdicts.md R324
abbrev VRD_BUDGET_RATE : Fld := ⟨0x381300, 0, 8, 0⟩
abbrev VRD_BUDGET_RESERVE : Fld := ⟨0x381300, 8, 8, 0⟩
abbrev VRD_BUDGET_SPARES : Fld := ⟨0x381300, 16, 16, 0⟩
abbrev VRD_BUDGET_SPARE_LEFT : Fld := ⟨0x381300, 32, 16, 0⟩
abbrev VRD_BUDGET_TOKENS : Fld := ⟨0x381300, 48, 8, 0⟩
abbrev VRD_BUDGET_HELD : Fld := ⟨0x381300, 56, 7, 0⟩
abbrev VRD_BUDGET_EXHAUSTED : Fld := ⟨0x381300, 63, 1, 0⟩
-- STB_VRD_BUDGET_WIN: 12_verdicts.md R324
abbrev VRD_BUDGET_WIN_WINDOW_EPOCHS : Fld := ⟨0x381308, 0, 48, 0⟩
-- STB_VRD_DOMAIN_MIN: 12_verdicts.md R324
abbrev VRD_DOMAIN_MIN_TRAY : Fld := ⟨0x381310, 0, 8, 0⟩
abbrev VRD_DOMAIN_MIN_SHELF : Fld := ⟨0x381310, 8, 8, 0⟩
abbrev VRD_DOMAIN_MIN_COOLING : Fld := ⟨0x381310, 16, 8, 0⟩
abbrev VRD_DOMAIN_MIN_SWITCH : Fld := ⟨0x381310, 24, 8, 0⟩
abbrev VRD_DOMAIN_MIN_SITE : Fld := ⟨0x381310, 32, 8, 0⟩
-- STB_VRD_DOMAIN_WIN: 12_verdicts.md R324
abbrev VRD_DOMAIN_WIN_DOMAIN_WINDOW : Fld := ⟨0x381318, 0, 48, 0⟩
-- STB_DIG_CFG: 13_job_integrity.md R350
abbrev DIG_CFG_CHECK_EN : Fld := ⟨0x501000, 0, 1, 0⟩
abbrev DIG_CFG_DISPUTE_EN : Fld := ⟨0x501000, 1, 1, 0⟩
-- STB_DIG_STATUS: 13_job_integrity.md R350
abbrev DIG_STATUS_OPEN_ROUNDS : Fld := ⟨0x501008, 0, 7, 0⟩
abbrev DIG_STATUS_LAST_ROUND : Fld := ⟨0x501008, 8, 16, 0⟩
abbrev DIG_STATUS_LAST_ANSWER : Fld := ⟨0x501008, 24, 2, 0⟩
-- STB_DIG_CNT0: 13_job_integrity.md R350
abbrev DIG_CNT0_CHUNKS : Fld := ⟨0x501010, 0, 32, 0⟩
abbrev DIG_CNT0_STOPS : Fld := ⟨0x501010, 32, 16, 0⟩
abbrev DIG_CNT0_UNCHECKED : Fld := ⟨0x501010, 48, 16, 0⟩
-- STB_DIG_CNT1: 13_job_integrity.md R350
abbrev DIG_CNT1_FRAME_ERR : Fld := ⟨0x501018, 0, 16, 0⟩
abbrev DIG_CNT1_DIGEST_ERR : Fld := ⟨0x501018, 16, 16, 0⟩
abbrev DIG_CNT1_POISONED : Fld := ⟨0x501018, 32, 16, 0⟩
abbrev DIG_CNT1_SOURCE_ERR : Fld := ⟨0x501018, 48, 16, 0⟩
-- STB_DIG_ERR_LOC: 13_job_integrity.md R350
abbrev DIG_ERR_LOC_SRC : Fld := ⟨0x501020, 0, 32, 0⟩
abbrev DIG_ERR_LOC_ROUND : Fld := ⟨0x501020, 32, 16, 0⟩
abbrev DIG_ERR_LOC_CHECK : Fld := ⟨0x501020, 48, 3, 0⟩
-- STB_DIG_DISPUTE: 13_job_integrity.md R350
abbrev DIG_DISPUTE_TRANSPORT : Fld := ⟨0x501028, 0, 16, 0⟩
abbrev DIG_DISPUTE_DIE_MEMORY : Fld := ⟨0x501028, 16, 16, 0⟩
abbrev DIG_DISPUTE_UNDECIDED : Fld := ⟨0x501028, 32, 16, 0⟩
abbrev DIG_DISPUTE_FRAME : Fld := ⟨0x501028, 48, 16, 0⟩
-- STB_STW_REPLAY_CFG: 13_job_integrity.md R350
abbrev STW_REPLAY_CFG_REPLAY_Q : Fld := ⟨0x702200, 0, 9, 0⟩
abbrev STW_REPLAY_CFG_FOCUS_QUOTA : Fld := ⟨0x702200, 16, 8, 0⟩
abbrev STW_REPLAY_CFG_FOCUS_EPOCHS : Fld := ⟨0x702200, 32, 32, 0⟩
-- STB_STW_REPLAY_CNT: 13_job_integrity.md R350
abbrev STW_REPLAY_CNT_REPLAYED : Fld := ⟨0x702208, 0, 16, 0⟩
abbrev STW_REPLAY_CNT_DROPPED : Fld := ⟨0x702208, 16, 16, 0⟩
abbrev STW_REPLAY_CNT_POISONED : Fld := ⟨0x702208, 32, 16, 0⟩
abbrev STW_REPLAY_CNT_BAD_PROFILE : Fld := ⟨0x702208, 48, 16, 0⟩
-- STB_STW_REPLICA_INDEX: 13_job_integrity.md R350
abbrev STW_REPLICA_INDEX_SET : Fld := ⟨0x702300, 0, 10, 0⟩
-- STB_STW_REPLICA_DATA: 13_job_integrity.md R350
abbrev STW_REPLICA_DATA_TAG : Fld := ⟨0x702308, 0, 16, 0x4000000⟩
abbrev STW_REPLICA_DATA_MEMBERS : Fld := ⟨0x702308, 16, 7, 0x4000000⟩
abbrev STW_REPLICA_DATA_VALID : Fld := ⟨0x702308, 23, 1, 0x4000000⟩
abbrev STW_REPLICA_DATA_EVALUATED : Fld := ⟨0x702308, 24, 1, 0x4000000⟩
abbrev STW_REPLICA_DATA_FOCUS : Fld := ⟨0x702308, 25, 1, 0x4000000⟩
abbrev STW_REPLICA_DATA_LAST_ORDINAL : Fld := ⟨0x702308, 32, 32, 0x4000000⟩
-- STB_STW_REPLICA_CNT: 13_job_integrity.md R350
abbrev STW_REPLICA_CNT_AGREE : Fld := ⟨0x702310, 0, 16, 0⟩
abbrev STW_REPLICA_CNT_MINORITY : Fld := ⟨0x702310, 16, 16, 0⟩
abbrev STW_REPLICA_CNT_SPLIT : Fld := ⟨0x702310, 32, 16, 0⟩
abbrev STW_REPLICA_CNT_INCOMPLETE : Fld := ⟨0x702310, 48, 16, 0⟩
-- STB_TST_CFG: 13_job_integrity.md R350
abbrev TST_CFG_DEFER_CEILING_S : Fld := ⟨0x781000, 0, 32, 0⟩
abbrev TST_CFG_NOANS_MAX : Fld := ⟨0x781000, 32, 4, 0⟩
-- STB_TST_STATUS: 13_job_integrity.md R350
abbrev TST_STATUS_PACKAGES : Fld := ⟨0x781008, 0, 9, 0⟩
abbrev TST_STATUS_OVERDUE : Fld := ⟨0x781008, 16, 16, 0⟩
abbrev TST_STATUS_BAD_SIG : Fld := ⟨0x781008, 32, 16, 0⟩
-- STB_TST_PKG_INDEX: 13_job_integrity.md R350
abbrev TST_PKG_INDEX_ENTRY : Fld := ⟨0x781100, 0, 8, 0⟩
-- STB_TST_PKG_DATA: 13_job_integrity.md R350
abbrev TST_PKG_DATA_PACKAGE : Fld := ⟨0x781108, 0, 32, 0x4000000⟩
abbrev TST_PKG_DATA_PVERSION : Fld := ⟨0x781108, 32, 32, 0x4000000⟩
-- PTK_CSD_REQ: 13_job_integrity.md R350
abbrev PTK_CSD_REQ_ROUND : Fld := ⟨0x6c8, 0, 16, 0⟩
abbrev PTK_CSD_REQ_SEQ : Fld := ⟨0x6c8, 16, 32, 0⟩
-- PTK_TST_SLOT_INDEX: 13_job_integrity.md R350
abbrev PTK_TST_SLOT_INDEX_SLOT : Fld := ⟨0x708, 0, 4, 0⟩
-- PTK_TST_SLOT_DESC: 13_job_integrity.md R350
abbrev PTK_TST_SLOT_DESC_PACKAGE : Fld := ⟨0x710, 0, 32, 0x4000000⟩
abbrev PTK_TST_SLOT_DESC_LENGTH_NS : Fld := ⟨0x710, 32, 28, 0x4000000⟩
abbrev PTK_TST_SLOT_DESC_BAND : Fld := ⟨0x710, 60, 3, 0x4000000⟩
abbrev PTK_TST_SLOT_DESC_BAND_REQ : Fld := ⟨0x710, 63, 1, 0x4000000⟩
-- PTK_TST_DUEn: 13_job_integrity.md R350
abbrev PTK_TST_DUE_DUE : Fld := ⟨0x718, 0, 64, 0x4000000⟩
-- STB_STO_CFG: 14_shared_store_and_compression.md R377
abbrev STO_CFG_SCRUB_H : Fld := ⟨0x401000, 0, 8, 0⟩
-- STB_STO_ECC: 14_shared_store_and_compression.md R377
abbrev STO_ECC_CE : Fld := ⟨0x401008, 0, 32, 0⟩
abbrev STO_ECC_UE : Fld := ⟨0x401008, 32, 16, 0⟩
abbrev STO_ECC_SCRUB_PASSES : Fld := ⟨0x401008, 48, 16, 0⟩
-- STB_STO_ERR_LOC: 14_shared_store_and_compression.md R377
abbrev STO_ERR_LOC_WORD : Fld := ⟨0x401010, 0, 33, 0⟩
abbrev STO_ERR_LOC_LAYER : Fld := ⟨0x401010, 33, 3, 0⟩
abbrev STO_ERR_LOC_KIND : Fld := ⟨0x401010, 36, 2, 0⟩
-- STB_STO_VIOL: 14_shared_store_and_compression.md R377
abbrev STO_VIOL_ISLAND : Fld := ⟨0x401018, 0, 7, 0⟩
abbrev STO_VIOL_WRITE : Fld := ⟨0x401018, 7, 1, 0⟩
abbrev STO_VIOL_REGION : Fld := ⟨0x401018, 8, 10, 0⟩
abbrev STO_VIOL_OUTSIDE : Fld := ⟨0x401018, 18, 1, 0⟩
abbrev STO_VIOL_COUNT : Fld := ⟨0x401018, 32, 16, 0⟩
-- STB_STO_MAP_INDEX: 14_shared_store_and_compression.md R377
abbrev STO_MAP_INDEX_REGION : Fld := ⟨0x401100, 0, 10, 0⟩
abbrev STO_MAP_INDEX_OLD : Fld := ⟨0x401100, 10, 1, 0⟩
-- STB_STO_MAP_DATA0: 14_shared_store_and_compression.md R377
abbrev STO_MAP_DATA0_KIND : Fld := ⟨0x401108, 0, 8, 0x4000000⟩
abbrev STO_MAP_DATA0_EXTERNAL : Fld := ⟨0x401108, 8, 1, 0x4000000⟩
abbrev STO_MAP_DATA0_VALID : Fld := ⟨0x401108, 9, 1, 0x4000000⟩
abbrev STO_MAP_DATA0_WRITER : Fld := ⟨0x401108, 10, 7, 0x4000000⟩
abbrev STO_MAP_DATA0_BASE_4K : Fld := ⟨0x401108, 28, 36, 0x4000000⟩
-- STB_STO_MAP_DATA1: 14_shared_store_and_compression.md R377
abbrev STO_MAP_DATA1_SIZE_4K : Fld := ⟨0x401110, 0, 36, 0x4000000⟩
abbrev STO_MAP_DATA1_INSTANCE : Fld := ⟨0x401110, 36, 16, 0x4000000⟩
abbrev STO_MAP_DATA1_OLD_BUSY : Fld := ⟨0x401110, 63, 1, 0x4000000⟩
-- PTK_COD_CFG: 14_shared_store_and_compression.md R377
abbrev PTK_COD_CFG_TYPES : Fld := ⟨0x7b8, 0, 16, 0⟩
-- STB_COD_CFG: 14_shared_store_and_compression.md R377
abbrev COD_CFG_LIVE_OUT_KIB : Fld := ⟨0x481000, 0, 7, 0⟩
-- STB_COD_CNT: 14_shared_store_and_compression.md R377
abbrev COD_CNT_CODED : Fld := ⟨0x481008, 0, 16, 0⟩
abbrev COD_CNT_RAW_STORED : Fld := ⟨0x481008, 16, 16, 0⟩
abbrev COD_CNT_NOSPACE : Fld := ⟨0x481008, 32, 16, 0⟩
abbrev COD_CNT_LIVE_LOST : Fld := ⟨0x481008, 48, 16, 0⟩
-- STB_COD_DEC_ERR: 14_shared_store_and_compression.md R377
abbrev COD_DEC_ERR_STATUS1 : Fld := ⟨0x481010, 0, 8, 0⟩
abbrev COD_DEC_ERR_STATUS2 : Fld := ⟨0x481010, 8, 8, 0⟩
abbrev COD_DEC_ERR_STATUS3 : Fld := ⟨0x481010, 16, 8, 0⟩
abbrev COD_DEC_ERR_STATUS4 : Fld := ⟨0x481010, 24, 8, 0⟩
abbrev COD_DEC_ERR_STATUS5 : Fld := ⟨0x481010, 32, 8, 0⟩
abbrev COD_DEC_ERR_STATUS6 : Fld := ⟨0x481010, 40, 8, 0⟩
-- STB_COD_DICT_CTRL: 14_shared_store_and_compression.md R377
abbrev COD_DICT_CTRL_ACTIVE_TGEN : Fld := ⟨0x481100, 0, 2, 0⟩
abbrev COD_DICT_CTRL_ACTIVATE : Fld := ⟨0x481100, 2, 1, 0⟩
abbrev COD_DICT_CTRL_ACT_REFUSED : Fld := ⟨0x481100, 3, 1, 0⟩
abbrev COD_DICT_CTRL_LOAD_REFUSED : Fld := ⟨0x481100, 4, 1, 0⟩
abbrev COD_DICT_CTRL_IDLE_ENTRIES : Fld := ⟨0x481100, 8, 9, 0⟩
abbrev COD_DICT_CTRL_ACTIVE_SERIAL : Fld := ⟨0x481100, 32, 32, 0⟩
-- STB_COD_DICT_INDEX: 14_shared_store_and_compression.md R377
abbrev COD_DICT_INDEX_ENTRY : Fld := ⟨0x481108, 0, 8, 0⟩
-- STB_COD_DICT_DATA: 14_shared_store_and_compression.md R377
abbrev COD_DICT_DATA_VALUE : Fld := ⟨0x481110, 0, 64, 0x4000000⟩
-- STB_COD_BANK0: 14_shared_store_and_compression.md R377
abbrev COD_BANK0_TGEN : Fld := ⟨0x481118, 0, 2, 0⟩
abbrev COD_BANK0_ACTIVE : Fld := ⟨0x481118, 2, 1, 0⟩
abbrev COD_BANK0_RETIRING : Fld := ⟨0x481118, 3, 1, 0⟩
abbrev COD_BANK0_ENTRIES : Fld := ⟨0x481118, 4, 9, 0⟩
abbrev COD_BANK0_INFLIGHT : Fld := ⟨0x481118, 16, 16, 0⟩
abbrev COD_BANK0_SERIAL : Fld := ⟨0x481118, 32, 32, 0⟩
-- STB_COD_BANK1: 14_shared_store_and_compression.md R377
abbrev COD_BANK1_TGEN : Fld := ⟨0x481120, 0, 2, 0⟩
abbrev COD_BANK1_ACTIVE : Fld := ⟨0x481120, 2, 1, 0⟩
abbrev COD_BANK1_RETIRING : Fld := ⟨0x481120, 3, 1, 0⟩
abbrev COD_BANK1_ENTRIES : Fld := ⟨0x481120, 4, 9, 0⟩
abbrev COD_BANK1_INFLIGHT : Fld := ⟨0x481120, 16, 16, 0⟩
abbrev COD_BANK1_SERIAL : Fld := ⟨0x481120, 32, 32, 0⟩
-- STB_COD_ARCH_INDEX: 14_shared_store_and_compression.md R377
abbrev COD_ARCH_INDEX_STREAM : Fld := ⟨0x481200, 0, 4, 0⟩
-- STB_COD_ARCH_CFG: 14_shared_store_and_compression.md R377
abbrev COD_ARCH_CFG_SOURCE : Fld := ⟨0x481208, 0, 8, 0x4000000⟩
abbrev COD_ARCH_CFG_DECIMATE : Fld := ⟨0x481208, 8, 4, 0x4000000⟩
abbrev COD_ARCH_CFG_ELEM : Fld := ⟨0x481208, 12, 2, 0x4000000⟩
abbrev COD_ARCH_CFG_VALID : Fld := ⟨0x481208, 14, 1, 0x4000000⟩
abbrev COD_ARCH_CFG_ARCH_RAW_KIB : Fld := ⟨0x481208, 16, 15, 0x4000000⟩
abbrev COD_ARCH_CFG_ARCHIVE : Fld := ⟨0x481208, 32, 10, 0x4000000⟩
abbrev COD_ARCH_CFG_INDEX : Fld := ⟨0x481208, 42, 10, 0x4000000⟩
-- STB_COD_ARCH_STATUS: 14_shared_store_and_compression.md R377
abbrev COD_ARCH_STATUS_NEWEST : Fld := ⟨0x481210, 0, 48, 0x4000000⟩
abbrev COD_ARCH_STATUS_LAG_EPOCHS : Fld := ⟨0x481210, 48, 16, 0x4000000⟩
-- STB_COD_ARCH_CNT: 14_shared_store_and_compression.md R377
abbrev COD_ARCH_CNT_BLOCKS : Fld := ⟨0x481218, 0, 16, 0x4000000⟩
abbrev COD_ARCH_CNT_GAP_EPOCHS : Fld := ⟨0x481218, 16, 16, 0x4000000⟩
abbrev COD_ARCH_CNT_NOSPACE : Fld := ⟨0x481218, 32, 16, 0x4000000⟩
abbrev COD_ARCH_CNT_POISONED : Fld := ⟨0x481218, 48, 16, 0x4000000⟩
-- STB_EXP_CFG: 15_export_scheduling.md R395
abbrev EXP_CFG_LNK_OVERHEAD : Fld := ⟨0x601000, 0, 8, 0⟩
abbrev EXP_CFG_LH_OVERHEAD : Fld := ⟨0x601000, 8, 8, 0⟩
abbrev EXP_CFG_TRACE_BOOST : Fld := ⟨0x601000, 16, 1, 0⟩
-- STB_EXP_STATUS: 15_export_scheduling.md R395
abbrev EXP_STATUS_LH_HELD : Fld := ⟨0x601008, 0, 8, 0⟩
abbrev EXP_STATUS_ALL_HELD : Fld := ⟨0x601008, 8, 1, 0⟩
abbrev EXP_STATUS_ALARM_HOLD : Fld := ⟨0x601008, 9, 1, 0⟩
abbrev EXP_STATUS_HOLD_USED_MIB : Fld := ⟨0x601008, 16, 13, 0⟩
abbrev EXP_STATUS_XBUF_USED_MIB : Fld := ⟨0x601008, 32, 17, 0⟩
-- STB_EXP_LINK_INDEX: 15_export_scheduling.md R395
abbrev EXP_LINK_INDEX_LINK : Fld := ⟨0x601100, 0, 4, 0⟩
abbrev EXP_LINK_INDEX_CLASS : Fld := ⟨0x601100, 4, 3, 0⟩
-- STB_EXP_LINK_SHAPER: 15_export_scheduling.md R395
abbrev EXP_LINK_SHAPER_RATE_MBPS : Fld := ⟨0x601108, 0, 21, 0x4000000⟩
abbrev EXP_LINK_SHAPER_DEPTH_KIB : Fld := ⟨0x601108, 32, 10, 0x4000000⟩
-- STB_EXP_CLASS_SHAPER: 15_export_scheduling.md R395
abbrev EXP_CLASS_SHAPER_RATE_MBPS : Fld := ⟨0x601110, 0, 21, 0x4000000⟩
abbrev EXP_CLASS_SHAPER_DEPTH_KIB : Fld := ⟨0x601110, 32, 10, 0x4000000⟩
-- STB_EXP_BUCKETS: 15_export_scheduling.md R395
abbrev EXP_BUCKETS_LINK_BITS : Fld := ⟨0x601118, 0, 32, 0x4000000⟩
abbrev EXP_BUCKETS_CLASS_BITS : Fld := ⟨0x601118, 32, 32, 0x4000000⟩
-- STB_EXP_DEST_INDEX: 15_export_scheduling.md R395
abbrev EXP_DEST_INDEX_DEST : Fld := ⟨0x601200, 0, 10, 0⟩
-- STB_EXP_DEST_DATA: 15_export_scheduling.md R395
abbrev EXP_DEST_DATA_DMAC : Fld := ⟨0x601208, 0, 48, 0x4000000⟩
abbrev EXP_DEST_DATA_LINK : Fld := ⟨0x601208, 48, 4, 0x4000000⟩
abbrev EXP_DEST_DATA_VALID : Fld := ⟨0x601208, 52, 1, 0x4000000⟩
abbrev EXP_DEST_DATA_COARSEN_OK : Fld := ⟨0x601208, 53, 1, 0x4000000⟩
abbrev EXP_DEST_DATA_HELD : Fld := ⟨0x601208, 54, 1, 0x4000000⟩
abbrev EXP_DEST_DATA_WEIGHT : Fld := ⟨0x601208, 55, 8, 0x4000000⟩
-- STB_EXP_DEST_CNT: 15_export_scheduling.md R395
abbrev EXP_DEST_CNT_FRAMES : Fld := ⟨0x601210, 0, 32, 0x4000000⟩
abbrev EXP_DEST_CNT_QUEUE_DROP : Fld := ⟨0x601210, 32, 16, 0x4000000⟩
abbrev EXP_DEST_CNT_HOLD_DROP : Fld := ⟨0x601210, 48, 16, 0x4000000⟩
-- STB_EXP_HOLD: 15_export_scheduling.md R395
abbrev EXP_HOLD_HOLD_HORIZON : Fld := ⟨0x601300, 0, 16, 0⟩
abbrev EXP_HOLD_VERDICT_PCT : Fld := ⟨0x601300, 16, 7, 0⟩
-- STB_EXP_CNT: 15_export_scheduling.md R395
abbrev EXP_CNT_MERGED : Fld := ⟨0x601308, 0, 16, 0⟩
abbrev EXP_CNT_ABANDONED : Fld := ⟨0x601308, 16, 16, 0⟩
abbrev EXP_CNT_LOSS_MARKERS : Fld := ⟨0x601308, 32, 16, 0⟩
abbrev EXP_CNT_UNMAPPED : Fld := ⟨0x601308, 48, 16, 0⟩
-- _CYC: 16_trace_and_debug.md R415
abbrev CYC_CYCLES : Fld := ⟨0x50, 0, 64, 0x80000⟩
-- _PMCn: 16_trace_and_debug.md R415
abbrev PMC_VALUE : Fld := ⟨0x58, 0, 48, 0x80000⟩
-- _PMSELn: 16_trace_and_debug.md R415
abbrev PMSEL_EVENT : Fld := ⟨0x98, 0, 10, 0x80000⟩
abbrev PMSEL_EN : Fld := ⟨0x98, 10, 1, 0x80000⟩
abbrev PMSEL_OVF : Fld := ⟨0x98, 11, 1, 0x80000⟩
abbrev PMSEL_OVF_INT : Fld := ⟨0x98, 12, 1, 0x80000⟩
abbrev PMSEL_TICK_CLEAR : Fld := ⟨0x98, 13, 1, 0x80000⟩
-- STB_TRC_CTRL: 16_trace_and_debug.md R415
abbrev TRC_CTRL_MODE : Fld := ⟨0x681000, 0, 2, 0⟩
abbrev TRC_CTRL_TRIG : Fld := ⟨0x681000, 2, 1, 0⟩
abbrev TRC_CTRL_REARM : Fld := ⟨0x681000, 3, 1, 0⟩
abbrev TRC_CTRL_AUTO_REARM : Fld := ⟨0x681000, 4, 1, 0⟩
abbrev TRC_CTRL_RESERVE_PCT : Fld := ⟨0x681000, 5, 7, 0⟩
abbrev TRC_CTRL_POST_EPOCHS : Fld := ⟨0x681000, 12, 16, 0⟩
abbrev TRC_CTRL_BOOST_MAX : Fld := ⟨0x681000, 28, 16, 0⟩
abbrev TRC_CTRL_SNAP_MIB : Fld := ⟨0x681000, 44, 8, 0⟩
-- STB_TRC_STATUS: 16_trace_and_debug.md R415
abbrev TRC_STATUS_STATE : Fld := ⟨0x681008, 0, 2, 0⟩
abbrev TRC_STATUS_EXPORTING : Fld := ⟨0x681008, 2, 1, 0⟩
abbrev TRC_STATUS_TRIG_SOURCE : Fld := ⟨0x681008, 8, 8, 0⟩
abbrev TRC_STATUS_LOST : Fld := ⟨0x681008, 16, 32, 0⟩
abbrev TRC_STATUS_TRIG_IGNORED : Fld := ⟨0x681008, 48, 16, 0⟩
-- STB_TRC_TRIG_EN: 16_trace_and_debug.md R415
abbrev TRC_TRIG_EN_SOURCES : Fld := ⟨0x681010, 0, 7, 0⟩
abbrev TRC_TRIG_EN_VERDICT_MIN : Fld := ⟨0x681010, 8, 3, 0⟩
abbrev TRC_TRIG_EN_CROSS_TRIG : Fld := ⟨0x681010, 11, 1, 0⟩
abbrev TRC_TRIG_EN_SNAP_ON_TRIG : Fld := ⟨0x681010, 12, 1, 0⟩
-- STB_TRC_MATCH: 16_trace_and_debug.md R415
abbrev TRC_MATCH_SOURCE : Fld := ⟨0x681018, 0, 7, 0⟩
abbrev TRC_MATCH_ANY_SOURCE : Fld := ⟨0x681018, 7, 1, 0⟩
abbrev TRC_MATCH_CODE : Fld := ⟨0x681018, 8, 16, 0⟩
-- STB_TRC_CAPTURE0: 16_trace_and_debug.md R415
abbrev TRC_CAPTURE0_TRIG_EPOCH : Fld := ⟨0x681020, 0, 48, 0⟩
-- STB_TRC_CAPTURE1: 16_trace_and_debug.md R415
abbrev TRC_CAPTURE1_TRIG_OFFSET : Fld := ⟨0x681028, 0, 32, 0⟩
abbrev TRC_CAPTURE1_PRE_ENTRIES : Fld := ⟨0x681028, 32, 32, 0⟩
-- STB_TRC_SNAP: 16_trace_and_debug.md R415
abbrev TRC_SNAP_EPOCH : Fld := ⟨0x681030, 0, 48, 0⟩
abbrev TRC_SNAP_REQ : Fld := ⟨0x681030, 48, 1, 0⟩
abbrev TRC_SNAP_MISSED : Fld := ⟨0x681030, 49, 1, 0⟩
abbrev TRC_SNAP_BUSY : Fld := ⟨0x681030, 50, 1, 0⟩
abbrev TRC_SNAP_REFUSED : Fld := ⟨0x681030, 51, 1, 0⟩
abbrev TRC_SNAP_POTIKS : Fld := ⟨0x681030, 52, 1, 0⟩
-- STB_TRC_PMC_CTRL: 16_trace_and_debug.md R415
abbrev TRC_PMC_CTRL_FREEZE : Fld := ⟨0x681038, 0, 1, 0⟩
abbrev TRC_PMC_CTRL_UNFREEZE : Fld := ⟨0x681038, 1, 1, 0⟩
abbrev TRC_PMC_CTRL_CLEAR : Fld := ⟨0x681038, 2, 1, 0⟩
abbrev TRC_PMC_CTRL_FROZEN : Fld := ⟨0x681038, 3, 1, 0⟩
abbrev TRC_PMC_CTRL_FREEZE_EPOCH : Fld := ⟨0x681038, 4, 48, 0⟩
-- STB_TRC_SRC_INDEX: 16_trace_and_debug.md R415
abbrev TRC_SRC_INDEX_ISLAND : Fld := ⟨0x681100, 0, 7, 0⟩
-- STB_TRC_SRC_DATA: 16_trace_and_debug.md R415
abbrev TRC_SRC_DATA_EN : Fld := ⟨0x681108, 0, 1, 0x4000000⟩
abbrev TRC_SRC_DATA_TRIG : Fld := ⟨0x681108, 1, 1, 0x4000000⟩
abbrev TRC_SRC_DATA_NEXT_ISEQ : Fld := ⟨0x681108, 16, 16, 0x4000000⟩
abbrev TRC_SRC_DATA_LOST : Fld := ⟨0x681108, 32, 32, 0x4000000⟩
-- PTK_SNAP_CTRL: 16_trace_and_debug.md R415
abbrev PTK_SNAP_CTRL_EPOCH : Fld := ⟨0x750, 0, 48, 0⟩
abbrev PTK_SNAP_CTRL_REQ : Fld := ⟨0x750, 48, 1, 0⟩
abbrev PTK_SNAP_CTRL_MISSED : Fld := ⟨0x750, 49, 1, 0⟩
-- STB_MGT_IMG_SRC: 17_configuration_image.md R441
abbrev MGT_IMG_SRC_ADDR : Fld := ⟨0x1500, 0, 48, 0⟩
-- STB_MGT_IMG_LEN: 17_configuration_image.md R441
abbrev MGT_IMG_LEN_LENGTH : Fld := ⟨0x1508, 0, 33, 0⟩
abbrev MGT_IMG_LEN_LOAD : Fld := ⟨0x1508, 33, 1, 0⟩
abbrev MGT_IMG_LEN_STAGE_REFUSED : Fld := ⟨0x1508, 34, 1, 0⟩
abbrev MGT_IMG_LEN_CMD_REFUSED : Fld := ⟨0x1508, 35, 1, 0⟩
-- STB_MGT_IMG_CTRL: 17_configuration_image.md R441
abbrev MGT_IMG_CTRL_VERIFY : Fld := ⟨0x1510, 0, 1, 0⟩
abbrev MGT_IMG_CTRL_CANCEL : Fld := ⟨0x1510, 1, 1, 0⟩
-- STB_MGT_IMG_COMMIT: 17_configuration_image.md R441
abbrev MGT_IMG_COMMIT_COMMIT_EPOCH : Fld := ⟨0x1518, 0, 48, 0⟩
abbrev MGT_IMG_COMMIT_ARM : Fld := ⟨0x1518, 48, 1, 0⟩
abbrev MGT_IMG_COMMIT_DEFER_MAX : Fld := ⟨0x1518, 56, 8, 0⟩
-- STB_MGT_IMG_STATUS: 17_configuration_image.md R441
abbrev MGT_IMG_STATUS_STATE : Fld := ⟨0x1520, 0, 3, 0⟩
abbrev MGT_IMG_STATUS_REASON : Fld := ⟨0x1520, 8, 8, 0⟩
abbrev MGT_IMG_STATUS_SECTION : Fld := ⟨0x1520, 16, 7, 0⟩
abbrev MGT_IMG_STATUS_ISLAND : Fld := ⟨0x1520, 24, 7, 0⟩
abbrev MGT_IMG_STATUS_COMMITTED : Fld := ⟨0x1520, 31, 1, 0⟩
abbrev MGT_IMG_STATUS_DEFERRED : Fld := ⟨0x1520, 32, 16, 0⟩
-- STB_MGT_IMG_GEN: 17_configuration_image.md R441
abbrev MGT_IMG_GEN_RUNNING_GEN : Fld := ⟨0x1528, 0, 32, 0⟩
abbrev MGT_IMG_GEN_STAGED_GEN : Fld := ⟨0x1528, 32, 32, 0⟩
-- STB_MGT_IMG_EPOCH: 17_configuration_image.md R441
abbrev MGT_IMG_EPOCH_EPOCH : Fld := ⟨0x1530, 0, 48, 0⟩
-- STB_MGT_IMG_SHADOW0: 17_configuration_image.md R441
abbrev MGT_IMG_SHADOW0_READY : Fld := ⟨0x1538, 0, 64, 0⟩
-- STB_MGT_IMG_SHADOW1: 17_configuration_image.md R441
abbrev MGT_IMG_SHADOW1_READY : Fld := ⟨0x1540, 0, 36, 0⟩
-- STB_STW_PROG_INDEX: 17_configuration_image.md R441
abbrev STW_PROG_INDEX_PROG : Fld := ⟨0x701000, 0, 4, 0⟩
-- STB_STW_PROG_DATA: 17_configuration_image.md R441
abbrev STW_PROG_DATA_SERVICE : Fld := ⟨0x701008, 0, 8, 0x4000000⟩
abbrev STW_PROG_DATA_CORES : Fld := ⟨0x701008, 8, 8, 0x4000000⟩
abbrev STW_PROG_DATA_STATE : Fld := ⟨0x701008, 16, 3, 0x4000000⟩
abbrev STW_PROG_DATA_OVERRUNS : Fld := ⟨0x701008, 32, 16, 0x4000000⟩
abbrev STW_PROG_DATA_FAULTS : Fld := ⟨0x701008, 48, 16, 0x4000000⟩
-- STB_STW_MBOX_INDEX: 17_configuration_image.md R441
abbrev STW_MBOX_INDEX_MBOX : Fld := ⟨0x701100, 0, 2, 0⟩
abbrev STW_MBOX_INDEX_RESP : Fld := ⟨0x701100, 2, 1, 0⟩
abbrev STW_MBOX_INDEX_WORD : Fld := ⟨0x701100, 3, 9, 0⟩
-- STB_STW_MBOX_DATA: 17_configuration_image.md R441
abbrev STW_MBOX_DATA_DATA : Fld := ⟨0x701108, 0, 64, 0x4000000⟩
-- STB_STW_MBOX_CTRL: 17_configuration_image.md R441
abbrev STW_MBOX_CTRL_REQ_LEN : Fld := ⟨0x701110, 0, 13, 0x4000000⟩
abbrev STW_MBOX_CTRL_DOORBELL : Fld := ⟨0x701110, 13, 1, 0x4000000⟩
abbrev STW_MBOX_CTRL_BUSY : Fld := ⟨0x701110, 14, 1, 0x4000000⟩
abbrev STW_MBOX_CTRL_DONE : Fld := ⟨0x701110, 15, 1, 0x4000000⟩
abbrev STW_MBOX_CTRL_RESP_LEN : Fld := ⟨0x701110, 16, 13, 0x4000000⟩
abbrev STW_MBOX_CTRL_NO_OWNER : Fld := ⟨0x701110, 29, 1, 0x4000000⟩
-- STB_STW_QUERY: 17_configuration_image.md R441
abbrev STW_QUERY_REQUESTS : Fld := ⟨0x701200, 0, 16, 0⟩
abbrev STW_QUERY_DENIED : Fld := ⟨0x701200, 16, 16, 0⟩
abbrev STW_QUERY_BUSY : Fld := ⟨0x701200, 32, 16, 0⟩
abbrev STW_QUERY_ERRORS : Fld := ⟨0x701200, 48, 16, 0⟩
-- STB_STW_BCAST_CFG: 18_job_start.md R454
abbrev STW_BCAST_CFG_HOP_PROC_US : Fld := ⟨0x702400, 0, 16, 0⟩
abbrev STW_BCAST_CFG_ACK_MARGIN_US : Fld := ⟨0x702400, 16, 16, 0⟩
-- STB_STW_JOB0: 18_job_start.md R454
abbrev STW_JOB0_JOB_GEN : Fld := ⟨0x702408, 0, 32, 0⟩
abbrev STW_JOB0_STAGED_GEN : Fld := ⟨0x702408, 32, 32, 0⟩
-- STB_STW_JOB1: 18_job_start.md R454
abbrev STW_JOB1_ACT_EPOCH : Fld := ⟨0x702410, 0, 48, 0⟩
abbrev STW_JOB1_PENDING : Fld := ⟨0x702410, 48, 1, 0⟩
abbrev STW_JOB1_CANCELLED : Fld := ⟨0x702410, 49, 1, 0⟩
abbrev STW_JOB1_LATE_APPLY : Fld := ⟨0x702410, 50, 1, 0⟩
-- STB_STW_BCAST_INDEX: 18_job_start.md R454
abbrev STW_BCAST_INDEX_KIND : Fld := ⟨0x702418, 0, 3, 0⟩
-- STB_STW_BCAST_DATA: 18_job_start.md R454
abbrev STW_BCAST_DATA_BGEN : Fld := ⟨0x702420, 0, 32, 0x4000000⟩
abbrev STW_BCAST_DATA_PARTS_HELD : Fld := ⟨0x702420, 32, 16, 0x4000000⟩
abbrev STW_BCAST_DATA_PARTS : Fld := ⟨0x702420, 48, 16, 0x4000000⟩
-- STB_STW_BCAST_ACK: 18_job_start.md R454
abbrev STW_BCAST_ACK_COVERED : Fld := ⟨0x702428, 0, 32, 0x4000000⟩
abbrev STW_BCAST_ACK_HOLE_DEVICES : Fld := ⟨0x702428, 32, 32, 0x4000000⟩
-- STB_STW_BCAST_CNT: 18_job_start.md R454
abbrev STW_BCAST_CNT_STALE : Fld := ⟨0x702430, 0, 16, 0x4000000⟩
abbrev STW_BCAST_CNT_DUP : Fld := ⟨0x702430, 16, 16, 0x4000000⟩
abbrev STW_BCAST_CNT_REQUESTS : Fld := ⟨0x702430, 32, 16, 0x4000000⟩
abbrev STW_BCAST_CNT_HOLES : Fld := ⟨0x702430, 48, 16, 0x4000000⟩
-- _CTRL: 19_faults.md R474
abbrev CTRL_FENCE : Fld := ⟨0x8, 0, 1, 0x80000⟩
abbrev CTRL_UNFENCE : Fld := ⟨0x8, 1, 1, 0x80000⟩
abbrev CTRL_ISLAND_RESET : Fld := ⟨0x8, 2, 1, 0x80000⟩
abbrev CTRL_HOLD : Fld := ⟨0x8, 3, 1, 0x80000⟩
-- _STATUS: 19_faults.md R474
abbrev STATUS_STATE : Fld := ⟨0x10, 0, 2, 0x80000⟩
abbrev STATUS_DISABLED : Fld := ⟨0x10, 2, 1, 0x80000⟩
abbrev STATUS_LATCHED : Fld := ⟨0x10, 3, 1, 0x80000⟩
abbrev STATUS_FENCED : Fld := ⟨0x10, 4, 1, 0x80000⟩
abbrev STATUS_QUIET_LEFT_MS : Fld := ⟨0x10, 8, 12, 0x80000⟩
-- _ERR_FIRST: 19_faults.md R474
abbrev ERR_FIRST_DETECTOR : Fld := ⟨0x18, 0, 16, 0x80000⟩
abbrev ERR_FIRST_VALID : Fld := ⟨0x18, 16, 1, 0x80000⟩
abbrev ERR_FIRST_INJECTED : Fld := ⟨0x18, 17, 1, 0x80000⟩
abbrev ERR_FIRST_WINTER : Fld := ⟨0x18, 18, 1, 0x80000⟩
abbrev ERR_FIRST_LIMIT : Fld := ⟨0x18, 19, 1, 0x80000⟩
abbrev ERR_FIRST_CLASS : Fld := ⟨0x18, 20, 2, 0x80000⟩
abbrev ERR_FIRST_LOCATION : Fld := ⟨0x18, 24, 40, 0x80000⟩
-- _ERR_MERGED: 19_faults.md R474
abbrev ERR_MERGED_COUNT : Fld := ⟨0x20, 0, 16, 0x80000⟩
abbrev ERR_MERGED_LAST_DETECTOR : Fld := ⟨0x20, 16, 16, 0x80000⟩
abbrev ERR_MERGED_FIRST_EPOCH : Fld := ⟨0x20, 32, 32, 0x80000⟩
-- _INJECT: 19_faults.md R474
abbrev INJECT_KIND : Fld := ⟨0x38, 0, 4, 0x80000⟩
abbrev INJECT_NBITS : Fld := ⟨0x38, 4, 2, 0x80000⟩
abbrev INJECT_ARM : Fld := ⟨0x38, 6, 1, 0x80000⟩
abbrev INJECT_FIRED : Fld := ⟨0x38, 7, 1, 0x80000⟩
-- _QUIET: 19_faults.md R474
abbrev QUIET_PERIOD_MS : Fld := ⟨0x40, 0, 12, 0x80000⟩
abbrev QUIET_SPRING_LIMIT : Fld := ⟨0x40, 16, 8, 0x80000⟩
abbrev QUIET_CE_LIMIT : Fld := ⟨0x40, 32, 16, 0x80000⟩
abbrev QUIET_UE_LIMIT : Fld := ⟨0x40, 48, 8, 0x80000⟩
-- _SPRING: 19_faults.md R474
abbrev SPRING_COUNT : Fld := ⟨0x48, 0, 16, 0x80000⟩
abbrev SPRING_HOUR_COUNT : Fld := ⟨0x48, 16, 8, 0x80000⟩
abbrev SPRING_LAST_EPOCH : Fld := ⟨0x48, 24, 40, 0x80000⟩
-- STB_MGT_BOOT: 20_reset_otp_identity.md R491
abbrev MGT_BOOT_STAGE : Fld := ⟨0x1600, 0, 3, 0⟩
abbrev MGT_BOOT_FAIL_REASON : Fld := ⟨0x1600, 4, 4, 0⟩
abbrev MGT_BOOT_RESET_CAUSE : Fld := ⟨0x1600, 8, 2, 0⟩
abbrev MGT_BOOT_WARM_COUNT : Fld := ⟨0x1600, 16, 16, 0⟩
-- STB_MGT_BIST0: 20_reset_otp_identity.md R491
abbrev MGT_BIST0_FAILED : Fld := ⟨0x1608, 0, 64, 0⟩
-- STB_MGT_BIST1: 20_reset_otp_identity.md R491
abbrev MGT_BIST1_FAILED : Fld := ⟨0x1610, 0, 36, 0⟩
-- STB_MGT_OTP: 20_reset_otp_identity.md R491
abbrev MGT_OTP_GEN_IN_USE : Fld := ⟨0x1618, 0, 2, 0⟩
abbrev MGT_OTP_SPARES_LEFT : Fld := ⟨0x1618, 2, 2, 0⟩
abbrev MGT_OTP_GEN_STATUS : Fld := ⟨0x1618, 4, 8, 0⟩
abbrev MGT_OTP_COPY_BAD : Fld := ⟨0x1618, 12, 4, 0⟩
abbrev MGT_OTP_PROG_STATE : Fld := ⟨0x1618, 16, 2, 0⟩
abbrev MGT_OTP_PROG_REASON : Fld := ⟨0x1618, 18, 4, 0⟩
-- STB_MGT_OTP_MASK: 20_reset_otp_identity.md R491
abbrev MGT_OTP_MASK_ENABLE : Fld := ⟨0x1620, 0, 64, 0⟩
-- STB_MGT_OTP_MASK1: 20_reset_otp_identity.md R491
abbrev MGT_OTP_MASK1_ENABLE : Fld := ⟨0x1628, 0, 20, 0⟩
-- STB_MGT_EUI64: 20_reset_otp_identity.md R491
abbrev MGT_EUI64_EUI64 : Fld := ⟨0x1630, 0, 64, 0⟩
-- STB_MGT_ID_INDEX: 20_reset_otp_identity.md R491
abbrev MGT_ID_INDEX_BUF : Fld := ⟨0x1638, 0, 2, 0⟩
abbrev MGT_ID_INDEX_WORD : Fld := ⟨0x1638, 2, 9, 0⟩
-- STB_MGT_ID_DATA: 20_reset_otp_identity.md R491
abbrev MGT_ID_DATA_DATA : Fld := ⟨0x1640, 0, 64, 0x4000000⟩
-- STB_MGT_ID_CTRL: 20_reset_otp_identity.md R491
abbrev MGT_ID_CTRL_CERT_LEN : Fld := ⟨0x1648, 0, 13, 0⟩
abbrev MGT_ID_CTRL_CERT_CHECK : Fld := ⟨0x1648, 13, 1, 0⟩
abbrev MGT_ID_CTRL_CERT_OK : Fld := ⟨0x1648, 14, 1, 0⟩
abbrev MGT_ID_CTRL_CERT_BAD : Fld := ⟨0x1648, 15, 1, 0⟩
abbrev MGT_ID_CTRL_KEYGEN : Fld := ⟨0x1648, 16, 1, 0⟩
abbrev MGT_ID_CTRL_PENDING_KEY : Fld := ⟨0x1648, 17, 1, 0⟩
abbrev MGT_ID_CTRL_PROGRAM : Fld := ⟨0x1648, 18, 1, 0⟩
abbrev MGT_ID_CTRL_KEY_ERASED : Fld := ⟨0x1648, 19, 1, 0⟩
-- PTK_CTRL: 20_reset_otp_identity.md R491
abbrev PTK_CTRL_ARM : Fld := ⟨0x80, 0, 1, 0⟩
abbrev PTK_CTRL_ARMED : Fld := ⟨0x80, 1, 1, 0⟩
-- PTK_ID_INDEX: 20_reset_otp_identity.md R491
abbrev PTK_ID_INDEX_BUF : Fld := ⟨0x7c8, 0, 2, 0⟩
abbrev PTK_ID_INDEX_WORD : Fld := ⟨0x7c8, 2, 4, 0⟩
-- PTK_ID_DATA: 20_reset_otp_identity.md R491
abbrev PTK_ID_DATA_DATA : Fld := ⟨0x7d0, 0, 64, 0x4000000⟩
-- PTK_ID_CTRL: 20_reset_otp_identity.md R491
abbrev PTK_ID_CTRL_SIGN : Fld := ⟨0x7d8, 0, 1, 0⟩
abbrev PTK_ID_CTRL_DONE : Fld := ⟨0x7d8, 1, 1, 0⟩
abbrev PTK_ID_CTRL_FAIL : Fld := ⟨0x7d8, 2, 1, 0⟩
-- _ID: 21_register_map.md R494
abbrev ID_ISLAND : Fld := ⟨0x0, 0, 7, 0x80000⟩
abbrev ID_CODE : Fld := ⟨0x0, 8, 24, 0x80000⟩
abbrev ID_REVISION : Fld := ⟨0x0, 32, 16, 0x80000⟩
abbrev ID_CLOCK_MHZ : Fld := ⟨0x0, 48, 12, 0x80000⟩
-- _INT_EN: 21_register_map.md R495
abbrev INT_EN_ERR : Fld := ⟨0x28, 0, 1, 0x80000⟩
abbrev INT_EN_WINTER : Fld := ⟨0x28, 1, 1, 0x80000⟩
abbrev INT_EN_PMC : Fld := ⟨0x28, 2, 1, 0x80000⟩
abbrev INT_EN_EVENT : Fld := ⟨0x28, 8, 8, 0x80000⟩
-- _INT_PEND: 21_register_map.md R495
abbrev INT_PEND_ERR : Fld := ⟨0x30, 0, 1, 0x80000⟩
abbrev INT_PEND_WINTER : Fld := ⟨0x30, 1, 1, 0x80000⟩
abbrev INT_PEND_PMC : Fld := ⟨0x30, 2, 1, 0x80000⟩
abbrev INT_PEND_EVENT : Fld := ⟨0x30, 8, 8, 0x80000⟩

end Sys2Proof.Machine.F
end

