-- ==== Sys2Proof/Machine/Table.lean ====
section
/-! DEFINITION. Sparse tables in canonical form: keys strictly rising, and no entry equal to what an unlisted key reads
as, so that equal tables are equal data. The default may depend on the key. -/

namespace Sys2Proof.Machine

variable {β : Type}

/-- What key `k` reads as. -/
def Tab.get (d : Nat → β) : Tab β → Nat → β
  | [], k => d k
  | (i, v) :: t, k => if i = k then v else Tab.get d t k

/-- Key `k` no longer listed. -/
def Tab.drop (t : Tab β) (k : Nat) : Tab β := t.filter (fun e => decide (e.1 ≠ k))

/-- `k` set to `v`; setting the default removes the entry. -/
def Tab.put [DecidableEq β] (d : Nat → β) : Tab β → Nat → β → Tab β
  | [], k, v => if v = d k then [] else [(k, v)]
  | (i, w) :: t, k, v =>
    if k < i then (if v = d k then (i, w) :: Tab.drop t k else (k, v) :: (i, w) :: t)
    else if k = i then (if v = d k then Tab.drop t k else (k, v) :: t)
    else (i, w) :: Tab.put d t k v

/-- Key `k` brought through `f`. -/
def Tab.mod [DecidableEq β] (d : Nat → β) (t : Tab β) (k : Nat) (f : β → β) : Tab β := Tab.put d t k (f (Tab.get d t k))

/-- Keys strictly rising from above `lo`, and no entry at its default. -/
def Tab.wfFrom [DecidableEq β] (d : Nat → β) : Nat → Tab β → Bool
  | _, [] => true
  | lo, (i, v) :: t => decide (lo ≤ i) && decide (v ≠ d i) && Tab.wfFrom d (i + 1) t

/-- The canonical form. -/
def Tab.wf [DecidableEq β] (d : Nat → β) (t : Tab β) : Bool := Tab.wfFrom d 0 t

/-- The table with every entry removed whose key fails `p`. -/
def Tab.keep (p : Nat → Bool) (t : Tab β) : Tab β := t.filter (fun e => p e.1)

/-- Every listed entry brought through `f`. -/
def Tab.each [DecidableEq β] (d : Nat → β) (t : Tab β) (f : β → β) : Tab β :=
  (t.map (fun e => (e.1, f e.2))).filter (fun e => decide (e.2 ≠ d e.1))

/-- The default table of lists, options and numbers. -/
abbrev nil {α : Type} : Nat → List α := fun _ => []
abbrev zero : Nat → Nat := fun _ => 0
abbrev zeroI : Nat → Int := fun _ => 0
abbrev none' {α : Type} : Nat → Option α := fun _ => none
abbrev no : Nat → Bool := fun _ => false

end Sys2Proof.Machine
end

