-- ==== Sys2Proof/Machine/Resets.lean ====
section
/-! DEFINITION. The Reset columns of every register table (R13): each register whose reset value is not 0, with its
copies, and the registers whose value is fixed in silicon (R494). -/

namespace Sys2Proof.Machine

/-- A register's reset value: first address, distance and number of its copies, value. -/
structure ResetRow where
  base : Nat
  step : Nat
  count : Nat
  value : Nat
deriving DecidableEq, Repr

/-- Block registers with a reset value other than 0. -/
def blockResets : List ResetRow := [
  ⟨0x1300, 0x0, 1, 0xe431⟩,
  ⟨0x1200, 0x0, 1, 0x3d⟩,
  ⟨0x1208, 0x0, 1, 0x3d3d0000⟩,
  ⟨0x81020, 0x0, 1, 0xa48411003e801f4⟩,
  ⟨0x81100, 0x20, 8, 0x8⟩,
  ⟨0x81418, 0x4000000, 1024, 0x28000000000000⟩,
  ⟨0x181000, 0x0, 1, 0x6432232888b5⟩,
  ⟨0x201000, 0x0, 1, 0x4064194b10⟩,
  ⟨0x281000, 0x0, 1, 0x4100064044c⟩,
  ⟨0x281200, 0x0, 1, 0xc000000000000⟩,
  ⟨0x281208, 0x0, 1, 0x40⟩,
  ⟨0x301000, 0x0, 1, 0x810546⟩,
  ⟨0x702000, 0x0, 1, 0x6406081303⟩,
  ⟨0x702108, 0x4000000, 4, 0x10000000⟩,
  ⟨0x381010, 0x0, 1, 0x10010⟩,
  ⟨0x381018, 0x0, 1, 0x36ee800403⟩,
  ⟨0x381218, 0x4000000, 4, 0x10100100004000c6⟩,
  ⟨0x381300, 0x0, 1, 0x2⟩,
  ⟨0x381308, 0x0, 1, 0x36ee80⟩,
  ⟨0x381310, 0x0, 1, 0x1004040403⟩,
  ⟨0x381318, 0x0, 1, 0x2710⟩,
  ⟨0x501000, 0x0, 1, 0x3⟩,
  ⟨0x702200, 0x0, 1, 0x927c000040100⟩,
  ⟨0x781000, 0x0, 1, 0x200015180⟩,
  ⟨0x401000, 0x0, 1, 0x8⟩,
  ⟨0x481000, 0x0, 1, 0x4⟩,
  ⟨0x601000, 0x0, 1, 0x3414⟩,
  ⟨0x601108, 0x4000000, 16, 0x10000000000⟩,
  ⟨0x601110, 0x4000000, 128, 0x4000000000⟩,
  ⟨0x601300, 0x0, 1, 0x1903e8⟩,
  ⟨0x681000, 0x0, 1, 0x4004000000330⟩,
  ⟨0x681010, 0x0, 1, 0x200⟩,
  ⟨0x681030, 0x0, 1, 0x10000000000000⟩,
  ⟨0x1518, 0x0, 1, 0x1000000000000000⟩,
  ⟨0x1520, 0x0, 1, 0x7f0000⟩,
  ⟨0x702400, 0x0, 1, 0xbb800c8⟩,
  ⟨0x702418, 0x0, 1, 0x2⟩,
  ⟨0x38, 0x80000, 100, 0x10⟩,
  ⟨0x40, 0x80000, 100, 0x8040000100010⟩]

/-- Potik registers with a reset value other than 0. -/
def potikResets : List ResetRow := [
  ⟨0x428, 0x0, 1, 0xa48411003e801f4⟩,
  ⟨0x508, 0x4000000, 256, 0x1⟩,
  ⟨0x1058, 0x100, 128, 0xff03c000⟩,
  ⟨0x1060, 0x100, 128, 0xff03c000⟩,
  ⟨0x1068, 0x100, 128, 0xff03c000⟩,
  ⟨0x1070, 0x100, 128, 0xff03c000⟩,
  ⟨0x1078, 0x100, 128, 0xff03c000⟩,
  ⟨0x1080, 0x100, 128, 0xff03c000⟩,
  ⟨0x1088, 0x100, 128, 0xff03c000⟩,
  ⟨0x1090, 0x100, 128, 0xff03c000⟩,
  ⟨0x608, 0x0, 1, 0xffffffff⟩,
  ⟨0x610, 0x0, 1, 0x7fff7fff7fff7fff⟩,
  ⟨0x618, 0x0, 1, 0x7fff7fff7fff⟩,
  ⟨0x620, 0x0, 1, 0xffffffffffffff⟩,
  ⟨0x648, 0x4000000, 16, 0x2f004⟩,
  ⟨0x680, 0x0, 1, 0x3e80020⟩,
  ⟨0x740, 0x0, 1, 0x104000⟩,
  ⟨0x780, 0x0, 1, 0x1408003e8⟩,
  ⟨0x7a0, 0x0, 1, 0x10232888b5⟩,
  ⟨0x7b8, 0x0, 1, 0x42⟩]

/-- Row `r` covers address `a`. -/
def ResetRow.covers (r : ResetRow) (a : Nat) : Bool :=
  decide (r.base ≤ a) && (if r.step = 0 then decide (a = r.base)
    else decide ((a - r.base) % r.step = 0) && decide ((a - r.base) / r.step < r.count))

/-- The value of the first row that covers `a`, 0 without one. -/
def resetIn : List ResetRow → Nat → Nat
  | [], _ => 0
  | r :: rs, a => if r.covers a then r.value else resetIn rs a

/-- Nominal clock of an island in MHz (R51). -/
def clockMhz (n : Nat) : Nat :=
  match n with
  | 0 => 500
  | 1 => 1250
  | 6 => 1250
  | 8 => 2000
  | 10 => 1500
  | 14 => 2000
  | _ => if n < 16 then 1200 else 1600

/-- The code of an island as three ASCII characters, the first in the low byte (R51, R494). -/
def islandCode (n : Nat) : Nat :=
  match n with
  | 0 => 0x54474D
  | 1 => 0x4D4954
  | 2 => 0x4B4E4C
  | 3 => 0x474E49
  | 4 => 0x4E4C41
  | 5 => 0x414546
  | 6 => 0x455254
  | 7 => 0x445256
  | 8 => 0x4F5453
  | 9 => 0x444F43
  | 10 => 0x474944
  | 11 => 0x425241
  | 12 => 0x505845
  | 13 => 0x435254
  | 14 => 0x575453
  | 15 => 0x545354
  | _ => 0x54 + 256 * (0x30 + (n - 16) / 10) + 65536 * (0x30 + (n - 16) % 10)

/-- _ID of island `n` (R494). -/
def idValue (n : Nat) : Nat := n + islandCode n * 2 ^ 8 + Config.revision * 2 ^ 32 + clockMhz n * 2 ^ 48

/-- The reset value of the block register at `a`. -/
def blockReset (a : Nat) : Word :=
  if a % 0x80000 = 0 ∧ a < 0x3200000 then BitVec.ofNat 64 (idValue (a / 0x80000))
  else if a = 0x40 ∨ a = 0x48 then 0
  else if a % 0x4000000 = 0x201108 then
    (match a / 0x4000000 with | 0 => 0x00C8 | 1 => 0x01F4 | 2 => 0x0BB8 | _ => 0)
  else if a % 0x4000000 = 0x381108 then
    (match a / 0x4000000 with | 0 => 0x05AA | 1 => 0x0F6E | 2 => 0x2EAE | _ => 0)
  else if a % 0x4000000 = 0x601108 ∧ a / 0x4000000 < 12 then
    (if a / 0x4000000 < 4 then 0x1000000C350 else 0x10000002710)
  else BitVec.ofNat 64 (resetIn blockResets a)

/-- The reset value of the Potik register at window offset `a`. -/
def potikReset (a : Nat) : Word := BitVec.ofNat 64 (resetIn potikResets a)

end Sys2Proof.Machine
end

