-- ==== Sys2Proof/Machine/Bank.lean ====
section
/-! DEFINITION. The register bank: reading and writing a register and a field of it by name. -/

namespace Sys2Proof.Machine

/-- The mask of `w` bits from bit `lo`. -/
def fieldMask (lo w : Nat) : Word := BitVec.ofNat 64 ((2 ^ w - 1) * 2 ^ lo)

/-- The `w` bits of `v` from bit `lo`, as a number. -/
def getBits (v : Word) (lo w : Nat) : Nat := v.toNat / 2 ^ lo % 2 ^ w

/-- `v` with the `w` bits from `lo` replaced by `x`. -/
def setBits (v : Word) (lo w x : Nat) : Word :=
  (v &&& ~~~(fieldMask lo w)) ||| BitVec.ofNat 64 (x % 2 ^ w * 2 ^ lo)

/-- Copy `i` of a register field: island, array element or entry of an indirect window. -/
def Fld.at (f : Fld) (i : Nat) : Fld := { f with addr := f.addr + i * f.step }

/-- A field of the common block of island `n` in an array register of every island (_PMCn). -/
def Fld.isl (f : Fld) (n : Nat) : Fld := { f with addr := f.addr + n * 0x80000 }

namespace State

/-- The block register at address `a`. -/
def reg (s : State) (a : Nat) : Word := s.regs.get blockReset a

/-- `s` with the block register at `a` set. -/
def setReg (s : State) (a : Nat) (v : Word) : State := { s with regs := s.regs.put blockReset a v }

/-- A field of a block register, as a number. -/
def fld (s : State) (f : Fld) : Nat := getBits (s.reg f.addr) f.lo f.w

/-- A field of a block register in two's complement. -/
def sfld (s : State) (f : Fld) : Int := asSigned f.w (s.fld f)

/-- A one-bit field as a Bool. -/
def flag (s : State) (f : Fld) : Bool := s.fld f != 0

/-- `s` with a field set, the register's other bits kept. -/
def setFld (s : State) (f : Fld) (v : Nat) : State := s.setReg f.addr (setBits (s.reg f.addr) f.lo f.w v)

/-- A saturating count raised by `n`. -/
def addFld (s : State) (f : Fld) (n : Nat) : State := s.setFld f (min (2 ^ f.w - 1) (s.fld f + n))

/-- A saturating count raised by 1. -/
def incFld (s : State) (f : Fld) : State := s.addFld f 1

/-- A field set only when `c` holds. -/
def setIf (s : State) (c : Bool) (f : Fld) (v : Nat) : State := if c then s.setFld f v else s

/-- `e` sent. -/
def emit (s : State) (e : Emit) : State := { s with out := s.out ++ [e] }

/-- The state in which a command begins: nothing sent yet, and the waiting commands out of its sight. -/
def start (s : State) : State := { s with out := [], pending := [] }

/-- A command's answer: its effect `f` on everything but the queue of waiting commands, which stays as it was. -/
def run (s : State) (f : State → State) : Host.Outcome State Fault Refusal := .next { f s.start with pending := s.pending }

/-- A fresh free value (log entry 1) and the state that has drawn it. -/
def draw (s : State) : Word × State := (Config.freeValue s.fresh, { s with fresh := s.fresh + 1 })

end State

end Sys2Proof.Machine
end

