-- ==== Sys2Proof/Machine/Operands.lean ====
section
/-! DEFINITION. The operand forms: check codes, fleet addresses, the record header of R150, the frame shim of R147 and
the bodies that several islands build (Event, Loss marker). -/

namespace Sys2Proof.Machine

/-- One bit of a reflected CRC-32C (R150): polynomial 0x1EDC_6F41, reflected. -/
def crc32cBit (c : BitVec 32) : BitVec 32 := if c.getLsbD 0 then (c >>> 1) ^^^ 0x82F63B78 else c >>> 1

/-- One byte of a CRC-32C. -/
def crc32cByte (c : BitVec 32) (b : Byte) : BitVec 32 :=
  (List.range 8).foldl (fun c _ => crc32cBit c) (c ^^^ b.zeroExtend 32)

/-- CRC-32C of R150. -/
def crc32c (bs : Bytes) : BitVec 32 := (bs.foldl crc32cByte 0xFFFFFFFF) ^^^ 0xFFFFFFFF

/-- One bit of the CRC-64 of R129, most significant bit first. -/
def crc64Bit (c : BitVec 64) : BitVec 64 := if c.getLsbD 63 then (c <<< 1) ^^^ 0x42F0E1EBA9EA3693 else c <<< 1

/-- One byte of a CRC-64. -/
def crc64Byte (c : BitVec 64) (b : Byte) : BitVec 64 :=
  (List.range 8).foldl (fun c _ => crc64Bit c) (c ^^^ (b.zeroExtend 64 <<< 56))

/-- CRC-64 of R129, continued from `c`. -/
def crc64From (c : BitVec 64) (bs : Bytes) : BitVec 64 := bs.foldl crc64Byte c

/-- CRC-64 of R129. -/
def crc64 (bs : Bytes) : BitVec 64 := crc64From 0 bs

/-! ### The sampling LFSR (R132) -/

/-- One step of the sampling LFSR (R132). -/
def lfsrStep (s : BitVec 32) : BitVec 32 := if s.getLsbD 0 then (s >>> 1) ^^^ 0x80200003 else s >>> 1

/-- A seed as it is stored (R132). -/
def lfsrSeed (v : Nat) : BitVec 32 := if v % 2 ^ 32 = 0 then 1 else BitVec.ofNat 32 v

/-! ### Fleet addresses (R17 to R19) -/

/-- The fleet address of a unit of die slot `slot` (bits [17:11]). -/
def fleetAddr (group node slot unit : Nat) : Nat := group * 2 ^ 24 + node * 2 ^ 18 + slot * 2 ^ 11 + unit

/-- The die slot of an address: package and die fields together. -/
def slotOf (a : Nat) : Nat := a / 2 ^ 11 % 128

/-- The unit field of an address. -/
def unitOf (a : Nat) : Nat := a % 2 ^ 11

/-- g.n.15.7.2047: the node as a whole (R19). -/
def nodeAddr (g n : Nat) : Nat := fleetAddr g n 127 2047

/-- g.0.15.7.2046: the group as a whole (R19). -/
def groupAddr (g : Nat) : Nat := fleetAddr g 0 127 2046

/-- 0.0.15.7.2045: the system as a whole (R19). -/
def systemAddr : Nat := fleetAddr 0 0 127 2045

/-- The address names a level (R19). -/
def isLevelAddr (a : Nat) : Bool :=
  slotOf a == 127 && (unitOf a == 2047 || (unitOf a == 2046 && a / 2 ^ 18 % 64 == 0) || (unitOf a == 2045 && a / 2 ^ 18 == 0))

/-- The address is reserved: in slot 127 and naming no level (R19). -/
def isReservedAddr (a : Nat) : Bool := slotOf a == 127 && !isLevelAddr a

/-- The sender of a record: its SRC with unit 0x7FF, a level address itself (R154). -/
def senderOf (src : Nat) : Nat := if isLevelAddr src then src else src / 2 ^ 11 * 2 ^ 11 + 2047

/-- The node and the group that an address belongs to, as level addresses. -/
def nodeOf (a : Nat) : Nat := nodeAddr (a / 2 ^ 24) (a / 2 ^ 18 % 64)
def groupOf (a : Nat) : Nat := groupAddr (a / 2 ^ 24)

/-- A job's exclude and include entries exclude a die (R442): the last entry that names it, its node or its group decides. -/
def dieExcluded (delta : List (Nat × Bool)) (die : Nat) : Bool :=
  delta.foldl (fun x e => if e.1 = die ∨ e.1 = nodeOf die ∨ e.1 = groupOf die then e.2 else x) false

/-- Dies that a job includes of a tray with `n` dies: its node or group decides for all, and dies named after that for themselves. -/
def includedDies (delta : List (Nat × Bool)) (node n : Nat) : Nat :=
  let (base, odd) := delta.foldl (fun (acc : Bool × List Nat) e =>
    if e.1 = node ∨ e.1 = groupOf node then (e.2, [])
    else if isLevelAddr e.1 ∨ nodeOf e.1 ≠ node then acc
    else if e.2 = acc.1 then (acc.1, acc.2.filter (fun a => a != e.1))
    else if acc.2.contains e.1 then acc else (acc.1, acc.2 ++ [e.1])) (false, [])
  if base then odd.length else n - odd.length

/-! ### The record header (R150) -/

/-- LENGTH × 8: header and body. -/
def Rec.size (r : Rec) : Nat := 32 + r.body.length

/-- Header bytes 0 to 27 (R150). -/
def Rec.head (r : Rec) : Bytes :=
  le 1 (r.cls % 16 + 0x10) ++ le 1 r.type ++ le 2 r.flags ++ le 2 (r.size / 8) ++ le 1 (r.comp % 4 + r.tgen % 4 * 4) ++ le 1 0 ++
  le 4 r.src ++ le 4 r.seq ++ le 6 r.epoch ++ le 2 r.quality ++ le 4 r.offset

/-- The record on the wire, in queues and in the store: header with HCRC, then the body. -/
def Rec.bytes (r : Rec) : Bytes := r.head ++ le 4 (crc32c r.head).toNat ++ r.body

/-- The record that header bytes and a body spell; the checks of R165 are `headerFailure`. -/
def Rec.parse (b : Bytes) : Rec :=
  { cls := bytesAt b 0 1 % 16, type := bytesAt b 1 1, flags := bytesAt b 2 2, comp := bytesAt b 6 1 % 4, tgen := bytesAt b 6 1 / 4 % 4,
    src := bytesAt b 8 4, seq := bytesAt b 12 4, epoch := bytesAt b 16 6, quality := bytesAt b 22 2, offset := bytesAt b 24 4,
    body := b.drop 32 }

/-- `b` padded with zeros to a multiple of 8 bytes (R150). -/
def pad8 (b : Bytes) : Bytes := b ++ zeros ((8 - b.length % 8) % 8)

/-- Flag bits of R152. -/
abbrev flagLoss : Nat := 0
abbrev flagLate : Nat := 1
abbrev flagCoarse : Nat := 2
abbrev flagHalted : Nat := 3
abbrev flagStretch : Nat := 4
abbrev flagPoison : Nat := 5
abbrev flagWrap : Nat := 6
abbrev flagSat : Nat := 7
abbrev flagNanSubst : Nat := 8
abbrev flagSigned : Nat := 9
abbrev flagUnchecked : Nat := 10

/-- A flag of a record (R152). -/
def Rec.flag (r : Rec) (i : Nat) : Bool := bit r.flags i

/-- A flag of a record set. -/
def Rec.withFlag (r : Rec) (i : Nat) : Rec := if r.flag i then r else { r with flags := r.flags + 2 ^ i }

/-- A flag set when `c` holds. -/
def Rec.withFlagIf (r : Rec) (c : Bool) (i : Nat) : Rec := if c then r.withFlag i else r

/-- The export class a Potik record takes by its type, and its Potik level (R143, R151, R155). -/
def potikLevel (type : Nat) : Nat :=
  match type with
  | 0x01 => 1 | 0x02 => 1 | 0x03 => 1
  | 0x04 => 4 | 0x05 => 3 | 0x06 => 5 | 0x07 => 2 | 0x08 => 4 | 0x09 => 2
  | _ => 0

/-- Least body bytes of a type (R155). -/
def minBody (type : Nat) : Nat :=
  match type with
  | 0x01 => 16 | 0x02 => 16 | 0x03 => 8 | 0x04 => 8 | 0x05 => 8 | 0x06 => 16 | 0x07 => 32 | 0x08 => 32 | 0x09 => 32 | 0x0A => 24
  | 0x0B => 80 | 0x0C => 8 | 0x0D => 8 | 0x20 => 32 | 0x21 => 32 | 0x22 => 32 | 0x23 => 16 | 0x24 => 32 | 0x25 => 16
  | _ => 0

/-- The type is not a reserved code (R155). -/
def knownType (type : Nat) : Bool := (1 ≤ type && type ≤ 0x0D) || (0x20 ≤ type && type ≤ 0x25)

/-- CLASS is allowed for TYPE (R151, R155; check 6 of R165). -/
def classAllowed (type cls : Nat) : Bool :=
  match type with
  | 0x06 => cls == 5 || cls == 11
  | 0x0A => cls == 0 || cls == 10 || cls == 12
  | 0x0B => cls == 0 || cls == 10 || cls == 12
  | 0x0C => cls == 8
  | 0x0D => cls == 0
  | 0x20 => cls == 9
  | 0x21 => cls == 8
  | 0x22 => cls == 8
  | 0x23 => cls == 9
  | 0x24 => cls == 8
  | 0x25 => cls == 8
  | _ => cls == potikLevel type || cls == 10 || cls == 12

/-- Reasons 1 to 6 of R165, which no configuration enters: HCRC, VERSION, TYPE, LENGTH, reserved bits and CLASS; 0 when a record passes them. -/
def recReason (b : Bytes) (crcBad : Bool) : Nat :=
  let r := Rec.parse b
  if b.length < 32 || (crc32c (b.take 28)).toNat != bytesAt b 28 4 || crcBad then 1
  else if bytesAt b 0 1 / 16 != 1 then 2
  else if !knownType r.type then 3
  else if bytesAt b 4 2 * 8 != b.length || (r.comp != 1 && decide (r.body.length < minBody r.type)) then 4
  else if bytesAt b 2 2 / 2048 != 0 || bytesAt b 6 1 / 16 != 0 || bytesAt b 7 1 != 0 || r.comp == 3 then 5
  else if !classAllowed r.type r.cls then 6
  else 0

/-- The Event body of R161. -/
def eventBody (code subject count : Nat) (param : Bytes) : Bytes :=
  le 2 code ++ zeros 2 ++ le 4 subject ++ le 4 count ++ (param ++ zeros 12).take 12

/-- A tally of losses as the Loss marker body of R162. -/
def lossBody (kind : Nat) (l : Loss) (for_ : Nat) : Bytes :=
  le 1 kind ++ zeros 3 ++ le 4 l.total ++ le 6 l.firstEpoch ++ zeros 2 ++ le 6 l.lastEpoch ++ zeros 2 ++ le 4 l.firstOffset ++
  le 4 l.lastOffset ++ ((List.range 11).map (fun i => le 4 (if kind = 1 then 0 else l.byType.getD i 0))).flatten ++ le 4 for_

/-- `l` with one more record of `type` lost, stamped `epoch` and `offset`. -/
def Loss.add (l : Loss) (type epoch offset : Nat) : Loss :=
  { total := l.total + 1
    firstEpoch := if l.total = 0 then epoch else l.firstEpoch
    firstOffset := if l.total = 0 then offset else l.firstOffset
    lastEpoch := epoch, lastOffset := offset
    byType := if 1 ≤ type ∧ type ≤ 11 then
        let b := (List.range 11).map (fun i => l.byType.getD i 0)
        b.set (type - 1) (b.getD (type - 1) 0 + 1)
      else l.byType }

/-- A Broadcast sub-header and payload (R444). -/
def broadcastBody (kind resend bgen actEpoch deadline part parts : Nat) (payload : Bytes) : Bytes :=
  le 1 kind ++ le 1 resend ++ zeros 2 ++ le 4 bgen ++ le 6 actEpoch ++ zeros 2 ++ le 6 deadline ++ le 2 part ++ le 2 parts ++ zeros 2 ++
  le 4 (pad8 payload).length ++ pad8 payload

/-- An Acknowledgement body (R445). -/
def ackBody (kind status flags bgen covered holes : Nat) : Bytes :=
  le 1 kind ++ le 1 status ++ le 1 flags ++ zeros 1 ++ le 4 bgen ++ le 4 covered ++ le 4 holes

/-! ### Frames (R147, R148) -/

/-- The 16-byte shim of R147. -/
def shim (first last : Bool) (frag src seq : Nat) : Bytes :=
  let h := le 1 1 ++ le 1 (b2n first + 2 * b2n last) ++ le 2 frag ++ le 4 src ++ le 4 seq
  h ++ le 4 (crc32c h).toNat

/-- The payload of a packed frame of records (R148). -/
def packedPayload (rs : List Rec) : Bytes := shim true true 0 0 0 ++ (rs.map Rec.bytes).flatten

/-- `bs` cut into pieces of `n` bytes, the last maybe shorter; `fuel` bounds the pieces. -/
def chunks (n : Nat) : Nat → Bytes → List Bytes
  | 0, _ => []
  | fuel + 1, bs => if bs.length ≤ n then [bs] else bs.take n :: chunks n fuel (bs.drop n)

/-- The payloads of the fragments of a record that exceeds FRAME_MAX: every one but the last filled (R148). -/
def fragPayloads (frameMax : Nat) (r : Rec) : List Bytes :=
  let cs := chunks (frameMax - 16) (r.bytes.length + 1) r.bytes
  (List.range cs.length).map (fun i => shim (i == 0) (i + 1 == cs.length) i r.src r.seq ++ cs.getD i [])

/-- FRAME_MAX as it acts: clamped to 1,500 to 9,216 (R147). -/
def clampFrameMax (v : Nat) : Nat := max 1500 (min 9216 v)

end Sys2Proof.Machine
end

