-- ==== Sys2Proof/Machine/Flags.lean ====
section
/-! DEFINITION. Flags: the access codes of R10, interrupt causes and messages (R47, R495), island states and stamp quality
(R85, R501). -/

namespace Sys2Proof.Machine

/-! ### Access codes (R10 to R12) -/

/-- What a field of `old` becomes when `v` is written to its register. -/
def writeField (old v : Word) (lo w : Nat) (a : Acc) : Word :=
  match a with
  | .rw => setBits old lo w (getBits v lo w)
  | .w1c => setBits old lo w (getBits (old &&& ~~~v) lo w)
  | .w1s => setBits old lo w (getBits (old ||| v) lo w)
  | .ro => old
  | .wo => old
  | .rc => old

/-- A whole register after a write of `v`: each field by its access code, reserved bits ignored. -/
def writeReg (flds : List (Nat × Nat × Acc)) (old v : Word) : Word :=
  flds.foldl (fun r f => writeField r v f.1 f.2.1 f.2.2) old

/-- What a read of a register returns: the fields' values, WO fields and reserved bits 0. -/
def readReg (flds : List (Nat × Nat × Acc)) (cur : Word) : Word :=
  flds.foldl (fun r f => if f.2.2 = .wo then r else setBits r f.1 f.2.1 (getBits cur f.1 f.2.1)) 0

/-- The register after a read: its RC fields cleared. -/
def afterRead (flds : List (Nat × Nat × Acc)) (cur : Word) : Word :=
  flds.foldl (fun r f => if f.2.2 = .rc then setBits r f.1 f.2.1 0 else r) cur

namespace State

/-! ### Island state (R466, R473, R43) -/

/-- STATE of island `n`: 0 in operation, 1 Winter state, 2 island reset. -/
def istate (s : State) (n : Nat) : Nat := s.fld (F.STATUS_STATE.at n)

/-- Island `n` is in operation. -/
def works (s : State) (n : Nat) : Bool := s.istate n == 0

/-- A tensor core that the enable mask disables (R43). -/
def disabled (s : State) (n : Nat) : Bool := s.flag (F.STATUS_DISABLED.at n)

/-! ### Interrupts (R47, R495) -/

/-- _INT_PEND AND _INT_EN of island `n`. -/
def enabledPending (s : State) (n : Nat) : Word :=
  s.reg (F.INT_PEND_ERR.at n).addr &&& s.reg (F.INT_EN_ERR.at n).addr

/-- The message of island `n` waits: a change of its enabled causes from zero to non-zero, merged into a message that
already waits; never for a disabled tensor core (R47). -/
def offer (s : State) (n : Nat) (before : Word) : State :=
  if before = 0 ∧ s.enabledPending n ≠ 0 ∧ s.disabled n = false ∧ n ∉ s.mgt.msiWait then
    { s with mgt := { s.mgt with msiWait := s.mgt.msiWait ++ [n] } }
  else s

/-- A cause of island `n` becomes pending (R495): bit `b` of _INT_PEND, enabled or not. -/
def pend (s : State) (n b : Nat) : State :=
  let before := s.enabledPending n
  let a := (F.INT_PEND_ERR.at n).addr
  (s.setReg a (s.reg a ||| BitVec.ofNat 64 (2 ^ b))).offer n before

/-- A sticky bit of STB_MGT_BOUNDARY set, which raises island 0's interrupt (R59). -/
def sticky (s : State) (f : Fld) : State := (s.setFld f 1).pend 0 8

/-! ### Performance events (R413, R414) -/

/-- Counter `k` of island `n` and its select register. -/
def pmcField (n k : Nat) (f : Fld) : Fld := { f with addr := f.addr + 8 * k + n * 0x80000 }

/-- Counter `k` of island `n` counts `m` more: it wraps at 2^48 with OVF and, if enabled, the interrupt (R413). -/
def pmcAdd (s : State) (n k m : Nat) : State :=
  let v := s.fld (pmcField n k F.PMC_VALUE) + m
  let s := s.setFld (pmcField n k F.PMC_VALUE) (v % 2 ^ 48)
  if v < 2 ^ 48 then s
  else
    let s := s.setFld (pmcField n k F.PMSEL_OVF) 1
    if s.flag (pmcField n k F.PMSEL_OVF_INT) then s.pend n 2 else s

/-- `m` occurrences of performance event `ev` of island `n`: every enabled counter that selects it counts them, unless frozen (R413, R415). -/
def perf (s : State) (n ev m : Nat) : State :=
  if m = 0 || s.flag F.TRC_PMC_CTRL_FROZEN then s
  else
    (List.range 8).foldl (fun s k =>
      if s.flag (pmcField n k F.PMSEL_EN) && s.fld (pmcField n k F.PMSEL_EVENT) == ev then s.pmcAdd n k m else s) s

/-! ### Time and stamps (R74, R76, R85, R501) -/

/-- The number of the open epoch. -/
def epoch (s : State) : Nat := s.fld F.TIM_EPOCH_EPOCH

/-- The advance since the opening of the epoch in 0.25 ns, before saturation. -/
def rawStamp (s : State) : Nat := ((s.tim.time - s.tim.opened) * 4 / 65536).toNat

/-- The stamp of now: 0.25 ns from the opening of the open epoch, saturated (R74). -/
def stamp (s : State) : Nat := min 0xFFFFFFFF s.rawStamp

/-- Stamps are qualified: TIM in LOCKED or HOLDOVER, not in Winter state, the reference present (R50, R71, R78). -/
def timeQualified (s : State) : Bool :=
  (s.tim.servo.st == 3 || s.tim.servo.st == 4) && s.works 1 && !s.mgt.refclkLost

/-- UNCERT of a stamp that island `n` takes (R501). -/
def uncertCode (s : State) (n : Nat) : Nat :=
  match n with
  | 0 => 5
  | 1 => 2
  | 8 => 3
  | 14 => 3
  | _ => if n < 16 then 4 else if s.fld F.MGT_PWR_STATUS_TENSOR_STEP ≤ 6 then 4 else 5

/-- The stamp quality of island `n` now (R85). -/
def quality (s : State) (n : Nat) : Nat :=
  b2n (!s.timeQualified || decide (0xFFFFFFFF < s.rawStamp)) + 2 * b2n (s.tim.servo.st == 4) + 4 * b2n s.tim.stepped +
  s.uncertCode n * 256

/-! ### This block's place (R19, R34) -/

/-- This block's group, node and level addresses. -/
def group (s : State) : Nat := s.fld F.MGT_ROLE_GROUP
def node (s : State) : Nat := s.fld F.MGT_ROLE_NODE
def myNode (s : State) : Nat := nodeAddr s.group s.node
def myGroup (s : State) : Nat := groupAddr s.group

/-- The fleet address of the die in slot `d` of this tray. -/
def dieAddr (s : State) (d : Nat) : Nat := fleetAddr s.group s.node d 2047

/-- The block acts as master of a tier: named by the image and not yielded, or acting (R25, R27). -/
def masterOf (s : State) (t : Tier) : Bool :=
  match t with
  | .group => (s.flag F.MGT_ROLE_GROUP_MASTER && !s.flag F.MGT_ROLE_GROUP_YIELDED) || s.flag F.MGT_ROLE_GROUP_ACTING
  | .system => (s.flag F.MGT_ROLE_SYSTEM_MASTER && !s.flag F.MGT_ROLE_SYSTEM_YIELDED) || s.flag F.MGT_ROLE_SYSTEM_ACTING

/-- The block is the grandmaster: the acting or named system master (R61). -/
def grandmaster (s : State) : Bool := s.masterOf .system

end State

end Sys2Proof.Machine
end

