-- ==== Sys2Proof/Machine/Ops.lean ====
section
/-! DEFINITION. The operations that many commands share: the running image, routes and their discards (R54), records of the
block's own and their way into EXP's queues (R378, R379, R389, R390), trace messages and triggers (R398 to R405), and Control requests
(R163). -/

namespace Sys2Proof.Machine
namespace State

/-- The running image, an empty one before the first commit. -/
def image (s : State) : Image := s.img.getD {}

/-- The image that governs epoch `e`: the one in force at the tick that opened it (R213). -/
def imageFor (s : State) (e : Nat) : Image :=
  match s.prevImg with
  | some (c, old) => if e < c then old else s.image
  | none => s.image

/-- The block emits no record (R2, R478): no image has been committed, or the block is not armed. -/
def silent (s : State) : Bool := s.img.isNone || s.fld F.MGT_BOOT_STAGE != 5

/-- A reset input of the block is asserted (R49, R475). -/
def inReset (s : State) : Bool := s.mgt.por || s.mgt.cold || s.mgt.warm

/-- Bytes of the first region of a kind in the running map, 0 without one (R355). -/
def regionBytes (s : State) (kind : Nat) : Nat :=
  match s.image.regions.find? (fun r => r.kind == kind) with
  | some r => r.size
  | none => 0

/-! ### Routes (R54, R420) -/

/-- The number of the route of `content` from island `src` to island `dst`, for a record type when content is 0. -/
def routeNo (s : State) (src dst content type : Nat) : Option Nat :=
  s.image.routes.findIdx? (fun r => r.src == src && r.dst == dst && r.content == content &&
    (content != 0 || bit r.types type))

/-- A transfer discarded and counted against its route (R54). -/
def routeDrop (s : State) (src dst content type : Nat) : State :=
  match s.routeNo src dst content type with
  | some k => s.incFld (F.MGT_ROUTE_DATA_DROPS.at k)
  | none => s

/-! ### EXP: joining egress queues -/

/-- A destination's entry of the export table. -/
def destCfg (s : State) (d : Nat) : DestCfg := s.image.dests.getD d {}

/-- The destination is held (R389). -/
def destHeld (s : State) (d : Nat) : Bool := s.flag (F.EXP_DEST_DATA_HELD.at d)

/-- The egress queue of destination `d` and class `c` (CLASS − 8). -/
def queue (s : State) (d c : Nat) : EQueue := s.exp.queues.get (fun _ => {}) (d * 8 + c)

/-- That queue replaced. -/
def setQueue (s : State) (d c : Nat) (q : EQueue) : State :=
  { s with exp := { s.exp with queues := s.exp.queues.put (fun _ => {}) (d * 8 + c) q } }

end State

/-- Bytes of a list of records. -/
def recsSize (rs : List Rec) : Nat := (rs.map Rec.size).sum

/-- A difference of tags is negative (R387): signed, modulo 2^64. -/
def tagLt (a b : BitVec 64) : Bool := (a - b).msb

/-- The epoch record of a batch (R309). -/
def isEpochRecord (r : Rec) : Bool := r.type == 0x21 && bytesAt r.body 0 1 % 4 == 2

/-- The RES of a Summary (R191). -/
def summaryRes (r : Rec) : Nat := bytesAt r.body 2 1 % 8

/-- A Summary record's KIND (R191). -/
def summaryKind (r : Rec) : Nat := bytesAt r.body 0 1

/-- A primary Summary (R191). -/
def isPrimary (r : Rec) : Bool := r.type == 0x20 && summaryKind r == 0

/-- What is dropped first from a full share of class `c` (R390): the kept records and the dropped ones. A signed batch goes whole;
among Summaries those of a KIND other than 0 go first, then primaries of the highest RES. -/
def dropOldest (c : Nat) (rs : List Rec) : List Rec × List Rec :=
  match rs with
  | [] => ([], [])
  | r :: rest =>
    if c = 0 then
      (if r.flag flagSigned then
        match rs.findIdx? isEpochRecord with
        | some i => (rs.drop (i + 1), rs.take (i + 1))
        | none => ([], rs)
      else (rest, [r]))
    else if c = 1 then
      match rs.findIdx? (fun x => x.type == 0x20 && summaryKind x != 0) with
      | some i => (rs.eraseIdx i, [rs.getD i r])
      | none =>
        let m := (rs.map (fun x => if isPrimary x then summaryRes x else 0)).foldl max 0
        match rs.findIdx? (fun x => isPrimary x && summaryRes x == m) with
        | some i => (rs.eraseIdx i, [rs.getD i r])
        | none => (rest, [r])
    else (rest, [r])

namespace State

/-- Records lost to destination `d` (R379), kept for its next Loss marker. -/
def loseAt (s : State) (d : Nat) (rs : List Rec) : State :=
  { s with exp := { s.exp with
      losses := s.exp.losses.mod (fun _ => {}) d (fun l => rs.foldl (fun l r => l.add r.type r.epoch r.offset) l) } }

/-- Bytes held by held destinations in the share of class `c`: VERDICT and SUMMARY each their own, the other three together (R390). -/
def shareUsed (s : State) (c : Nat) : Nat :=
  (s.exp.queues.map (fun e =>
    if s.destHeld (e.1 / 8) && (if c < 2 then e.1 % 8 == c else decide (2 ≤ e.1 % 8)) then recsSize e.2.recs else 0)).sum

/-- Bytes of the share of class `c` (R390). -/
def shareSize (s : State) (c : Nat) : Nat :=
  let pct := min 100 (s.fld F.EXP_HOLD_VERDICT_PCT)
  let hold := s.regionBytes 3
  match c with
  | 0 => hold * pct / 100
  | 1 => hold - hold * pct / 100
  | _ => s.regionBytes 19

/-- Held records of destination `d` and class `c` dropped until `n` bytes more fit the share (R390). -/
def makeRoom (d c n : Nat) : Nat → State → State
  | 0, s => s
  | fuel + 1, s =>
    if s.shareUsed c + n ≤ s.shareSize c then s
    else
      let q := s.queue d c
      let (kept, dropped) := dropOldest c q.recs
      if dropped.isEmpty then s
      else makeRoom d c n fuel
        (((s.setQueue d c { q with recs := kept }).loseAt d dropped).addFld (F.EXP_DEST_CNT_HOLD_DROP.at d) dropped.length)

/-- The virtual time of a class on a link (R387). -/
def vtime (s : State) (link c : Nat) : BitVec 64 := s.exp.v.get (fun _ => 0) (link * 8 + c)

/-- `r` put at the end of a queue, which wakes if it was empty and is not held (R387). -/
def pushQueue (s : State) (d c : Nat) (r : Rec) : State :=
  let q := s.queue d c
  let link := s.fld (F.EXP_DEST_DATA_LINK.at d)
  let v := s.vtime link c
  if q.recs.isEmpty && !s.destHeld d then
    s.setQueue d c { recs := [r], s := if tagLt v q.f then q.f else v, f := q.f }
  else s.setQueue d c { q with recs := q.recs ++ [r] }

/-- Bytes of one Loss marker, which every queue keeps room for (R379). -/
def markerSize : Nat := 112

/-- `r` joins the queue of destination `d` (R379), or the destination's hold (R390); a record that finds no room is lost and counted. -/
def joinQueue (s : State) (d : Nat) (r : Rec) : State :=
  let c := r.cls - 8
  if s.destHeld d then
    let s := makeRoom d c r.size ((s.queue d c).recs.length + 1) s
    if s.shareUsed c + r.size ≤ s.shareSize c then s.pushQueue d c r
    else (s.loseAt d [r]).incFld (F.EXP_DEST_CNT_HOLD_DROP.at d)
  else
    let depth := (s.destCfg d).depthKib.getD c 0 * 1024
    let reserve := if r.type == 0x0B then 0 else markerSize
    if recsSize (s.queue d c).recs + r.size + reserve ≤ depth then s.pushQueue d c r
    else (s.loseAt d [r]).incFld (F.EXP_DEST_CNT_QUEUE_DROP.at d)

/-- The destinations of a record (R378). -/
def destsOf (s : State) (r : Rec) : List Nat :=
  match s.image.exports.find? (fun m => m.type == r.type && m.cls == r.cls) with
  | some m => m.dests.take 8
  | none => []

/-- A record reaches EXP from island `n` (R378, R379): it joins the queues of its destinations, or is discarded and counted. Nothing is
sent before the first commit and until the block is armed (R2, R478); in Winter state or reset of EXP it is discarded and counted against the route (R394). -/
def toExp (s : State) (n : Nat) (r : Rec) : State :=
  if s.silent then s
  else if !s.works 12 then s.routeDrop n 12 7 0
  else
    match s.destsOf r with
    | [] => s.incFld F.EXP_CNT_UNMAPPED
    | ds => ds.foldl (fun s d => s.joinQueue d r) s

/-- The level address under which a level sends (R19). -/
def levelAddr (s : State) (level : Nat) : Nat :=
  match level with
  | 0 => s.myNode
  | 1 => s.myGroup
  | _ => systemAddr

/-- The role whose Summaries go up from a level, and its parent. -/
def parentOf (s : State) (level : Nat) : Option Nat :=
  match level with
  | 0 => s.mgt.nodeTree.parent
  | 1 => s.mgt.groupTree.parent
  | _ => none

/-- A record that island `n` originates (R153): numbered from the counter of its SRC, stamped now. -/
def mkRec (s : State) (n type cls src flags : Nat) (body : Bytes) : Rec × State :=
  let q := s.exp.seqs.get zero src
  ({ type := type, cls := cls, flags := flags, src := src, seq := q, epoch := s.epoch, quality := s.quality n, offset := s.stamp,
     body := pad8 body },
   { s with exp := { s.exp with seqs := s.exp.seqs.put zero src ((q + 1) % 2 ^ 32) } })

/-- Such a record, handed to EXP. -/
def send (s : State) (n type cls src flags : Nat) (body : Bytes) : State :=
  let (r, s) := s.mkRec n type cls src flags body
  s.toExp n r

/-- Such a record sent to named fleet addresses. -/
def sendTo (s : State) (n : Nat) (dst : List Nat) (type cls src flags : Nat) (body : Bytes) : State :=
  let (r, s) := s.mkRec n type cls src flags body
  if s.silent then s
  else if (s.destsOf r).isEmpty then s.emit (.directed dst r)
  else (s.emit (.directed dst r)).toExp n r

/-- An Event of this node (R161). -/
def event (s : State) (n code subject count : Nat) (param : Bytes) : State :=
  s.send n 0x0A 10 s.myNode 0 (eventBody code subject count param)

/-! ### Control requests (R163, R164) -/

end State

/-- The body of a Control request (R163). -/
def CtrlBody.bytes (tag : Nat) : CtrlBody → Bytes
  | .batch es =>
    le 1 1 ++ le 1 (es.length % 128) ++ le 2 tag ++ zeros 4 ++
      (es.map (fun e => le 2 e.offset ++ le 1 (b2n e.write) ++ zeros 5 ++ le 8 e.value)).flatten
  | .part slot last off bs => le 1 2 ++ le 1 (128 * b2n last) ++ le 2 tag ++ le 1 (slot % 16) ++ zeros 3 ++ le 4 off ++ zeros 4 ++ bs

namespace State

/-- A Control request record leaves for a Potik of the tray (R163). -/
def sendControl (s : State) (q : CtrlReq) : State := s.sendTo 14 [s.dieAddr q.die] 0x0C 8 s.myNode 0 (q.body.bytes q.tag)

/-- The node aggregator sends a Control request and waits for the response (R164). -/
def control (s : State) (die : Nat) (body : CtrlBody) (why : CtrlFor) : State :=
  let q : CtrlReq := { tag := s.stw.nextTag, die := die, body := body, purpose := why }
  ({ s with stw := { s.stw with ctrl := s.stw.ctrl ++ [q], nextTag := (s.stw.nextTag + 1) % 2 ^ 16 } }).sendControl q

/-- A register batch to a Potik. -/
def ctrlWrite (s : State) (die : Nat) (ws : List (Nat × Nat)) (why : CtrlFor) : State :=
  s.control die (.batch (ws.map (fun w => { offset := w.1, write := true, value := w.2 }))) why

/-- The window value that arming wrote to a Potik register (R483): the image's, or the register's reset value. -/
def potikCfg (s : State) (off : Nat) : Nat :=
  match s.image.potikRegs.find? (fun w => w.1 == off) with
  | some w => w.2
  | none => (potikReset off).toNat

/-! ### Trace messages (R396 to R400) -/

end State

/-- The payload of EPOCH_DONE for an abandoned epoch (R399). -/
def epochCut (e : Nat) : Bytes := le 1 1 ++ zeros 3 ++ le 6 e

namespace State

/-- The stamp of the last accepted entry of an island, epoch and offset. -/
def lastStamp (s : State) (n : Nat) : Nat × Nat := s.trc.lastStamp.get (fun _ => (0, 0)) n

/-- A message of island `n` lost at its FIFO (R398, R406). -/
def fifoLoss (s : State) (n : Nat) : State :=
  let st := s.lastStamp n
  let s := (s.incFld (F.TRC_SRC_DATA_LOST.at n)).perf n 0x00A 1
  { s with trc := { s.trc with lostFlag := s.trc.lostFlag.put no n true, loss := s.trc.loss.add 0 st.1 st.2 } }

/-- An island offers a trace message into its FIFO (R398): numbered whether or not it finds room; lost when the FIFO is full or TRC is
in Winter state or reset (R407). -/
def trace (s : State) (n code : Nat) (payload : Bytes) : State :=
  if !s.flag (F.TRC_SRC_DATA_EN.at n) then s
  else
    let iseq := s.fld (F.TRC_SRC_DATA_NEXT_ISEQ.at n)
    let s := s.setFld (F.TRC_SRC_DATA_NEXT_ISEQ.at n) (iseq + 1)
    let q := s.trc.fifos.get nil n
    if decide (q.length < 64) && s.works 13 then
      let e : TrcEntry := { source := n, code := code, iseq := iseq, payload := payload, epoch := s.epoch, offset := s.stamp,
                            quality := s.quality n }
      { s with trc := { s.trc with fifos := s.trc.fifos.put nil n (q ++ [e]) } }
    else s.fifoLoss n

/-- Slots of the ring under the running map (R396). -/
def traceSlots (s : State) : Nat := (s.regionBytes 12 - 4096 - s.fld F.TRC_CTRL_SNAP_MIB * 2 ^ 20) / 32

/-- Slots of the pre-trigger part, with the RESERVE_PCT in force (R396). -/
def preSlots (s : State) : Nat := s.trc.slots * (100 - s.trc.pct) / 100

/-- Slots of the trigger reserve. -/
def reserveSlots (s : State) : Nat := s.trc.slots - s.preSlots

/-- TRC becomes FROZEN (R401). -/
def freezeTrace (s : State) : State :=
  if s.fld F.TRC_STATUS_STATE = 2 then s.setFld F.TRC_STATUS_STATE 3 else s

/-- An entry is lost because TRC is FROZEN (R401, R406). -/
def frozenLoss (s : State) (e : TrcEntry) : State :=
  let s := s.incFld F.TRC_STATUS_LOST
  { s with trc := { s.trc with loss := s.trc.loss.add 0 e.epoch e.offset, frozenLost := s.trc.frozenLost + 1 } }

/-- An entry is taken from its FIFO: the island's stamp, its SYNC flag spent, and the reach of a loss not yet reported (R397, R406). -/
def noteEntry (s : State) (e : TrcEntry) : State :=
  let l := s.trc.loss
  { s with trc := { s.trc with
      lostFlag := s.trc.lostFlag.put no e.source false
      lastStamp := s.trc.lastStamp.put (fun _ => (0, 0)) e.source (e.epoch, e.offset)
      loss := if e.sync ∧ 0 < l.total then { l with lastEpoch := e.epoch, lastOffset := e.offset } else l } }

/-- An entry written (R398, R401): into the pre-trigger part, which overwrites its oldest, or into the reserve; a full reserve freezes. With
MODE other than 1 it is not written. -/
def storeEntry (s : State) (e : TrcEntry) : State :=
  match s.fld F.TRC_STATUS_STATE with
  | 1 =>
    let pre := s.trc.pre ++ [e]
    { s with trc := { s.trc with pre := pre.drop (pre.length - s.preSlots) } }
  | 2 =>
    if s.trc.reserve.length < s.reserveSlots then { s with trc := { s.trc with reserve := s.trc.reserve ++ [e] } }
    else s.freezeTrace.frozenLoss e
  | 3 => s.frozenLoss e
  | _ => s

/-- TRC accepts an entry (R398): the first of an island after a loss carries SYNC. -/
def acceptEntry (s : State) (e : TrcEntry) : State :=
  let e := { e with sync := s.trc.lostFlag.get no e.source }
  ((s.noteEntry e).perf 13 0x100 1).storeEntry e

/-- The entry matches STB_TRC_MATCH (R402). -/
def matches' (s : State) (e : TrcEntry) : Bool :=
  e.code == s.fld F.TRC_MATCH_CODE && (s.flag F.TRC_MATCH_ANY_SOURCE || e.source == s.fld F.TRC_MATCH_SOURCE)

/-- The next island to serve: the first with a waiting entry after the last one served, in ascending order (R398). -/
def nextFifo (s : State) : Option Nat :=
  ((List.range 100).map (fun i => (s.trc.last + 1 + i) % 100)).find? (fun n => !(s.trc.fifos.get nil n).isEmpty)

/-! ### Triggers (R402 to R405) and snapshot requests (R408) -/

/-- TRACE_BOOST set (R405). -/
def boost (s : State) : State :=
  let s := s.setFld F.EXP_CFG_TRACE_BOOST 1
  { s with trc := { s.trc with sinceBoost := 0 } }

/-- A Solstice snapshot requested for an epoch (R408): refused while one is busy; with POTIKS set the armed Potiks of the tray are asked too. -/
def snapRequest (s : State) (epoch : Nat) : State :=
  if s.flag F.TRC_SNAP_BUSY then s.setFld F.TRC_SNAP_REFUSED 1
  else
    let s := (s.setFld F.TRC_SNAP_EPOCH epoch).setFld F.TRC_SNAP_REQ 1
    if s.flag F.TRC_SNAP_POTIKS then
      s.stw.armed.foldl (fun s d => s.ctrlWrite d [(0x750, epoch % 2 ^ 48 + 2 ^ 48)] .plain) s
    else s

/-- A trigger of source `src` is enabled (R402); WINTER and ERROR need TRIG of the island too. -/
def trigEnabled (s : State) (src island : Nat) : Bool :=
  src == 0 || src == 8 ||
  (bit (s.fld F.TRC_TRIG_EN_SOURCES) (src - 1) &&
    (if src == 1 || src == 2 then s.flag (F.TRC_SRC_DATA_TRIG.at island) else true))

/-- The capture starts (R401, R403): the pre-trigger part is frozen, the reserve starts with the TRIGGER marker, and TRACE_BOOST is set. -/
def startCapture (s : State) (src : Nat) : State :=
  let m : TrcEntry := { source := 127, code := 0x10, payload := le 1 src ++ le 1 0, epoch := s.epoch, offset := s.stamp,
                        quality := s.quality 13 }
  let s := { s with trc := { s.trc with reserve := [m], exported := 0, sinceTrigger := 0 } }
  let s := (((s.setFld F.TRC_STATUS_STATE 2).setFld F.TRC_STATUS_TRIG_SOURCE src).setFld F.TRC_STATUS_EXPORTING 1).setFld
    F.TRC_CAPTURE0_TRIG_EPOCH s.epoch
  ((s.setFld F.TRC_CAPTURE1_TRIG_OFFSET s.stamp).setFld F.TRC_CAPTURE1_PRE_ENTRIES (min 0xFFFFFFFF s.trc.pre.length)).boost

/-- The armed Potiks triggered too (R404). -/
def crossTrigger (s : State) : State :=
  if s.flag F.TRC_TRIG_EN_CROSS_TRIG then
    s.stw.armed.foldl (fun s d => s.ctrlWrite d [(0x740, s.potikCfg 0x740 ||| 4)] .plain) s
  else s

/-- A Solstice snapshot of the next epoch requested with the capture (R402). -/
def snapOnTrigger (s : State) : State :=
  if s.flag F.TRC_TRIG_EN_SNAP_ON_TRIG && !s.flag F.TRC_SNAP_BUSY then s.snapRequest (s.epoch + 1) else s

/-- A trigger fires (R401 to R405): ARMED, it starts the capture; in CAPTURING or FROZEN it is counted. -/
def fireTrigger (s : State) (src island : Nat) : State :=
  if !s.trigEnabled src island || s.fld F.TRC_CTRL_MODE != 1 || !s.works 13 then s
  else if s.fld F.TRC_STATUS_STATE = 1 then ((s.startCapture src).crossTrigger).snapOnTrigger
  else if s.fld F.TRC_STATUS_STATE = 2 ∨ s.fld F.TRC_STATUS_STATE = 3 then s.incFld F.TRC_STATUS_TRIG_IGNORED
  else s

/-- The oldest entry of island `n` leaves its FIFO. -/
def popEntry (s : State) (n : Nat) (rest : List TrcEntry) : State :=
  { s with trc := { s.trc with fifos := s.trc.fifos.put nil n rest, last := n } }

/-- An entry accepted; one that matches fires trigger source 5 (R402, R403). -/
def serveEntry (s : State) (e : TrcEntry) : State := if s.matches' e then (s.acceptEntry e).fireTrigger 5 13 else s.acceptEntry e

/-- At most `n` waiting entries accepted in the order of service (R398). -/
def acceptEntries : Nat → State → State
  | 0, s => s
  | fuel + 1, s =>
    if !s.works 13 then s
    else match s.nextFifo with
    | none => s
    | some n =>
      match s.trc.fifos.get nil n with
      | [] => s
      | e :: rest => acceptEntries fuel ((s.popEntry n rest).serveEntry e)

/-- Every waiting entry accepted. -/
def drainTrace (s : State) : State := acceptEntries 6400 s

/-- A trigger, after the entries that wait: those accepted before the marker belong to the pre-trigger part (R403). -/
def trigger (s : State) (src island : Nat) : State :=
  if s.trigEnabled src island then s.drainTrace.fireTrigger src island else s

/-- A trace message of STB_MGT_ROLE and its trigger (R399, R402). -/
def roleChanged (s : State) : State :=
  (s.trace 0 0x0E (le 4 (s.reg F.MGT_ROLE_NODE_AGG.addr).toNat)).trigger 7 0

end State
end Sys2Proof.Machine
end

