-- ==== Sys2Proof/Machine/Pool.lean ====
section
/-! DEFINITION. The dispatch pool and the cores' queues of tiles (R247, R248, R290). -/

namespace Sys2Proof.Machine
namespace State

/-- A core's sequencer, by core number 0 to 83. -/
def core (s : State) (c : Nat) : Core := s.tdsp.cores.get (fun _ => {}) c

/-- A core in the dispatch pool (R247); a recovered one joins it at the next tick (R466). -/
def inPool (s : State) (c : Nat) : Bool :=
  decide (c < 84) && !s.disabled (16 + c) && s.works (16 + c) && !s.mgt.parked.contains (16 + c) && !s.flag (F.Tnn_TILE_HELD.at c) &&
    !s.tdsp.rejoin.contains c

/-- The first pool core at or after `c` in ascending index, wrapping after T83. -/
def poolFrom (s : State) (c : Nat) : Option Nat := ((List.range 84).map (fun i => (c + i) % 84)).find? s.inPool

/-- The next pool core after `c`, other than `c`. -/
def poolAfter (s : State) (c : Nat) : Option Nat := ((List.range 83).map (fun i => (c + 1 + i) % 84)).find? s.inPool

/-- _TILE shows the running tile of a core. -/
def showTile (s : State) (c : Nat) : State :=
  match (s.core c).jobs with
  | [] =>
    let s := (s.setFld (F.Tnn_TILE_BUSY.at c) 0).setFld (F.Tnn_TILE_CANARY.at c) 0
    (s.setFld (F.Tnn_TILE_RERUN.at c) 0).setFld (F.Tnn_TILE_REPLAY.at c) 0
  | j :: _ =>
    let s := (s.setFld (F.Tnn_TILE_BUSY.at c) 1).setFld (F.Tnn_TILE_LAYER.at c) j.tile.layer
    let s := s.setFld (F.Tnn_TILE_CANARY.at c) (b2n (j.why == .canary))
    let s := s.setFld (F.Tnn_TILE_RERUN.at c) (b2n (match j.why with | .rerun _ => true | _ => false))
    s.setFld (F.Tnn_TILE_REPLAY.at c) (b2n (match j.why with | .replay .. => true | _ => false))

/-- A core's queue replaced; a core that becomes idle joins the end of the idle order. -/
def setJobs (s : State) (c : Nat) (l : List CoreJob) : State :=
  let rest := s.tdsp.idle.filter (fun x => x != c)
  let idle := if l.isEmpty then (if s.tdsp.idle.contains c then s.tdsp.idle else rest ++ [c]) else rest
  let k : Core := { s.core c with jobs := l }
  let t : Tdsp := { s.tdsp with cores := Tab.put (fun _ => {}) s.tdsp.cores c k, idle := idle }
  ({ s with tdsp := t }).showTile c

/-- A tile given to a core. -/
def give (s : State) (c : Nat) (j : CoreJob) : State := s.setJobs c ((s.core c).jobs ++ [j])

/-- A tile given to the first pool core from `c` on; without a pool its outputs stay missing (R248). -/
def giveFrom (s : State) (c : Nat) (j : CoreJob) : State :=
  match s.poolFrom c with
  | some d => s.give d j
  | none => if j.why = .main then s.emit (.tileMissing j.tile.id) else s

/-- The tiles of a core that has left the pool, given once more to the next pool core (R248). -/
def reissue (s : State) (c : Nat) : State :=
  let js := (s.core c).jobs
  js.foldl (fun s j => s.giveFrom (c + 1) j) (s.setJobs c [])

/-- POOL0 and POOL1 (R281). -/
def poolWord (s : State) (hi : Bool) : Word :=
  BitVec.ofNat 64 (((List.range 64).map (fun i => if s.inPool (i + 64 * b2n hi) then 2 ^ i else 0)).sum)

/-! ### ARB's queue (R281) -/

/-- ARB_STATUS shows the queue and the job in progress. -/
def showArb (s : State) : State :=
  let s := (s.setFld F.ARB_STATUS_QUEUED s.tdsp.arbQ.length).setFld F.ARB_STATUS_BUSY (b2n s.tdsp.arb.isSome)
  match s.tdsp.arb with | some j => s.setFld F.ARB_STATUS_KIND j.kind | none => s

/-- The job in progress goes back to the head of the queue (R460, R466). -/
def arbToHead (s : State) : State :=
  match s.tdsp.arb with
  | none => s
  | some j => ({ s with tdsp := { s.tdsp with arb := none, arbQ := j :: s.tdsp.arbQ } }).showArb

end State
end Sys2Proof.Machine
end

