-- ==== Sys2Proof/Machine/Window.lean ====
section
/-! DEFINITION. Words of the shared store, and the key and value window of the sequence models with the runs that fill it (R293 to R298, R351). -/

namespace Sys2Proof.Machine
namespace State

/-! ### Words of the shared store (R351, R352) -/

/-- A byte of the shared store. -/
def storeByte (s : State) (a : Nat) : Byte := s.sto.mem.get (fun _ => 0) a

/-- `n` bytes of the shared store from address `a`. -/
def storeBytes (s : State) (a n : Nat) : Bytes := (List.range n).map (fun i => s.storeByte (a + i))

/-- The word that holds address `a` is poisoned. -/
def poisoned (s : State) (a : Nat) : Bool := s.sto.poison.get no (a / 8)

/-- Bytes written from `a`, their words poisoned or clean (R352). -/
def storeWrite (s : State) (a : Nat) (bs : Bytes) (poison : Bool) : State :=
  let mem := (List.range bs.length).foldl (fun m i => m.put (fun _ => 0) (a + i) (bs.getD i 0)) s.sto.mem
  let pz := (List.range ((bs.length + 7) / 8)).foldl (fun t i => t.put no (a / 8 + i) poison) s.sto.poison
  { s with sto := { s.sto with mem := mem, poison := pz } }

/-! ### Models (R282, R293) -/

/-- Model `m` as an epoch runs it (R296). -/
def model (s : State) (m e : Nat) : Option ModelCfg := (s.imageFor e).models[m]?

/-- A model's runs. -/
def seq (s : State) (m : Nat) : Seq := s.seqs.get (fun _ => {}) m

/-- A model's runs changed; STATUS shows them. -/
def setSeq (s : State) (m : Nat) (q : Seq) : State :=
  let s := { s with seqs := s.seqs.put (fun _ => {}) m q }
  let s := (s.setFld (F.STW_MDL_STATUS_RUNNING.at m) (b2n q.running.isSome)).setFld (F.STW_MDL_STATUS_WAITING.at m) (min 2 q.waiting.length)
  match q.running with | some e => s.setFld (F.STW_MDL_STATUS_RUN_EPOCH.at m) e | none => s

/-- The subjects of a class at this block as an image lists them, in ascending fleet address (R284, R293). -/
def windowSubjects (s : State) (im : Image) (cls : Nat) : List Nat :=
  match cls with
  | 0 => (im.dies.map (fun d => (d.units.map (fun u => (List.range (u.2.1 + 1 - u.1)).map (fun i => s.dieAddr d.slot - 2047 + u.1 + i))).flatten)).flatten
  | 1 => im.dies.map (fun d => s.dieAddr d.slot)
  | 2 => im.groupNodes
  | _ => im.systemGroups

/-- The window's region of a model. -/
def windowRegion (s : State) (m : Nat) : Option Region := s.image.regions.find? (fun r => r.kind == 7 && r.inst == m)

/-- Bytes of a slot header: 16 and one bit for each of `n` subjects, padded to 64 (R293). -/
def headerBytes (n : Nat) : Nat := (16 + (n + 7) / 8 + 63) / 64 * 64

/-- The address of entry (l, u, slot) in a window of `n` subjects. -/
def entryPlace (r : Region) (c : ModelCfg) (n l u slot : Nat) : Nat := r.base + ((l * n + u) * c.window + slot) * (2 * c.h)

/-- The address of a slot header. -/
def headerPlace (r : Region) (c : ModelCfg) (n slot : Nat) : Nat :=
  r.base + c.layers * n * c.window * (2 * c.h) + slot * headerBytes n

/-- A slot header: EPOCH, VALID, and the PRESENT bytes. -/
def slotHeader (s : State) (r : Region) (c : ModelCfg) (n slot : Nat) : Nat × Bool × Bytes :=
  let b := s.storeBytes (headerPlace r c n slot) (16 + (n + 7) / 8)
  (bytesAt b 0 6, bit (bytesAt b 6 1) 0, b.drop 16)

/-- MDL_WIN shows the window (R299's registers). -/
def showWindow (s : State) (m n : Nat) (c : ModelCfg) : State :=
  match s.windowRegion m with
  | none => s
  | some r =>
    let hs := ((List.range c.window).map (s.slotHeader r c n)).filter (fun h => h.2.1)
    let s := s.setFld (F.STW_MDL_WIN_VALID_SLOTS.at m) hs.length
    if hs.isEmpty then s else s.setFld (F.STW_MDL_WIN_NEWEST.at m) ((hs.map (fun h => h.1)).foldl max 0)

/-- The header of an epoch's slot written: PRESENT bits by subject (R295, R297). -/
def writeHeader (s : State) (m n e : Nat) (c : ModelCfg) (valid : Bool) (present : List Bool) : State :=
  match s.windowRegion m with
  | none => s
  | some r =>
    let p := le ((n + 7) / 8) (present.foldr (fun b (v : Nat) => 2 * v + b2n b) 0)
    (s.storeWrite (headerPlace r c n (e % c.window)) (le 6 e ++ le 1 (b2n valid) ++ zeros 9 ++ (if valid then p else zeros ((n + 7) / 8))) false).showWindow m n c

/-! ### Arrival and abandoning (R296, R297) -/

/-- The model bound to a class in an epoch. -/
def modelOf (s : State) (cls e : Nat) : Option Nat := (s.imageFor e).models.findIdx? (fun c => c.cls == cls)

/-- TOKEN codes of an epoch arrive (R296): at most two epochs wait, a further one is abandoned. A fenced STW receives nothing (R54). -/
def tokensArrive (s : State) (cls e : Nat) : State :=
  match s.modelOf cls e with
  | none => s
  | some m =>
    if !s.works 14 then s.routeDrop 5 14 3 0
    else
      let q := s.seq m
      if 2 ≤ q.waiting.length then s.incFld (F.STW_MDL_CNT_ABANDONED.at m) else s.setSeq m { q with waiting := q.waiting ++ [e] }

/-- A core's tiles of a run dropped, running or queued (R297). -/
def dropRun (s : State) (m e : Nat) : State :=
  let mine := fun (j : CoreJob) => j.tile.run == some (m, e)
  let held := (s.tdsp.disputes.filter (fun d => mine d.job)).map (fun d => d.x)
  let s := (List.range 84).foldl (fun s c => if (s.core c).jobs.any mine then s.setJobs c ((s.core c).jobs.filter (fun j => !mine j)) else s) s
  let s := { s with tdsp := { s.tdsp with disputes := s.tdsp.disputes.filter (fun d => !mine d.job)
                                          arbQ := s.tdsp.arbQ.filter (fun j => !(j.kind == 0 && held.contains j.ref))
                                          arb := s.tdsp.arb.filter (fun j => !(j.kind == 0 && held.contains j.ref)) } }
  ((held.foldl (fun s c => s.setFld (F.Tnn_TILE_HELD.at c) 0) s).setFld F.STW_TDSP_DISPUTE_OPEN s.tdsp.disputes.length).showArb

/-- The running epoch of a model abandoned (R297). -/
def abandonRun (s : State) (m : Nat) : State :=
  let q := s.seq m
  match q.running with
  | none => s
  | some e =>
    let s := (((s.setSeq m { q with running := none }).dropRun m e).incFld (F.STW_MDL_CNT_ABANDONED.at m)).trace 14 6 (epochCut e)
    match s.model m e with
    | some c => s.writeHeader m (s.windowSubjects (s.imageFor e) c.cls).length e c false []
    | none => s

/-- Running and waiting epochs of every model abandoned (R298): in STW's Winter state and reset. -/
def abandonAll (s : State) : State :=
  (List.range 4).foldl (fun s m =>
    let k := (s.seq m).waiting.length
    let s := (s.abandonRun m).addFld (F.STW_MDL_CNT_ABANDONED.at m) k
    let s := ((s.seq m).waiting).foldl (fun s e => s.trace 14 6 (epochCut e)) s
    if k = 0 then s else s.setSeq m { s.seq m with waiting := [] }) s

end State
end Sys2Proof.Machine
end

