-- ==== Sys2Proof/Machine/Banks.lean ====
section
/-! DEFINITION. The dictionary banks of COD with the jobs that use them (R367, R372), and the lookups in progress of TRE (R239, R240). -/

namespace Sys2Proof.Machine
namespace State

/-- The registers of bank `b`: 0 or 1. -/
def bankField (b : Nat) (f : Fld) : Fld := { f with addr := f.addr + b * (F.COD_BANK1_TGEN.addr - F.COD_BANK0_TGEN.addr) }

/-- A bank is retiring. -/
def retiring (s : State) (b : Nat) : Bool := s.flag (bankField b F.COD_BANK0_RETIRING)

/-- Bank `b` shows its entries as the idle bank. -/
def showIdle (s : State) (b : Nat) : State :=
  let es := s.cod.banks.get nil b
  let s := { s with cod := { s.cod with idle := b } }
  let s := (List.range 256).foldl (fun s i => s.setFld (F.COD_DICT_DATA_VALUE.at i) (es.getD i 0)) s
  s.setFld F.COD_DICT_CTRL_IDLE_ENTRIES es.length

/-- A retiring bank that nothing uses becomes idle (R367). -/
def retireBank (s : State) : State :=
  match [0, 1].find? (fun b => s.retiring b && s.fld (bankField b F.COD_BANK0_INFLIGHT) == 0) with
  | none => s
  | some b => (s.setFld (bankField b F.COD_BANK0_RETIRING) 0).showIdle b

/-- INFLIGHT of the bank that holds a generation changed by one. -/
def inflight (s : State) (tgen serial : Nat) (up : Bool) : State :=
  match [0, 1].find? (fun b => tgen != 0 && s.fld (bankField b F.COD_BANK0_TGEN) == tgen && s.fld (bankField b F.COD_BANK0_SERIAL) == serial) with
  | none => s
  | some b =>
    let f := bankField b F.COD_BANK0_INFLIGHT
    if up then s.incFld f else s.setFld f (s.fld f - 1)

/-! ### Coding and decoding jobs (R363, R364, R369, R370, R376) -/

/-- A stream's work undone (R372, R376): its open block and the write in flight are gone, and its epochs are to be taken again from the source
ring. -/
def archUndo (a : Arch) : Arch :=
  let next := match a.writing with | some e => some e.first | none => if a.raw.isEmpty then a.next else some a.first
  let offset := match a.writing with | some e => e.offset | none => a.offset
  { a with raw := [], count := 0, bad := false, writing := none, next := next, offset := offset }

/-- The streams whose work fails `p` undone; the dictionary bank of an open block is released. -/
def undoArchives (s : State) (p : Arch → Bool) : State :=
  let s := (s.cod.arch.filter (fun e => p e.2 && !e.2.raw.isEmpty)).foldl (fun s e => s.inflight e.2.tgen e.2.serial false) s
  let l := s.cod.arch.each (fun _ => {}) (fun a => if p a then archUndo a else a)
  { s with cod := { s.cod with arch := l } }

/-- Open live blocks of COD discarded and counted (R372), and its jobs in flight failed whole (R376): by a reset and by Winter state. -/
def codDiscard (s : State) : State :=
  (s.addFld F.COD_CNT_LIVE_LOST (s.cod.arch.filter (fun e => !e.2.raw.isEmpty)).length).undoArchives (fun _ => true)

/-- STO's copy jobs fail whole (R466): reads of the memory stacks that are under way, and archive copies. -/
def copiesFail (s : State) : State :=
  let out := s.sto.out.each nil (fun (l : List MemReq) => l.filter (fun r => r.write))
  ({ s with sto := { s.sto with waiting := [], out := out } }).undoArchives (fun a => a.writing.isSome)

/-- The registers of bank `b`. -/
def treBank (b : Nat) (f : Fld) : Fld := { f with addr := f.addr + 8 * b }

/-- INFLIGHT of both banks: the epochs in TRE that use them. -/
def showInflight (s : State) : State :=
  [0, 1].foldl (fun s b =>
    s.setFld (treBank b F.TRE_BANK0_INFLIGHT)
      (min 255 (((s.tre.flight.filter (fun f => f.2.2.2 == b)).map (fun f => f.2.1)).eraseDups).length)) s

/-- Lookups in progress replaced. -/
def setFlight (s : State) (l : List (Nat × Nat × Nat × Nat)) : State := ({ s with tre := { s.tre with flight := l } }).showInflight

end State
end Sys2Proof.Machine
end

