-- ==== Sys2Proof/Machine/Issue.lean ====
section
/-! DEFINITION. The records that VRD issues: Verdict bodies and epoch records (R308, R309), and the record of a level in Winter state (R324). -/

namespace Sys2Proof.Machine

/-- The body of a Verdict of kind 0, 1 or 3 (R308). `stratum` is the field of 11 bits, STRATUM_VALID included. -/
structure VBody where
  kind : Nat := 0
  level : Nat := 0
  prev : Nat := 0
  cause : Nat := 0
  vflags : Nat := 0
  subject : Nat := 0
  since : Nat := 0
  expl : Nat := 0
  score : Nat := 0
  causeP : Nat := 0
  suspect : Nat := 0
  watch : Nat := 0
  dtype : Nat := 0
  did : Nat := 0
  members : Nat := 0
  cost : Nat := 0xFFFFFFFF
  share : Nat := 0
  rank : Nat := 0
  stratum : Nat := 0
  tokens : Nat := 0
  held : Nat := 0
deriving DecidableEq, Repr

/-- VFLAGS bits (R308). -/
abbrev vCandidate : Nat := 0
abbrev vRestated : Nat := 1
abbrev vStale : Nat := 2
abbrev vEvidence : Nat := 3
abbrev vInDomain : Nat := 4
abbrev vEnd : Nat := 5
abbrev vDemoted : Nat := 6

/-- The 48 bytes. -/
def VBody.bytes (b : VBody) : Bytes :=
  le 1 b.kind ++ le 1 (b.level % 8 + b.prev % 8 * 16) ++ le 1 (b.cause % 16) ++ le 1 (b.vflags % 128) ++ le 4 b.subject ++ le 6 b.since ++
    le 2 b.expl ++ le 4 b.score ++ le 4 b.causeP ++ le 2 b.suspect ++ le 1 b.watch ++ le 1 (b.dtype % 8) ++ le 2 b.did ++
    le 2 (min 65535 b.members) ++ le 4 b.cost ++ le 2 b.share ++ le 2 (min 65535 b.rank) ++ le 2 (b.stratum % 2048) ++ le 1 (min 255 b.tokens) ++
    le 1 b.held ++ zeros 4

/-- A body read. -/
def VBody.parse (b : Bytes) : VBody :=
  { kind := bytesAt b 0 1 % 4, level := bytesAt b 1 1 % 8, prev := bytesAt b 1 1 / 16 % 8, cause := bytesAt b 2 1 % 16,
    vflags := bytesAt b 3 1 % 128, subject := bytesAt b 4 4, since := bytesAt b 8 6, expl := bytesAt b 14 2, score := bytesAt b 16 4,
    causeP := bytesAt b 20 4, suspect := bytesAt b 24 2, watch := bytesAt b 26 1, dtype := bytesAt b 27 1 % 8, did := bytesAt b 28 2,
    members := bytesAt b 30 2, cost := bytesAt b 32 4, share := bytesAt b 36 2, rank := bytesAt b 38 2, stratum := bytesAt b 40 2 % 2048,
    tokens := bytesAt b 42 1, held := bytesAt b 43 1 }

/-- Fields of an epoch record (R309); ranking entries are address and COST_NS. -/
structure EpochRec where
  level : Nat
  eflags : Nat := 0
  subject : Nat
  records : Nat := 0
  evaluated : Nat := 0
  noData : Nat := 0
  watch : Nat := 0
  suspect : Nat := 0
  fenced : Nat := 0
  held : Nat := 0
  domains : Nat := 0
  tokens : Nat := 0
  rounds : Nat := 0
  steps : Nat := 0
  late : Nat := 0
  ranking : List (Nat × Nat) := []

/-- Its bytes, with a zero signature. -/
def EpochRec.bytes (r : EpochRec) : Bytes :=
  le 1 2 ++ le 1 r.level ++ le 1 r.eflags ++ le 1 r.ranking.length ++ le 4 r.subject ++ le 4 r.records ++ le 4 r.evaluated ++ le 4 r.noData ++
    le 4 r.watch ++ le 4 r.suspect ++ le 2 (min 65535 r.fenced) ++ le 2 r.held ++ le 2 (min 65535 r.domains) ++ le 1 (min 255 r.tokens) ++
    zeros 1 ++ le 4 r.rounds ++ le 4 r.steps ++ le 4 r.late ++ ((r.ranking.map (fun x => le 4 x.1 ++ le 4 x.2)).flatten) ++ zeros 96

namespace State

/-- A batch record of a level: EPOCH is the epoch evaluated, OFFSET 0 (R308). -/
def vrdRec (s : State) (level e type flags : Nat) (body : Bytes) : Rec × State :=
  let (r, s) := s.mkRec 7 type 8 (s.levelAddr level) flags body
  ({ r with epoch := e, offset := 0 }, s)

/-- LAST_EPOCH of a level (R309). -/
def lastIssued (s : State) (level : Nat) : Nat := s.fld (F.VRD_LEVEL_CFG_LAST_EPOCH.at level)

/-- A level has issued an epoch. -/
def markIssued (s : State) (level e : Nat) : State :=
  let s := s.setFld (F.VRD_LEVEL_CFG_LAST_EPOCH.at level) e
  if level = 0 then s.setFld F.VRD_STATUS_LAST_EPOCH e else s

/-- The unsigned epoch record with NO_OPINION (R324). -/
def noOpinion (s : State) (level e : Nat) : State :=
  let (r, s) := s.vrdRec level e 0x21 0 ({ level := level, eflags := 1, subject := s.levelAddr level } : EpochRec).bytes
  let s := (s.markIssued level e).trace 7 6 (le 1 1 ++ zeros 3 ++ le 6 e)
  if s.silent then s else (s.emit (.directed ((s.parentOf level).toList) r)).toExp 7 r

/-- Batches that are built but not sent are lost with VRD's work: NO_OPINION goes in the place of each (R324, R460, R502). -/
def batchesLost (s : State) : State :=
  let l := s.vrd.batches
  let s := ({ s with vrd := { s.vrd with batches := [], signFailed := false } }).setFld F.VRD_STATUS_SIGNING 0
  l.foldl (fun s b => s.noOpinion b.level b.epoch) s

end State

end Sys2Proof.Machine
end

