-- ==== Sys2Proof/Machine/Winter.lean ====
section
/-! DEFINITION. Winter state (R465 to R471): what entering it does to the island and to what others see of it. -/

namespace Sys2Proof.Machine
namespace State

/-- The servo on entry to TIM's Winter state (R78): SLEW, LOCKED and HOLDOVER go to UNQUAL; ACQUIRE discards its measurements. -/
def servoWinter (v : Servo) : Servo :=
  if v.st = 2 ∨ v.st = 3 ∨ v.st = 4 then { v with st := 5 }
  else if v.st = 1 then { v with acq := [] }
  else v

/-- Frames in progress abandoned and counted (R37, R389): their records are lost to the destination. -/
def abandonTx (s : State) (port : Nat) : State :=
  match s.exp.tx.get none' port with
  | none => s
  | some t =>
    let s := { s with exp := { s.exp with tx := s.exp.tx.put none' port none, frags := s.exp.frags.put nil port [] } }
    (s.loseAt t.dest t.recs).incFld F.EXP_CNT_ABANDONED

/-- The staging copy fails (R466): STATE returns to EMPTY. -/
def stagingFails (s : State) : State := if s.fld F.MGT_IMG_STATUS_STATE = 1 then s.setFld F.MGT_IMG_STATUS_STATE 0 else s

/-- Steward programs stop, to restart from their tick handlers (R466, R502). -/
def stopPrograms (s : State) : State :=
  ((List.range 16).foldl (fun s p =>
    if s.fld (F.STW_PROG_DATA_STATE.at p) = 1 then s.setFld (F.STW_PROG_DATA_STATE.at p) 3 else s) s).setFld F.MGT_MCTP_CAP_QUERY_READY 0

/-- What Winter state does to the work of island `n` at once (R244, R248, R298, R466). -/
def winterWork (s : State) (n : Nat) : State :=
  match n with
  | 1 =>
    let pulses := s.tim.pulses.each (fun _ => {}) (fun (p : Pulse) => { p with active := false })
    { s with tim := { s.tim with servo := servoWinter s.tim.servo, pulses := pulses } }
  | 2 => (List.range 4).foldl abandonTx s
  | 6 => (((s.tre.flight.map (fun f => f.2.1)).eraseDups).foldl (fun s e => s.trace 6 6 (epochCut e)) s).setFlight []
  | 7 => s.batchesLost
  | 8 => s.stagingFails.copiesFail
  | 9 => s.codDiscard
  | 10 => { s with dig := { s.dig with unmeasured := s.dig.unmeasured.filter (fun e => e != s.epoch) ++ [s.epoch] } }
  | 11 => s.arbToHead
  | 14 => s.abandonAll.stopPrograms
  | n => if 16 ≤ n then s.reissue (n - 16) else s

/-- The quiet period of island `n` starts anew (R468). -/
def restartQuiet (s : State) (n : Nat) : State :=
  s.setFld (F.STATUS_QUIET_LEFT_MS.at n) (s.fld (F.QUIET_PERIOD_MS.at n))

/-- Island `n` enters Winter state (R464, R465, R466): state, Winter bit, quiet period, trace message and trigger, and the end of its work. -/
def enterWinter (s : State) (n : Nat) : State :=
  let s := ((s.setFld (F.STATUS_STATE.at n) 1).restartQuiet n).pend n 1
  let s := s.trace n 1 (le 2 (s.fld (F.ERR_FIRST_DETECTOR.at n)))
  (s.trigger 1 n).winterWork n

/-! ### Injections (R472) -/

/-- An armed injection of island `n` and kind `k` fires: FIRED set, ARM cleared (R472). -/
def fireInject (s : State) (n : Nat) : State := (s.setFld (F.INJECT_FIRED.at n) 1).setFld (F.INJECT_ARM.at n) 0

/-- An injection of kind `k` is armed in island `n` (R472). -/
def injectArmed (s : State) (n k : Nat) : Bool := s.flag (F.INJECT_ARM.at n) && s.fld (F.INJECT_KIND.at n) == k

/-- NBITS of an injection, 0 treated as 1. -/
def injectBits (s : State) (n : Nat) : Nat := max 1 (s.fld (F.INJECT_NBITS.at n))

/-! ### Recording errors (R455 to R464) -/

/-- The class of a detector (R458). -/
def errorClass (code : Nat) : Nat :=
  match code with
  | 0x01 => 2 | 0x02 => 1 | 0x03 => 2 | 0x04 => 3 | 0x05 => 3 | 0x06 => 0 | 0x07 => 1 | 0x08 => 2 | 0x09 => 0 | 0x0A => 0 | 0x0B => 0
  | 0x0C => 1 | 0x0D => 2 | 0x0E => 1 | 0x0F => 2 | 0x10 => 3 | 0x11 => 3 | 0x12 => 3 | 0x13 => 3 | 0x14 => 0 | 0x15 => 2
  | _ => 0

/-- Errors of a class counted in the running interval (R457). -/
def errorCount (s : State) (cls n : Nat) : Nat := if cls = 1 then s.mgt.ceCount.get zero n else if cls = 2 then s.mgt.ueCount.get zero n else 0

/-- One more error of a class in the running interval. -/
def countError (s : State) (cls n : Nat) : State :=
  if cls = 1 then { s with mgt := { s.mgt with ceCount := s.mgt.ceCount.mod zero n (· + 1) } }
  else if cls = 2 then { s with mgt := { s.mgt with ueCount := s.mgt.ueCount.mod zero n (· + 1) } }
  else s

/-- The count of a class has reached the island's non-zero limit (R457). -/
def atLimit (s : State) (cls n : Nat) : Bool :=
  let lim := if cls = 1 then s.fld (F.QUIET_CE_LIMIT.at n) else if cls = 2 then s.fld (F.QUIET_UE_LIMIT.at n) else 0
  lim != 0 && decide (lim ≤ s.errorCount cls n)

/-- The first-error record written (R462). -/
def writeFirst (s : State) (n code cls loc : Nat) (inj winter limit : Bool) : State :=
  let s := s.setReg (F.ERR_FIRST_VALID.at n).addr
    (BitVec.ofNat 64 (code % 2 ^ 16 + 2 ^ 16 + b2n inj * 2 ^ 17 + b2n winter * 2 ^ 18 + b2n limit * 2 ^ 19 + cls % 4 * 2 ^ 20 +
      loc % 2 ^ 40 * 2 ^ 24))
  s.setFld (F.ERR_MERGED_FIRST_EPOCH.at n) s.epoch

/-- Island `n` records an error of class `cls` (R462, R463): as the first error, merged into it, or in its place when only the new one forces
Winter state. Its reaction, Winter state included, takes place in full. Nothing is recorded in island reset (R473) or by a disabled core
(R52). -/
def recordError (s : State) (n code cls loc : Nat) (inj : Bool) : State :=
  if s.istate n = 2 || s.disabled n then s
  else
    let s := (s.countError cls n).perf n 0x007 1
    let limit := s.atLimit cls n
    let forces := (limit || (cls == 3 && code != 0x10)) && n != 0 && s.works n
    let wasWinter := s.istate n == 1
    let s :=
      if !s.flag (F.ERR_FIRST_VALID.at n) then
        let s := (s.writeFirst n code cls loc inj forces (limit && forces)).pend n 0
        (s.trace n 4 (le 2 code ++ zeros 2 ++ le 8 (s.reg (F.ERR_FIRST_VALID.at n).addr).toNat)).trigger 2 n
      else if forces && !s.flag (F.ERR_FIRST_WINTER.at n) then
        let old := s.fld (F.ERR_FIRST_DETECTOR.at n)
        let s := (s.incFld (F.ERR_MERGED_COUNT.at n)).setFld (F.ERR_MERGED_LAST_DETECTOR.at n) old
        s.writeFirst n code cls loc inj forces (limit && forces)
      else (s.incFld (F.ERR_MERGED_COUNT.at n)).setFld (F.ERR_MERGED_LAST_DETECTOR.at n) code
    let s := if wasWinter then s.restartQuiet n else s
    if forces then s.enterWinter n else s

/-- An error of the class its detector has (R458). -/
def raise (s : State) (n code loc : Nat) : State := s.recordError n code (errorClass code) loc false

end State
end Sys2Proof.Machine
end

