-- ==== Sys2Proof/Machine/Ingest.lean ====
section
/-! DEFINITION. ING: record frames, reassembly, the header check, policing, sequence checks and queues (06). -/

namespace Sys2Proof.Machine
namespace State

/-! ### Frames (R148, R149) -/

/-- A frame discarded and counted (R147, R149). -/
def otherFrame (s : State) : State := s.incFld F.ING_STATUS_OTHER_FRAMES

end State

/-- The records of a packed frame's content (R148): up to its end or 8 zero bytes. A LENGTH below 4 takes the rest as one record, which
the header check refuses. -/
def packedRecords : Nat → Bytes → List Bytes
  | 0, _ => []
  | fuel + 1, bs =>
    if bs.isEmpty || (bs.take 8).all (· == 0) then []
    else
      let n := bytesAt bs 4 2 * 8
      if n < 32 then [bs] else bs.take n :: packedRecords fuel (bs.drop n)

namespace State

/-- Reassemblies in progress as the register shows them. -/
def setReasm (s : State) (l : List Reasm) : State :=
  ({ s with ing := { s.ing with reasm := l } }).setFld F.ING_STATUS_REASM_OPEN l.length

/-- A fragment joins its reassembly, the 257th one is discarded, and a complete record waits for the header check (R149). -/
def takeFragment (s : State) (first last : Bool) (frag src seq : Nat) (part : Bytes) : State :=
  let _ := first
  if s.ing.dead.contains (src, seq) then s
  else
    let cur := s.ing.reasm.find? (fun r => r.src == src && r.seq == seq)
    match cur, decide (256 ≤ s.ing.reasm.length) with
    | none, true => { s with ing := { s.ing with dead := ((src, seq) :: s.ing.dead).take 256 } }
    | cur, _ =>
      let r := cur.getD { src := src, seq := seq }
      let r := { r with frags := r.frags.put none' frag (some part), last := if last then some frag else r.last }
      let rest := s.ing.reasm.filter (fun x => !(x.src == src && x.seq == seq))
      match r.last with
      | none => s.setReasm (rest ++ [r])
      | some l =>
        if (List.range (l + 1)).all (fun i => (r.frags.get none' i).isSome) then
          let whole := ((List.range (l + 1)).map (fun i => (r.frags.get none' i).getD [])).flatten
          let s := s.setReasm rest
          { s with ing := { s.ing with arrived := s.ing.arrived ++ [whole] } }
        else s.setReasm (rest ++ [r])

/-- The oldest record frame taken (R147 to R149): in Winter state or reset of ING it is discarded and counted against the route. -/
def recordFrame (s : State) : State :=
  match s.ing.frames with
  | [] => s
  | f :: rest =>
    let s := { s with ing := { s.ing with frames := rest } }
    if !s.works 3 then s.routeDrop 2 3 0 0
    else if f.length < 16 || (crc32c (f.take 12)).toNat != bytesAt f 12 4 || bytesAt f 0 1 % 16 != 1 then s.otherFrame
    else
      let flags := bytesAt f 1 1
      let body := f.drop 16
      if bit flags 0 && bit flags 1 then
        { s with ing := { s.ing with arrived := s.ing.arrived ++ packedRecords body.length body } }
      else s.takeFragment (bit flags 0) (bit flags 1) (bytesAt f 2 2) (bytesAt f 4 4) (bytesAt f 8 4) body

/-- REASM_US has passed since the first fragment of a record: it is discarded, with every later fragment of it (R149). -/
def reassemblyTimeout (s : State) (src seq : Nat) : State :=
  if s.ing.reasm.any (fun r => r.src == src && r.seq == seq) then
    let s := s.setReasm (s.ing.reasm.filter (fun r => !(r.src == src && r.seq == seq)))
    { s with ing := { s.ing with dead := ((src, seq) :: s.ing.dead).take 256 } }
  else s

/-! ### Header check (R165) -/

/-- The number of the stream of a sender and CLASS (R154, R166). -/
def streamNo (s : State) (sender cls : Nat) : Option Nat :=
  s.image.streams.findIdx? (fun c => c.sender == sender && c.cls == cls)

/-- The first reason of R165 that a record fails for, 0 when it passes. -/
def headerFailure (s : State) (b : Bytes) (crcBad : Bool) : Nat :=
  let r := Rec.parse b
  let why := recReason b crcBad
  if why != 0 then why
  else if isReservedAddr r.src || (s.streamNo (senderOf r.src) r.cls).isNone then 7
  else if r.epoch + 64 < s.epoch || s.epoch + 1 < r.epoch then 8
  else 0

/-- A tally of a sender changed (R172). -/
def tally (s : State) (sender : Nat) (f : Tally → Tally) : State :=
  { s with ing := { s.ing with tallies := s.ing.tallies.mod (fun _ => {}) sender f } }

/-- A record dropped at ingest joins its sender's tally (R172). -/
def tallyDrop (s : State) (r : Rec) : State :=
  s.tally (senderOf r.src) (fun t => { t with dropped := t.dropped.add r.type r.epoch r.offset })

/-- The register field of a header failure's reason (R165). -/
def hdrErrField (reason : Nat) : Fld := { F.ING_HDR_ERR_REASON1 with lo := 8 * (reason - 1) }

/-- A header failure counted (R165); never an error of island 3. -/
def headerFailed (s : State) (b : Bytes) (reason : Nat) : State :=
  let s := s.incFld (hdrErrField reason)
  let r := Rec.parse b
  if b.length < 32 then s
  else match s.streamNo (senderOf r.src) r.cls with
    | some k => (s.incFld (F.ING_STREAM_CNT3_HDR_ERR.at k)).tallyDrop r
    | none => s

/-! ### Policing (R166, R167) -/

/-- The colour of a record of `n` bytes, and the buckets after it, in 1/1000 bit (RFC 2698): 0 green, 1 yellow, 2 red. -/
def police (s : State) (k n pre dt : Nat) : Nat × State :=
  let cir := s.fld (F.ING_STREAM_RATE_CIR.at k)
  let pir := max cir (s.fld (F.ING_STREAM_RATE_PIR.at k))
  let cbs := s.fld (F.ING_STREAM_BURST_CBS.at k) * 64 * 8 * 1000
  let pbs := max cbs (s.fld (F.ING_STREAM_BURST_PBS.at k) * 64 * 8 * 1000)
  let st := s.ing.streams.get (fun _ => {}) k
  let (c0, p0) := st.tokens.getD (cbs, pbs)
  let c := min cbs (c0 + cir * dt)
  let p := min pbs (p0 + pir * dt)
  let b := n * 8 * 1000
  let colour := if pre = 2 ∨ p < b then 2 else if pre = 1 ∨ c < b then 1 else 0
  let p' := if colour = 2 then p else p - b
  let c' := if colour = 0 then c - b else c
  (colour, { s with ing := { s.ing with streams := s.ing.streams.put (fun _ => {}) k { st with tokens := some (c', p') } } })

/-! ### Sequence check (R171) -/

/-- The sequence check of stream `k`: whether the record is accepted, and the state after it. -/
def checkSeq (s : State) (k seq sender : Nat) : Bool × State :=
  let st := s.ing.streams.get (fun _ => {}) k
  let put := fun (s : State) (x miss : Nat) =>
    ({ s with ing := { s.ing with streams := s.ing.streams.mod (fun _ => {}) k (fun t => { t with xSet := true, missing := miss }) } }).setFld
      (F.ING_STREAM_SEQ_EXPECTED.at k) x
  if !st.xSet then (true, put s ((seq + 1) % 2 ^ 32) 0)
  else
    let x := s.fld (F.ING_STREAM_SEQ_EXPECTED.at k)
    let d := (seq + 2 ^ 32 - x) % 2 ^ 32
    if d = 0 then (true, put s ((x + 1) % 2 ^ 32) (st.missing * 2 % 2 ^ 64))
    else if d < 2 ^ 31 then
      let miss := if d ≥ 64 then 2 ^ 64 - 2 else ((st.missing * 2 ^ d + (2 ^ d - 1)) * 2) % 2 ^ 64
      let s := (put s ((seq + 1) % 2 ^ 32) miss).addFld (F.ING_STREAM_CNT0_GAP.at k) d
      let s := if ((s.image.streams[k]?).map (fun c => c.cls)) = some 3 ∧ !s.stw.gapped.contains sender then
          { s with stw := { s.stw with gapped := s.stw.gapped ++ [sender] } } else s
      (true, s.tally sender (fun t => { t with gap := t.gap + (d : Int) }))
    else
      let back := 2 ^ 32 - d
      if back ≤ 64 && st.missing.testBit (back - 1) then
        let s := put s x (st.missing - 2 ^ (back - 1))
        let g := s.fld (F.ING_STREAM_CNT0_GAP.at k)
        (true, (s.setFld (F.ING_STREAM_CNT0_GAP.at k) (g - 1)).tally sender (fun t => { t with gap := t.gap - 1 }))
      else (false, s.incFld (F.ING_STREAM_SEQ_DUP.at k))

/-! ### Queueing (R168 to R170, R172) -/

/-- The level whose epochs a record belongs to: 0 node, 1 group, 2 system (R174). -/
def levelOfRecord (r : Rec) : Nat :=
  if isLevelAddr r.src then (if unitOf r.src = 2047 then 1 else 2) else 0

/-- A record arrives for an epoch already closed at its level (R170). -/
def closedAt (s : State) (r : Rec) : Bool :=
  s.aln.epochs.any (fun e => e.level == levelOfRecord r && e.st != 0 && decide (r.epoch ≤ e.epoch))

/-- The SHAPER_DROP counts of a KIND 0 Loss marker (R172). -/
def shaperDrops (s : State) (r : Rec) : State :=
  if r.type != 0x0B || bytesAt r.body 0 1 != 0 then s
  else
    let f := bytesAt r.body 76 4
    let sender := if f = 0 then senderOf r.src else f
    (List.range 11).foldl (fun s i =>
      let n := bytesAt r.body (32 + 4 * i) 4
      if n = 0 then s
      else
        let s := s.tally sender (fun t => { t with shaper := t.shaper + n })
        match s.streamNo sender (potikLevel (i + 1)) with
        | some k => s.addFld (F.ING_STREAM_CNT3_SHAPER_DROP.at k) n
        | none => s) s

/-- The record put into its queue, LATE set for an epoch already closed (R168, R170). -/
def enqueueIngest (s : State) (k q : Nat) (r : Rec) : State :=
  let late := s.closedAt r
  let s := if late then s.incFld (F.ING_STREAM_CNT2_LATE.at k) else s
  { s with ing := { s.ing with queues := s.ing.queues.mod nil q (fun l => l ++ [r.withFlagIf late flagLate]) } }

/-- A record dropped with a count; a dropped Loss marker marks its sender's epoch (R168). -/
def dropIngest (s : State) (k : Nat) (f : Fld) (r : Rec) : State :=
  let s := (s.incFld (f.at k)).tallyDrop r
  if r.type == 0x0B then s.tally (senderOf r.src) (fun t => { t with unknown := true }) else s

/-- The treatment of a colour (R168). -/
def treatColour (s : State) (k colour : Nat) (r : Rec) : State :=
  let q := s.fld (F.ING_STREAM_KEY_QUEUE.at k)
  let depth := s.fld (F.ING_QUEUE_DATA_DEPTH_KIB.at q) * 1024
  let used := recsSize (s.ing.queues.get nil q)
  let s := s.perf 3 0x101 (b2n (colour == 2))
  if colour = 2 ∧ r.type ≠ 0x0B then s.dropIngest k F.ING_STREAM_CNT1_RED r
  else
    let s := if colour = 2 then s.incFld (F.ING_STREAM_CNT3_RED_KEPT.at k) else s
    if colour = 1 ∧ depth * s.fld F.ING_CFG_YELLOW_LIMIT ≤ used * 100 then s.dropIngest k F.ING_STREAM_CNT1_YELLOW r
    else if depth < used + r.size then s.dropIngest k F.ING_STREAM_CNT2_QUEUE_FULL r
    else s.enqueueIngest k q r

/-- The oldest parsed record: header check, policing, sequence check and queueing (R165 to R172). -/
def recordIngest (s : State) (dt : Nat) : State :=
  match s.ing.arrived with
  | [] => s
  | b :: rest =>
    let s := { s with ing := { s.ing with arrived := rest } }
    if !s.works 3 then s.routeDrop 2 3 0 0
    else
      let inj := s.injectArmed 3 5
      let s := if inj then s.fireInject 3 else s
      let why := s.headerFailure b inj
      if why != 0 then s.headerFailed b why
      else
        let r := Rec.parse b
        let sender := senderOf r.src
        match s.streamNo sender r.cls with
        | none => s
        | some k =>
          let s := if isLevelAddr sender then s
            else { s with ing := { s.ing with heard := if s.ing.heard.contains (slotOf sender) then s.ing.heard else slotOf sender :: s.ing.heard } }
          let pre := if s.flag (F.ING_STREAM_KEY_COLOUR_AWARE.at k) then s.image.colours.getD r.cls 0 else 0
          let (colour, s) := s.police k r.size pre dt
          let unarmed := r.type == 0x0D && !s.stw.armed.contains (slotOf sender)
          let (ok, s) := if s.flag (F.ING_STREAM_KEY_SEQ_CHECK.at k) && !unarmed then s.checkSeq k r.seq sender else (true, s)
          if ok then (((s.incFld (F.ING_STREAM_CNT0_RECEIVED.at k)).perf 3 0x100 1).shaperDrops r).treatColour k colour r else s

end State

/-- RECORD_FRAME (R148). -/
def execRecordFrame (s : State) : Host.Outcome State Fault Refusal := s.run (fun s => s.recordFrame)

/-- REASSEMBLY_TIMEOUT (R149). -/
def execReassemblyTimeout (src seq : Nat) (s : State) : Host.Outcome State Fault Refusal :=
  s.run (fun s => s.reassemblyTimeout src seq)

/-- RECORD_INGEST (R165). -/
def execRecordIngest (dt : Nat) (s : State) : Host.Outcome State Fault Refusal := s.run (fun s => s.recordIngest dt)

end Sys2Proof.Machine
end

