-- ==== Sys2Proof/Machine/Reduce.lean ====
section
/-! DEFINITION. The reduction operators of R185 to R188 and the Summary layout of R191. -/

namespace Sys2Proof.Machine

/-- EFLAGS bits of R191. -/
abbrev eSat : Nat := 0
abbrev eWrap : Nat := 1
abbrev eRaw : Nat := 2
abbrev eHalted : Nat := 3
abbrev eStretch : Nat := 4
abbrev ePoison : Nat := 5

/-- A flag set in a flag word. -/
def orBit (v i : Nat) : Nat := if v.testBit i then v else v + 2 ^ i

/-- The order key of an input (R185): clamped to signed 32 bits, sign bit inverted, read as unsigned. -/
def orderKey (v : Int) : Nat := (clampSigned 32 v + 2 ^ 31).toNat

/-! ### SKETCH (R186) -/

/-- A node's count. -/
def nodeCount (ns : Tab Nat) (v : Nat) : Nat := ns.get zero v

/-- One sibling pair of the compression. -/
def sketchPair (t : Nat) (ns : Tab Nat) (v : Nat) : Tab Nat :=
  let w := if v % 2 = 0 then v + 1 else v - 1
  let p := v / 2
  let c := nodeCount ns v + nodeCount ns w + nodeCount ns p
  if c ≤ t then ((ns.put zero p c).put zero v 0).put zero w 0 else ns

/-- The parents of the nodes held at a depth, ascending, each once. -/
def parentsAt (depth : Nat) (ns : Tab Nat) : List Nat :=
  (ns.filterMap (fun e => if 2 ^ depth ≤ e.1 ∧ e.1 < 2 ^ (depth + 1) then some (e.1 / 2) else none)).foldl
    (fun l p => if l.getLast? = some p then l else l ++ [p]) []

/-- The compression of a digest of `n` inputs (R186), from depth 32 to 1. -/
def sketchCompress (n : Nat) (ns : Tab Nat) : Tab Nat :=
  (List.range 32).foldl (fun ns i => (parentsAt (32 - i) ns).foldl (fun ns p => sketchPair (n / 8192) ns (2 * p)) ns) ns

/-- A node's count raised, stopping at 2^31 − 1. -/
def nodeAdd (ns : Tab Nat) (v c : Nat) : Tab Nat := ns.mod zero v (fun x => min (2 ^ 31 - 1) (x + c))

/-! ### Inputs and merges -/

/-- `k` most extreme entries of two lists, the first list's first on a tie. -/
def mergeTops (largest : Bool) (k : Nat) : Nat → List (Int × Nat × Nat) → List (Int × Nat × Nat) → List (Int × Nat × Nat)
  | 0, _, _ => []
  | _ + 1, [], b => b.take k
  | _ + 1, a, [] => a.take k
  | fuel + 1, x :: a, y :: b =>
    if k = 0 then []
    else if (if largest then decide (y.1 ≤ x.1) else decide (x.1 ≤ y.1)) then x :: mergeTops largest (k - 1) fuel a (y :: b)
    else y :: mergeTops largest (k - 1) fuel (x :: a) b

/-- An empty result of a quantity. -/
def Agg.empty (q : Quantity) : Agg :=
  { op := q.op, k := q.k, bins := if q.op = 6 then List.replicate (q.edges.length + 1) 0 else [] }

/-- The HIST bin of a key: the number of edges at or below it. -/
def histBin (edges : List Nat) (key : Nat) : Nat := (edges.filter (fun e => decide (e ≤ key))).length

/-- Bin `i` raised by `c`, stopping at 0xFFFF_FFFF; whether it stopped. -/
def binAdd (bins : List Nat) (i c : Nat) : List Nat × Bool :=
  let v := bins.getD i 0 + c
  (bins.set i (min 0xFFFFFFFF v), decide (0xFFFFFFFF < v))

/-- An input enters a result (R185). -/
def Agg.input (q : Quantity) (a : Agg) (i : AInput) : Agg :=
  let big := decide ((2 ^ 63 - 1 : Int) < i.value)
  let x : Int := if big then 2 ^ 63 - 1 else i.value
  let f := (if big then orBit i.eflags eSat else i.eflags) ||| a.eflags
  let a := { a with eflags := f }
  match q.op with
  | 0 => { a with val := a.val + x, some := true }
  | 1 =>
    let y := max (-(2 ^ 31 - 1 : Int)) (min (2 ^ 31 - 1) x)
    { a with val := a.val + y * y, eflags := if y = x then a.eflags else orBit a.eflags eSat, some := true }
  | 2 => { a with val := a.val + 1, some := true }
  | 3 => if a.some = false ∨ x < a.val then { a with val := x, src := i.src, some := true } else a
  | 4 => if a.some = false ∨ a.val < x then { a with val := x, src := i.src, some := true } else a
  | 5 => { a with val := ((toField 64 a.val ||| toField 64 x : Nat) : Int), some := true }
  | 6 =>
    let (b, sat) := binAdd a.bins (histBin q.edges (orderKey x)) 1
    { a with bins := b, eflags := if sat then orBit a.eflags eSat else a.eflags, some := true }
  | 7 => { a with n := a.n + 1, nodes := nodeAdd a.nodes (2 ^ 32 + orderKey x) 1, some := true }
  | 8 => { a with tops := mergeTops true q.k (q.k + 1) a.tops [(x, i.src, 0)], some := true }
  | 9 => { a with tops := mergeTops false q.k (q.k + 1) a.tops [(x, i.src, 0)], some := true }
  | _ => a

/-- Two results merged, `a` first (R188, R189). -/
def Agg.merge (a b : Agg) : Agg :=
  if !b.some then { a with eflags := a.eflags ||| b.eflags }
  else if !a.some then { b with eflags := a.eflags ||| b.eflags }
  else
    let c := { a with eflags := a.eflags ||| b.eflags }
    match a.op with
    | 0 => { c with val := a.val + b.val }
    | 1 => { c with val := a.val + b.val }
    | 2 => { c with val := a.val + b.val }
    | 3 => if b.val < a.val then { c with val := b.val, src := b.src, span := b.span } else c
    | 4 => if a.val < b.val then { c with val := b.val, src := b.src, span := b.span } else c
    | 5 => { c with val := ((toField 64 a.val ||| toField 64 b.val : Nat) : Int) }
    | 6 =>
      let bins := List.zipWith (fun x y => x + y) a.bins b.bins
      { c with bins := bins.map (min 0xFFFFFFFF),
               eflags := if bins.any (fun v => decide (0xFFFFFFFF < v)) then orBit c.eflags eSat else c.eflags }
    | 7 =>
      let ns := b.nodes.foldl (fun ns e => nodeAdd ns e.1 e.2) a.nodes
      { c with n := a.n + b.n, nodes := sketchCompress (a.n + b.n) ns }
    | 8 => { c with tops := mergeTops true a.k (a.k + 1) a.tops b.tops }
    | 9 => { c with tops := mergeTops false a.k (a.k + 1) a.tops b.tops }
    | _ => c

/-- The inputs of one sender reduced (R186: a digest is compressed after them). -/
def Agg.ofInputs (q : Quantity) (is : List AInput) : Agg :=
  let a := is.foldl (Agg.input q) (Agg.empty q)
  if q.op = 7 then { a with nodes := sketchCompress a.n a.nodes } else a

/-- A result whose entries' epochs within the span are moved by `d` epochs (R188). -/
def Agg.shift (a : Agg) (d : Nat) : Agg :=
  { a with span := a.span + d, tops := a.tops.map (fun t => (t.1, t.2.1, t.2.2 + d)) }

/-! ### The Summary record (R191) -/

/-- A result's payload, and SAT when the output clamps (R185, R191). -/
def Agg.payload (a : Agg) : Bytes × Bool :=
  match a.op with
  | 0 => let v := clampSigned 64 a.val; (le 8 (toField 64 v), v != a.val)
  | 1 => let v := min (2 ^ 64 - 1) a.val; (le 8 v.toNat, v != a.val)
  | 2 => (le 8 a.val.toNat, false)
  | 3 => (le 8 (toField 64 a.val) ++ le 4 a.src ++ le 1 a.span ++ zeros 3, false)
  | 4 => (le 8 (toField 64 a.val) ++ le 4 a.src ++ le 1 a.span ++ zeros 3, false)
  | 5 => (le 8 (toField 64 a.val), false)
  | 6 => (pad8 ((a.bins.map (le 4)).flatten), false)
  | 7 => (le 8 a.n ++ le 4 a.nodes.length ++ zeros 4 ++ (a.nodes.map (fun e => le 8 (e.1 + e.2 * 2 ^ 33))).flatten, false)
  | 15 => (le 4 (toField 32 a.val) ++ le 1 a.src ++ zeros 3, false)
  | _ => (le 2 a.k ++ le 2 a.tops.length ++ zeros 4 ++
      (a.tops.map (fun t => le 8 (toField 64 t.1) ++ le 4 t.2.1 ++ le 1 t.2.2 ++ zeros 3)).flatten, false)

/-- One entry: header and payload. -/
def entryBytes (number : Nat) (a : Agg) : Bytes :=
  let (p, sat) := a.payload
  le 2 number ++ le 1 a.op ++ le 1 (if sat then orBit a.eflags eSat else a.eflags) ++ le 4 p.length ++ p

/-- The body of a Summary. -/
def SumBody.bytes (b : SumBody) : Bytes :=
  le 1 b.kind ++ le 1 b.level ++ le 1 b.res ++ zeros 1 ++ le 2 b.plan ++ le 2 b.entries.length ++ le 4 b.expected ++ le 4 b.present ++
  le 4 (b.expected - b.present) ++ le 4 b.poisoned ++ le 4 b.lateIn ++ le 4 b.lost ++
  (b.entries.map (fun e => entryBytes e.1 e.2)).flatten

/-- Header flags of a Summary (R191). -/
def SumBody.flags (b : SumBody) : Nat :=
  let any := fun i => b.entries.any (fun e => bit e.2.eflags i || (i == eSat && e.2.payload.2))
  b2n (decide (b.present < b.expected) || decide (0 < b.lost) || b.loss) * 2 ^ flagLoss + b2n (b.kind == 1) * 2 ^ flagLate +
  b2n (decide (0 < b.res)) * 2 ^ flagCoarse + b2n (any eHalted) * 2 ^ flagHalted + b2n (any eStretch) * 2 ^ flagStretch +
  b2n (any ePoison) * 2 ^ flagPoison + b2n (any eWrap) * 2 ^ flagWrap + b2n (any eSat) * 2 ^ flagSat

/-- A result read back from an entry's payload. -/
def Agg.parse (op eflags : Nat) (p : Bytes) : Agg :=
  let a : Agg := { op := op, eflags := eflags, some := true }
  match op with
  | 0 => { a with val := asSigned 64 (bytesAt p 0 8) }
  | 1 => { a with val := (bytesAt p 0 8 : Nat) }
  | 2 => { a with val := (bytesAt p 0 8 : Nat) }
  | 3 => { a with val := asSigned 64 (bytesAt p 0 8), src := bytesAt p 8 4, span := bytesAt p 12 1 }
  | 4 => { a with val := asSigned 64 (bytesAt p 0 8), src := bytesAt p 8 4, span := bytesAt p 12 1 }
  | 5 => { a with val := (bytesAt p 0 8 : Nat) }
  | 6 => { a with bins := (List.range (p.length / 4)).map (fun i => bytesAt p (4 * i) 4) }
  | 7 => { a with n := bytesAt p 0 8,
                  nodes := (List.range (bytesAt p 8 4)).map (fun i => (bytesAt p (16 + 8 * i) 8 % 2 ^ 33, bytesAt p (16 + 8 * i) 8 / 2 ^ 33)) }
  | 15 => { a with val := asSigned 32 (bytesAt p 0 4), src := bytesAt p 4 1 }
  | _ => { a with k := bytesAt p 0 2,
                  tops := (List.range (bytesAt p 2 2)).map (fun i =>
                    (asSigned 64 (bytesAt p (8 + 16 * i) 8), bytesAt p (16 + 16 * i) 4, bytesAt p (20 + 16 * i) 1)) }

/-- The entries of a Summary body from byte `i` on. -/
def parseEntries : Nat → Bytes → List (Nat × Agg)
  | 0, _ => []
  | n + 1, b =>
    let len := bytesAt b 4 4
    (bytesAt b 0 2, Agg.parse (bytesAt b 2 1 % 16) (bytesAt b 3 1 % 64) ((b.drop 8).take len)) :: parseEntries n (b.drop (8 + len))

/-- A Summary record read (R191). -/
def SumBody.ofRec (r : Rec) : SumBody :=
  let b := r.body
  { kind := bytesAt b 0 1, level := bytesAt b 1 1 % 4, res := bytesAt b 2 1 % 8, plan := bytesAt b 4 2, epoch := r.epoch,
    expected := bytesAt b 8 4, present := bytesAt b 12 4, poisoned := bytesAt b 20 4, lateIn := bytesAt b 24 4, lost := bytesAt b 28 4,
    quality := r.quality, loss := r.flag flagLoss, entries := parseEntries (bytesAt b 6 2) (b.drop 32) }

/-- The quality of merged contributions (R191): byte 22 ORed, the nibbles of byte 23 at their largest. -/
def mergeQuality (a b : Nat) : Nat :=
  (a % 256 ||| b % 256) + max (a / 256 % 16) (b / 256 % 16) * 256 + max (a / 4096 % 16) (b / 4096 % 16) * 4096

/-- Entries merged by quantity number, those of `xs` first; quantities of one list alone are kept. -/
def mergeEntries (xs ys : List (Nat × Agg)) : List (Nat × Agg) :=
  xs.map (fun e => match ys.find? (fun f => f.1 == e.1) with | some f => (e.1, e.2.merge f.2) | none => e) ++
  ys.filter (fun f => !(xs.any (fun e => e.1 == f.1)))

/-- Two Summaries of consecutive spans merged, the earlier first (R188, R194): the counts are summed over the span. -/
def SumBody.merge (a b : SumBody) : SumBody :=
  let d := b.epoch - a.epoch
  { a with
    expected := a.expected + b.expected, present := a.present + b.present, poisoned := a.poisoned + b.poisoned
    lateIn := a.lateIn + b.lateIn, lost := a.lost + b.lost, quality := mergeQuality a.quality b.quality, loss := a.loss || b.loss
    entries := mergeEntries a.entries (b.entries.map (fun e => (e.1, e.2.shift d))) }

/-- A sender's late supplement merged into its primary (R184): the same epoch, so nothing moves, and the sender's counts join. -/
def SumBody.supplement (a b : SumBody) : SumBody :=
  { a with present := a.present + b.present, poisoned := a.poisoned + b.poisoned, lateIn := a.lateIn + b.present
           quality := mergeQuality a.quality b.quality, entries := mergeEntries a.entries b.entries }

end Sys2Proof.Machine
end

