-- ==== Sys2Proof/Machine/Codec.lean ====
section
/-! DEFINITION. Run-length blocks (R361 to R365, R369): the coder, the decoder and the 16-byte block header. -/

namespace Sys2Proof.Machine

/-- The elements of `w` bytes that a byte string spells; `fuel` bounds them. -/
def elements (w : Nat) : Nat → Bytes → List Nat
  | 0, _ => []
  | fuel + 1, bs => if bs.isEmpty then [] else bytesAt bs 0 w :: elements w fuel (bs.drop w)

/-- Length of the longest run of `x` at the head of a list. -/
def runOf (x : Nat) : List Nat → Nat
  | [] => 0
  | y :: ys => if y = x then runOf x ys + 1 else 0

/-- The lowest dictionary index that holds `x` in its low `w` bytes. -/
def dictIndex (w : Nat) (dict : List Nat) (x : Nat) : Option Nat := dict.findIdx? (fun d => d % 2 ^ (8 * w) == x)

/-- x − p read as signed lies from −8 to +7 (R363). -/
def smallStep (w p x : Nat) : Bool :=
  let d := asSigned (8 * w) (x + 2 ^ (8 * w) - p)
  decide (-8 ≤ d) && decide (d ≤ 7)

/-- One of rules 1 to 4 applies to `x` after `p`. -/
def tokenApplies (w : Nat) (dict : List Nat) (p x : Nat) : Bool :=
  x == 0 || x == p || (dictIndex w dict x).isSome || smallStep w p x

/-- The elements a literal collects (rule 5), at most `room`. -/
def literalRun (w : Nat) (dict : List Nat) : Nat → Nat → List Nat → List Nat
  | 0, _, _ => []
  | _ + 1, _, [] => []
  | room + 1, p, x :: xs => if tokenApplies w dict p x then [] else x :: literalRun w dict room x xs

/-- One token of a run of `n` (at most 65,600): the short form with `short` in the two highest bits, or the long form `long`. -/
def runToken (short long n : Nat) : Bytes := if n ≤ 64 then le 1 (short + n - 1) else le 1 long ++ le 2 (n - 65)

/-- The tokens of R363 without END; `fuel` bounds them. -/
def codeTokens (w : Nat) (dict : List Nat) : Nat → Nat → List Nat → Bytes
  | 0, _, _ => []
  | _ + 1, _, [] => []
  | fuel + 1, p, x :: xs =>
    if x = 0 then
      let n := min 65600 (runOf 0 (x :: xs))
      runToken 0 0xF0 n ++ codeTokens w dict fuel 0 ((x :: xs).drop n)
    else if x = p then
      let n := min 65600 (runOf p (x :: xs))
      runToken 0x40 0xF1 n ++ codeTokens w dict fuel p ((x :: xs).drop n)
    else match dictIndex w dict x with
      | some i => (if i < 64 then le 1 (0x80 + i) else [0xF2] ++ le 1 i) ++ codeTokens w dict fuel x xs
      | none =>
        if smallStep w p x then
          le 1 (0xE0 + toField 4 (asSigned (8 * w) (x + 2 ^ (8 * w) - p) + 8)) ++ codeTokens w dict fuel x xs
        else
          let l := literalRun w dict 65568 p (x :: xs)
          let n := l.length
          (if n ≤ 32 then le 1 (0xC0 + n - 1) else [0xF3] ++ le 2 (n - 33)) ++ (l.map (le w)).flatten ++
            codeTokens w dict fuel (l.getLast?.getD p) ((x :: xs).drop n)

/-- The tokens of a byte string, END included (R363). -/
def tokensOf (w : Nat) (dict : List Nat) (raw : Bytes) : Bytes :=
  codeTokens w dict (raw.length + 1) 0 (elements w (raw.length + 1) raw) ++ [0xFF]

/-- Element width of an ELEM code (R361). -/
def elemWidth (e : Nat) : Nat := 2 ^ (e % 4)

/-- A block (R361, R364): header and tokens, or the data itself when coding does not shrink it. -/
def encodeBlock (elem tgen : Nat) (dict : List Nat) (raw : Bytes) : Bytes :=
  let t := tokensOf (elemWidth elem) dict raw
  let stored := decide (raw.length ≤ t.length)
  let body := if stored then raw else t
  le 1 (elem % 4 + b2n stored * 4 + tgen % 4 * 8) ++ zeros 3 ++ le 4 raw.length ++ le 4 body.length ++ le 4 (crc32c raw).toNat ++ body

/-- A block is stored raw. -/
def blockRaw (b : Bytes) : Bool := bit (bytesAt b 0 1) 2

/-- TGEN of a block. -/
def blockTgen (b : Bytes) : Nat := bytesAt b 0 1 / 8 % 4

/-- RAW_LEN of a block. -/
def blockRawLen (b : Bytes) : Nat := bytesAt b 4 4

/-- What a first byte announces: bytes of count or index that follow, and whether it is reserved. -/
def tokenArgs (t : Nat) : Option Nat :=
  if t < 0xF0 then some 0 else if t = 0xF0 ∨ t = 0xF1 ∨ t = 0xF3 then some 2 else if t = 0xF2 then some 1 else if t = 0xFF then some 0 else none

/-- What one token does (R369, steps 2 to 7). -/
inductive TokenStep where
  /-- The block ends with a status. -/
  | done (status : Nat)
  /-- Bytes produced, the element after them as the previous one, and the bytes left. -/
  | more (made : Bytes) (prev : Nat) (rest : Bytes)
deriving DecidableEq, Repr

/-- `n` copies of element `x`, unless they pass `room` bytes. -/
def copies (w room x n : Nat) (rest : Bytes) : TokenStep :=
  if room < n * w then .done 4 else .more ((List.replicate n (le w x)).flatten) x rest

/-- `n` literal elements. -/
def literals (w room n : Nat) (rest : Bytes) : TokenStep :=
  if room < n * w then .done 4
  else if rest.length < n * w then .done 3
  else .more (rest.take (n * w)) (bytesAt rest ((n - 1) * w) w) (rest.drop (n * w))

/-- Dictionary entry `i`. -/
def dictEntry (w room : Nat) (dict : List Nat) (i : Nat) (rest : Bytes) : TokenStep :=
  match dict[i]? with
  | none => .done 3
  | some d => copies w room (d % 2 ^ (8 * w)) 1 rest

/-- The token with first byte `t`, argument `a` and bytes `rest` after them. -/
def tokenStep (w : Nat) (dict : List Nat) (room p t a : Nat) (rest : Bytes) : TokenStep :=
  if t < 0x40 then copies w room 0 (t + 1) rest
  else if t < 0x80 then copies w room p (t - 0x40 + 1) rest
  else if t < 0xC0 then dictEntry w room dict (t - 0x80) rest
  else if t < 0xE0 then literals w room (t - 0xC0 + 1) rest
  else if t < 0xF0 then copies w room ((p + (t - 0xE0) + 2 ^ (8 * w) - 8) % 2 ^ (8 * w)) 1 rest
  else if t = 0xF0 then copies w room 0 (a + 65) rest
  else if t = 0xF1 then copies w room p (a + 65) rest
  else if t = 0xF2 then dictEntry w room dict a rest
  else if t = 0xF3 then literals w room (a + 33) rest
  else .done (if !rest.isEmpty then 3 else if 0 < room then 5 else 0)

/-- The tokens run until the block ends: its status and the decoded bytes; `room` is what RAW_LEN still leaves. -/
def runTokens (w : Nat) (dict : List Nat) : Nat → Nat → Nat → Bytes → Nat × Bytes
  | 0, _, _, _ => (3, [])
  | _ + 1, room, _, [] => (if 0 < room then 5 else 3, [])
  | fuel + 1, room, p, b :: bs =>
    match tokenArgs b.toNat with
    | none => (3, [])
    | some k =>
      if bs.length < k then (3, [])
      else match tokenStep w dict room p b.toNat (bytesAt bs 0 k) (bs.drop k) with
        | .done st => (st, [])
        | .more made q rest =>
          let r := runTokens w dict fuel (room - made.length) q rest
          (r.1, made ++ r.2)

/-- The status of a block whose dictionary is `dict`, none when its generation is not resident, and the decoded bytes (R369). `tgen` is the
record header's TGEN. -/
def decodeBlock (tgen : Nat) (dict : Option (List Nat)) (b : Bytes) : Nat × Bytes :=
  let h := bytesAt b 0 1
  let raw := blockRawLen b
  let coded := bytesAt b 8 4
  let w := elemWidth h
  if b.length < 16 || h / 32 != 0 || bytesAt b 1 3 != 0 || decide (raw < 8) || decide (16777216 < raw) || raw % 8 != 0 || raw % w != 0 ||
     decide (b.length < 16 + coded) || (bit h 2 && coded != raw) || blockTgen b != tgen then (1, [])
  else match dict with
    | none => (2, [])
    | some d =>
      let body := (b.drop 16).take coded
      let (st, out) := if bit h 2 then (0, body) else runTokens w d (coded + 1) raw 0 body
      if st != 0 then (st, out)
      else if (crc32c out).toNat != bytesAt b 12 4 then (6, out) else (0, out)

end Sys2Proof.Machine
end

