-- ==== Sys2Proof/Machine/Shadow.lean ====
section
/-! DEFINITION. An armed commit's shadows (R425 to R427, R429, R431): what becomes ready, what is lost, deferral and failure. -/

namespace Sys2Proof.Machine
namespace State

/-- STATE of STB_MGT_IMG_STATUS: 0 EMPTY, 1 STAGING, 2 STAGED, 3 VERIFYING, 4 VERIFIED, 5 LOADING, 6 READY, 7 FAILED. -/
def imgState (s : State) : Nat := s.fld F.MGT_IMG_STATUS_STATE

/-- STATE set; reaching VERIFIED or FAILED raises island 0's interrupt (R496). -/
def setImgState (s : State) (st : Nat) : State :=
  if s.imgState = st then s
  else
    let s := s.setFld F.MGT_IMG_STATUS_STATE st
    if st = 4 ∨ st = 7 then s.pend 0 10 else s

/-- A commit is armed: LOADING or READY. -/
def commitArmed (s : State) : Bool := s.imgState == 5 || s.imgState == 6

/-- Island `n`'s shadow is ready. -/
def shadowReady (s : State) (n : Nat) : Bool :=
  if n < 64 then bit (s.fld F.MGT_IMG_SHADOW0_READY) n else bit (s.fld F.MGT_IMG_SHADOW1_READY) (n - 64)

/-- Its bit of STB_MGT_IMG_SHADOW0 or SHADOW1. -/
def setShadow (s : State) (n : Nat) (on : Bool) : State :=
  let f := if n < 64 then F.MGT_IMG_SHADOW0_READY else F.MGT_IMG_SHADOW1_READY
  let k := if n < 64 then n else n - 64
  let v := s.fld f
  if bit v k = on then s else s.setFld f (if on then v + 2 ^ k else v - 2 ^ k)

/-- Every shadow is ready. -/
def allShadows (s : State) : Bool := (List.range 100).all s.shadowReady

/-- Every shadow discarded. -/
def clearShadows (s : State) : State :=
  let s := (s.setFld F.MGT_IMG_SHADOW0_READY 0).setFld F.MGT_IMG_SHADOW1_READY 0
  { s with tre := { s.tre with shadow := false }, mgt := { s.mgt with fixed := false } }

/-- Verification or the commit fails (R424): state FAILED and its reason; `entry` is the section table entry at fault, 0x7F none. -/
def imgFail (s : State) (reason entry : Nat) : State :=
  (((s.setFld F.MGT_IMG_STATUS_REASON reason).setFld F.MGT_IMG_STATUS_SECTION entry).setFld F.MGT_IMG_COMMIT_ARM 0).setImgState 7

/-- An armed commit fails: its shadows are discarded, and the running image is untouched (R427). -/
def commitFail (s : State) (reason : Nat) : State := s.clearShadows.imgFail reason 0x7F

/-- The fleet time of the tick that opens epoch `e` under the running schedule (R76). -/
def tickTime (s : State) (e : Nat) : Option Int :=
  s.tim.sched.map (fun c => c.t0 + ((e : Int) - (c.e0 : Int)) * (c.p : Int) * 65536)

/-- A commit aimed at the tick of epoch `e` breaks its new schedule's T0 (R77). -/
def pastSchedule (s : State) (e : Nat) : Bool :=
  match s.mgt.verified, s.tim.sched with
  | some im, some c =>
    match im.sched with
    | some n => n.p != c.p && (match s.tickTime e with | some t => decide (n.t0 < t) | none => false)
    | none => false
  | _, _ => false

/-- The commit moves to the tick of epoch `e`: counted, and failed after DEFER_MAX deferrals or past its schedule's T0 (R427). -/
def commitDefer (s : State) (e : Nat) : State :=
  if s.fld F.MGT_IMG_COMMIT_DEFER_MAX ≤ s.mgt.deferrals then s.commitFail 14
  else
    let isl := ((List.range 100).find? (fun n => !s.shadowReady n)).getD 0
    let s := (s.incFld F.MGT_IMG_STATUS_DEFERRED).setFld F.MGT_IMG_STATUS_ISLAND isl
    let s := { s with mgt := { s.mgt with deferrals := s.mgt.deferrals + 1, aim := e, fixed := false } }
    if s.pastSchedule e then s.commitFail 10 else s

/-- An island reset during an armed commit (R429, R431): the island's shadow is lost, and in the tick window the commit is deferred. -/
def shadowLost (s : State) (n : Nat) : State :=
  if !s.commitArmed then s
  else
    let s := (s.setShadow n false).setImgState 5
    let s := if n = 6 then { s with tre := { s.tre with shadow := false } } else s
    if s.mgt.fixed then s.commitDefer (s.mgt.aim + 1) else s

end State
end Sys2Proof.Machine
end

