-- ==== Sys2Proof/Machine/Store.lean ====
section
/-! DEFINITION. STO and COD: the shared store, the region map, the memory ports, dictionaries and the archive (14, R41, R42). -/

namespace Sys2Proof.Machine

/-- The island that may write a region of a kind (R355). -/
def writerOf (kind : Nat) : Nat :=
  match kind with
  | 0 => 0 | 1 => 3 | 2 => 12 | 3 => 12 | 4 => 5 | 5 => 4 | 6 => 6 | 7 => 14 | 8 => 14 | 9 => 14 | 10 => 14 | 11 => 6 | 12 => 13
  | 13 => 11 | 14 => 14 | 15 => 14 | 16 => 9 | 17 => 14 | 18 => 9 | 19 => 12
  | _ => 127

/-- Region 0, which no image moves (R355). -/
def staging : Region := { kind := 0, base := 0xF00000000, size := 0x100000000 }

/-- A region of the shared store holds an address. -/
def Region.holds (r : Region) (a : Nat) : Bool := !r.external && decide (r.base ≤ a) && decide (a < r.base + r.size)

namespace State

/-! ### Words (R351 to R354) -/

/-- STB_STO_ERR_LOC, and the counts of R352. -/
def wordError (s : State) (a kind : Nat) : State :=
  let layer := a / 2 ^ 33 % 8
  let s := s.setReg F.STO_ERR_LOC_WORD.addr (BitVec.ofNat 64 (a / 8 % 2 ^ 33 + layer * 2 ^ 33 + kind * 2 ^ 36))
  if kind = 1 then (s.incFld F.STO_ECC_CE).perf 8 0x100 1 else s.incFld F.STO_ECC_UE

/-- The outcome of checking the word at `a` (R352, R354): 0 clean, 1 corrected, 2 uncorrectable. The error is STO's own (R455, R474). -/
def checkWord (s : State) (a errs : Nat) (inj : Bool) : State :=
  match errs with
  | 0 => s
  | 1 => (s.wordError a 1).recordError 8 7 1 (a / 8 % 2 ^ 33) inj
  | _ =>
    let s := { s with sto := { s.sto with poison := s.sto.poison.put no (a / 8) true } }
    ((s.wordError a 2).pend 8 8).recordError 8 8 2 (a / 8 % 2 ^ 33) inj

/-! ### Regions (R355 to R357) -/

/-- The regions that govern accesses: region 0, the running map, and the retiring one after it. -/
def regionList (s : State) : List Region := s.image.regions ++ s.sto.old

/-- The number of the region that holds address `a`, and the region. STAGING is region 0 even before an image. -/
def regionOf (s : State) (a : Nat) : Option (Nat × Region) :=
  if staging.holds a then some (0, staging)
  else match s.image.regions.findIdx? (fun r => r.holds a) with
    | some i => some (i, s.image.regions.getD i staging)
    | none => (s.sto.old.findIdx? (fun r => r.holds a)).map (fun i => (i, s.sto.old.getD i staging))

/-- The island counted as the requester: the tensor cores as island 14 (R356). -/
def agentOf (island : Nat) : Nat := if island < 16 then island else 14

/-- Island `island` may write region `r`; STO's own movers may fill any. -/
def mayWrite (island : Nat) (r : Region) : Bool := agentOf island == 8 || agentOf island == writerOf r.kind

/-- A refused access (R356): an error of STO, which its requester does not share. -/
def violation (s : State) (island : Nat) (write : Bool) (a : Nat) (region : Option Nat) : State :=
  let n := s.fld F.STO_VIOL_COUNT
  let s := s.setReg F.STO_VIOL_ISLAND.addr (BitVec.ofNat 64 (island % 128 + b2n write * 2 ^ 7 + region.getD 0 % 1024 * 2 ^ 8 +
    b2n region.isNone * 2 ^ 18 + n * 2 ^ 32))
  (s.incFld F.STO_VIOL_COUNT).raise 8 9 (a / 8 % 2 ^ 33)

/-- Check bits that an armed STORE injection of the reading island inverts, as an outcome of the check (R472). -/
def storeInjection (s : State) (island errs : Nat) : Nat × Bool × State :=
  if island != 0 && s.injectArmed island 3 then ((if s.injectBits island = 3 then 2 else 1), true, s.fireInject island)
  else (errs, false, s)
/-- An access to the shared store (R352, R354, R356): a word is written with the poison it travels with, or read, `errs` saying what the check
of the stored word finds. A refused access changes nothing, and a refused read delivers poison. -/
def storeAccess (s : State) (island : Nat) (write : Bool) (addr : Nat) (data : Word) (poison : Bool) (errs : Nat) : State :=
  let a := addr / 8 * 8
  match s.regionOf a with
  | none => let s := s.violation island write a none; if write then s else s.emit (.word 0 true)
  | some (k, r) =>
    let s := if island < 100 then s.perf island (if write then 9 else 8) 1 else s
    if write then
      (if mayWrite island r then s.storeWrite a (le 8 data.toNat) poison else s.violation island write a (some k))
    else
      let (errs, inj, s) := s.storeInjection island errs
      let s := s.checkWord a errs inj
      s.emit (.word (BitVec.ofNat 64 (ofLe (s.storeBytes a 8))) (s.poisoned a))

/-- Words of the shared store. -/
def storeWords : Nat := 2 ^ 33

/-- The patrol scrubber reads the next word (R353), unless scrubbing is stopped; a word written in the same cycle is skipped. -/
def patrolScrub (s : State) (errs : Nat) (skip : Bool) : State :=
  if s.fld F.STO_CFG_SCRUB_H = 0 then s
  else
    let a := s.sto.scrubAt * 8
    let s := if skip then s else s.checkWord a errs false
    let n := s.sto.scrubAt + 1
    if n = storeWords then ({ s with sto := { s.sto with scrubAt := 0 } }).incFld F.STO_ECC_SCRUB_PASSES
    else { s with sto := { s.sto with scrubAt := n } }

/-! ### Memory ports (R41, R42) -/

/-- Waiting requests leave while the grant is not 0 and a port has a credit, the lowest such port first. -/
def issueMem : Nat → State → State
  | 0, s => s
  | fuel + 1, s =>
    match s.sto.waiting, (List.range 16).find? (fun p => decide (0 < s.sto.credits.get zero p)) with
    | r :: rest, some p =>
      if s.fld F.MGT_BOUNDARY_MEM_GRANT = 0 || !s.works 8 then s
      else
        let s := { s with sto := { s.sto with waiting := rest, credits := s.sto.credits.mod zero p (· - 1), out := s.sto.out.mod nil p (· ++ [r]) } }
        issueMem fuel (s.emit (.memReq r.addr (r.len * 64) r.write))
    | _, _ => s

/-- A request joins those that wait, and leaves at once where it can. -/
def memRequest (s : State) (addr len : Nat) (write : Bool) (dest : Nat) : State :=
  let r : MemReq := { tag := s.sto.nextTag, addr := addr, len := len, write := write, dest := dest }
  let s := { s with sto := { s.sto with waiting := s.sto.waiting ++ [r], nextTag := (s.sto.nextTag + 1) % 256 } }
  issueMem s.sto.waiting.length s

/-- A range of the memory stacks, in requests of at most 4,095 pieces of 64 bytes. -/
def memRange (write : Bool) : Nat → Nat → Nat → Nat → State → State
  | 0, _, _, _, s => s
  | fuel + 1, addr, bytes, dest, s =>
    if bytes = 0 then s
    else
      let n := min 4095 ((bytes + 63) / 64)
      memRange write fuel (addr + n * 64) (bytes - n * 64) (dest + n * 64) (s.memRequest addr n write dest)

/-- A request of port `p` with a tag is no longer outstanding. -/
def memDone (s : State) (p tag : Nat) : State :=
  { s with sto := { s.sto with out := s.sto.out.mod nil p (fun l => l.filter (fun r => r.tag != tag)) } }

/-- Read data returns (R42): each 64-byte piece is written to the store, a poisoned piece with every word poisoned; never an error of a die. -/
def memReturn (s : State) (p tag : Nat) (pieces : List (Bytes × Bool)) : State :=
  match (s.sto.out.get nil p).find? (fun r => r.tag == tag && !r.write) with
  | none => s
  | some r =>
    let s := s.memDone p tag
    (List.range pieces.length).foldl (fun s i =>
      match pieces[i]? with
      | some (bs, bad) => s.storeWrite (r.dest + 64 * i) ((bs ++ zeros 64).take 64) bad
      | none => s) s

/-- A request is refused (R42): an error of STO. -/
def memRefused (s : State) (p tag : Nat) : State :=
  match (s.sto.out.get nil p).find? (fun r => r.tag == tag) with
  | none => s
  | some r => (s.memDone p tag).raise 8 0x0A (r.addr / 8 % 2 ^ 33)

/-- A request credit returns to a port. -/
def memCredit (s : State) (p : Nat) : State :=
  let s := { s with sto := { s.sto with credits := s.sto.credits.mod zero p (· + 1) } }
  issueMem s.sto.waiting.length s

/-- stb_mem_grant changes (R41, R59): STO honours the value shown; outside 8 to 40 it is an error, and sticky. -/
def memGrant (s : State) (g : Nat) : State :=
  if s.fld F.MGT_BOUNDARY_MEM_GRANT = g then s
  else
    let s := s.setFld F.MGT_BOUNDARY_MEM_GRANT g
    let s := if g < 8 then (s.sticky F.MGT_BOUNDARY_GRANT_LOW).raise 8 0x0B 0
      else if 40 < g then (s.sticky F.MGT_BOUNDARY_GRANT_HIGH).raise 8 0x0B 0 else s
    issueMem s.sto.waiting.length s

/-! ### Epoch rings (R359) -/

/-- The shared-store address of epoch `e`'s slot in a ring of 2^n slots, and the slot's bytes. -/
def slotPlace (r : Region) (n e : Nat) : Nat × Nat := (r.base + e % 2 ^ n * (r.size / 2 ^ n), r.size / 2 ^ n)

/-- A finished slot written by its owner: VALID header and content (R359). -/
def writeSlot (s : State) (kind n e : Nat) (content : Bytes) (poison : Bool) : State :=
  match s.image.regions.find? (fun r => r.kind == kind) with
  | none => s
  | some r =>
    let (a, _) := slotPlace r n e
    (s.storeWrite a (le 6 e ++ le 1 (1 + 2 * b2n poison) ++ zeros 1 ++ le 4 content.length ++ zeros 52) false).storeWrite (a + 64) content poison

/-- The content of epoch `e` in a ring region, with its poison; none when the slot is absent. -/
def readSlot (s : State) (r : Region) (n e : Nat) : Option (Bytes × Bool) :=
  let (a, _) := slotPlace r n e
  let h := s.storeBytes a 12
  if bytesAt h 0 6 = e ∧ bit (bytesAt h 6 1) 0 then
    let len := bytesAt h 8 4
    some (s.storeBytes (a + 64) len, bit (bytesAt h 6 1) 1 || (List.range ((len + 7) / 8)).any (fun i => s.poisoned (a + 64 + 8 * i)))
  else none

/-- The slot of epoch `e` already holds a later epoch. -/
def slotPassed (s : State) (r : Region) (n e : Nat) : Bool :=
  let h := s.storeBytes (slotPlace r n e).1 12
  bit (bytesAt h 6 1) 0 && decide (e < bytesAt h 0 6)

/-! ### Dictionaries (R366 to R368) -/

/-- The bank that is active, if one is. -/
def activeBank (s : State) : Option Nat := [0, 1].find? (fun b => s.flag (bankField b F.COD_BANK0_ACTIVE))

/-- The dictionary of a resident generation (R368). -/
def dictOf (s : State) (tgen : Nat) (serial : Option Nat) : Option (List Nat) :=
  if tgen = 0 then some []
  else
    match [0, 1].find? (fun b => s.fld (bankField b F.COD_BANK0_TGEN) == tgen &&
        (s.flag (bankField b F.COD_BANK0_ACTIVE) || s.retiring b) &&
        (match serial with | some x => s.fld (bankField b F.COD_BANK0_SERIAL) == x | none => true)) with
    | some b => some (s.cod.banks.get nil b)
    | none => none

/-- The generation, serial and entries that a job of COD's own begins with. -/
def ownDict (s : State) : Nat × Nat × List Nat :=
  match s.activeBank with
  | some b => (s.fld (bankField b F.COD_BANK0_TGEN), s.fld (bankField b F.COD_BANK0_SERIAL), s.cod.banks.get nil b)
  | none => (0, 0, [])

/-- A write to the selected entry of the idle bank; a retiring bank ignores it (R367), and while a commit is armed it is refused (R429). -/
def dictWrite (s : State) (v : Nat) : State :=
  if s.retiring s.cod.idle || s.commitArmed then s.setFld F.COD_DICT_CTRL_LOAD_REFUSED 1
  else s.setFld (F.COD_DICT_DATA_VALUE.at (s.fld F.COD_DICT_INDEX_ENTRY)) v

/-- ACTIVATE written: requested for the next tick, or refused while the other bank is retiring (R367)
or a commit is armed (R429). -/
def dictActivate (s : State) : State :=
  if s.retiring s.cod.idle || s.commitArmed then s.setFld F.COD_DICT_CTRL_ACT_REFUSED 1 else s.setFld F.COD_DICT_CTRL_ACTIVATE 1

/-- At a tick the loaded bank becomes active with the next generation and serial, and the previous one retires; the dictionary log takes the
new serial (R367, R368). -/
def dictSwap (s : State) : State :=
  if !s.flag F.COD_DICT_CTRL_ACTIVATE then s
  else
    let s := s.setFld F.COD_DICT_CTRL_ACTIVATE 0
    let b := s.cod.idle
    let es := (List.range (min 256 (s.fld F.COD_DICT_CTRL_IDLE_ENTRIES))).map (fun i => s.fld (F.COD_DICT_DATA_VALUE.at i))
    let tgen := s.fld F.COD_DICT_CTRL_ACTIVE_TGEN % 3 + 1
    let serial := s.fld F.COD_DICT_CTRL_ACTIVE_SERIAL + 1
    let old := s.activeBank
    let s := { s with cod := { s.cod with banks := s.cod.banks.put nil b es, log := ((serial, es) :: s.cod.log).take 16, idle := 1 - b } }
    let s := ((s.setFld (bankField b F.COD_BANK0_TGEN) tgen).setFld (bankField b F.COD_BANK0_ACTIVE) 1).setFld
      (bankField b F.COD_BANK0_ENTRIES) es.length
    let s := ((s.setFld (bankField b F.COD_BANK0_SERIAL) serial).setFld F.COD_DICT_CTRL_ACTIVE_TGEN tgen).setFld
      F.COD_DICT_CTRL_ACTIVE_SERIAL serial
    match old with
    | some o => (s.setFld (bankField o F.COD_BANK0_ACTIVE) 0).setFld (bankField o F.COD_BANK0_RETIRING) 1
    | none => s.showIdle (1 - b)

/-- A coding job (R363, R364): with the active dictionary for COD's own blocks, with generation 0 otherwise. A job whose destination has not
`room` bytes for the block fails as a whole (R376). -/
def codeJob (s : State) (elem : Nat) (own : Bool) (raw : Bytes) (room : Nat) : State :=
  if !s.works 9 then s
  else
    let (g, _, d) := if own then s.ownDict else (0, 0, [])
    let b := encodeBlock elem g d raw
    let s := s.perf 9 0x100 raw.length
    if room < b.length then s.incFld F.COD_CNT_NOSPACE
    else (s.incFld (if blockRaw b then F.COD_CNT_RAW_STORED else F.COD_CNT_CODED)).emit (.block 0 b b.length)

/-- The count of a decoding failure (R369). -/
def decErr (st : Nat) : Fld := { F.COD_DEC_ERR_STATUS1 with lo := 8 * (st - 1) }

/-- A block decoded, its status counted (R369, R370). -/
def decode (s : State) (tgen : Nat) (serial : Option Nat) (b : Bytes) : Nat × Bytes × State :=
  let (st, out) := decodeBlock tgen (s.dictOf tgen serial) b
  (st, out, if st = 0 then s.perf 9 0x101 out.length else s.incFld (decErr st))

/-- A decoding job and what its consumer receives. -/
def decodeJob (s : State) (tgen : Nat) (serial : Option Nat) (b : Bytes) : State :=
  if !s.works 9 then s
  else
    let (st, out, s) := s.decode tgen serial b
    s.emit (.block st (if st = 0 then out else []) (if st = 0 then out.length else if st = 1 then b.length else blockRawLen b))

/-- A record's body after decoding (R365, R370): records come only with generation 0. The flag says that decoding failed. -/
def decodeRec (s : State) (r : Rec) : Rec × Bool × State :=
  if r.comp = 0 then (r, false, s)
  else
    let (head, blk) := if r.type = 6 then (r.body.take 16, r.body.drop 16) else ([], r.body)
    let (st, out, s) := if r.tgen = 0 then s.decode 0 none blk
      else (2, [], s.incFld (decErr 2))
    if st = 0 then ({ r with comp := 0, tgen := 0, body := head ++ out }, false, s) else (r.withFlag flagPoison, true, s)

/-! ### The archive (R373 to R377) -/

/-- Bytes of an index entry (R374). -/
def indexBytes (e : IndexEntry) : Bytes :=
  let h := le 6 e.first ++ le 2 e.epochs ++ le 8 e.offset ++ le 4 e.size ++ le 4 e.serial ++
    le 1 (b2n e.raw + 2 * b2n e.gap + 4 * b2n e.poison + 8 * b2n e.valid + 16 * (e.tgen % 4)) ++ le 1 (e.stream % 16) ++ zeros 2
  h ++ le 4 (crc32c h).toNat

/-- The archive state of a stream. -/
def arch (s : State) (k : Nat) : Arch := s.cod.arch.get (fun _ => {}) k

/-- That state replaced. -/
def setArch (s : State) (k : Nat) (a : Arch) : State := { s with cod := { s.cod with arch := s.cod.arch.put (fun _ => {}) k a } }

/-- A region of the running map by number. -/
def regionNo (s : State) (k : Nat) : Region := s.image.regions.getD k { kind := 255, base := 0, size := 0 }

/-- An index entry written at its place, in the ring and in the store. -/
def putEntry (s : State) (k : Nat) (c : ArchCfg) (place : Nat) (e : IndexEntry) : State :=
  let a := s.arch k
  (s.setArch k { a with entries := a.entries.put none' place (some e) }).storeWrite ((s.regionNo c.index).base + 65536 + 32 * place) (indexBytes e) false

/-- Places of an index ring. -/
def indexPlaces (s : State) (c : ArchCfg) : Nat := ((s.regionNo c.index).size - 65536) / 32

/-- The entry at a place of a stream's index ring is pinned. -/
def pinned (s : State) (k place : Nat) : Bool := s.cod.pins.any (fun e => e.2 == some (k, place))

/-- The next place that is not pinned, from `p` on. -/
def freePlace (s : State) (k n : Nat) : Nat → Nat → Option Nat
  | 0, _ => none
  | fuel + 1, p => if s.pinned k (p % n) then freePlace s k n fuel (p + 1) else some (p % n)

/-- A new entry at the next free place. -/
def appendEntry (s : State) (k : Nat) (c : ArchCfg) (e : IndexEntry) : State :=
  let a := s.arch k
  let n := max 1 (s.indexPlaces c)
  match s.freePlace k n 5 a.place with
  | none => s
  | some p =>
    let s := s.putEntry k c p e
    s.setArch k { s.arch k with place := (p + 1) % n }

/-- Places of valid entries whose blocks overlap a range. -/
def overlapping (a : Arch) (off size : Nat) : List Nat :=
  a.entries.filterMap (fun e => match e.2 with
    | some x => if x.valid && decide (x.offset < off + size) && decide (off < x.offset + (x.size + 4095) / 4096 * 4096) then some e.1 else none
    | none => none)

/-- A failed archive job (R376). -/
def archNoSpace (s : State) (k : Nat) : State := (s.incFld F.COD_CNT_NOSPACE).incFld (F.COD_ARCH_CNT_NOSPACE.at k)

/-- The open block of a stream flushed (R371, R374 to R376): coded, placed, the entries it overwrites cleared, its write begun. True when
nothing stands in the way any longer. -/
def archFlush (s : State) (k : Nat) (c : ArchCfg) : Bool × State :=
  let a := s.arch k
  if a.raw.isEmpty then (true, s)
  else if a.writing.isSome then (false, s)
  else
    let dict := (s.dictOf a.tgen (some a.serial)).getD []
    let b := encodeBlock c.elem a.tgen dict a.raw
    let region := s.regionNo c.archive
    let off := if region.size < a.offset + b.length then 0 else a.offset
    let hit := overlapping a off b.length
    if region.size < b.length || hit.any (fun p => s.pinned k p) || (s.freePlace k (max 1 (s.indexPlaces c)) 5 a.place).isNone then
      (false, s.archNoSpace k)
    else
      let s := hit.foldl (fun s p => match (s.arch k).entries.get none' p with
        | some e => s.putEntry k c p { e with valid := false }
        | none => s) s
      let e : IndexEntry :=
        { first := a.first, epochs := a.count, offset := off, size := b.length, serial := if a.tgen = 0 then 0 else a.serial,
          raw := blockRaw b, poison := a.bad, valid := true, tgen := a.tgen, stream := k }
      let s := (s.incFld (if blockRaw b then F.COD_CNT_RAW_STORED else F.COD_CNT_CODED)).inflight a.tgen a.serial false
      let s := s.perf 9 0x100 a.raw.length
      let s := s.setArch k { s.arch k with
        raw := [], count := 0, bad := false, writing := some e, offset := off + (b.length + 4095) / 4096 * 4096 }
      (true, memRange true (b.length / 64 + 1) (region.base + off) b.length 0 s)

/-- A GAP entry for a run of lost epochs (R377). -/
def archGap (s : State) (k : Nat) (c : ArchCfg) (first n : Nat) : State :=
  (s.appendEntry k c { first := first, epochs := n, gap := true, stream := k }).addFld (F.COD_ARCH_CNT_GAP_EPOCHS.at k) n

/-- The first archived epoch at or after `e` of a stream. -/
def archNext (c : ArchCfg) (e : Nat) : Nat := (e + 2 ^ c.decimate - 1) / 2 ^ c.decimate * 2 ^ c.decimate

/-- Archived epochs lost from `e` on: those whose slots already hold later ones (R377). -/
def archLost (s : State) (c : ArchCfg) (r : Region) : Nat → Nat → Nat
  | 0, _ => 0
  | fuel + 1, e => if s.slotPassed r c.slots e then archLost s c r fuel (e + 2 ^ c.decimate) + 1 else 0

/-- The assembler takes the next archived epoch of a stream (R373): lost ones give a GAP entry first; the epoch's content joins the live block,
after a flush when it would not fit. -/
def archAppend (s : State) (k : Nat) : State :=
  match s.image.archives[k]? with
  | none => s
  | some c =>
    if !s.works 9 then s
    else
      let r := s.regionNo c.source
      let e0 := archNext c ((s.arch k).next.getD (s.epoch - 1))
      let lost := s.archLost c r 65536 e0
      let (ok, s) := if lost = 0 then (true, s) else s.archFlush k c
      if !ok then s
      else
        let s := if lost = 0 then s else s.archGap k c e0 lost
        let e := e0 + lost * 2 ^ c.decimate
        let s := s.setArch k { s.arch k with next := some e }
        match s.readSlot r c.slots e with
        | none => s
        | some (content, bad) =>
          let raw := pad8 (if bad then zeros content.length else content)
          let (ok, s) := if (s.arch k).raw.length + raw.length ≤ c.rawKib * 1024 then (true, s) else s.archFlush k c
          if !ok then s
          else
            let a := s.arch k
            let (g, ser, _) := s.ownDict
            let new := a.raw.isEmpty
            let s := if new then s.inflight g ser true else s
            s.setArch k { a with
              raw := a.raw ++ raw, count := a.count + 1, bad := a.bad || bad, last := e, next := some (e + 2 ^ c.decimate)
              first := if new then e else a.first, tgen := if new then g else a.tgen, serial := if new then ser else a.serial }

/-- The gateway has completed the write of a stream's block: its entry appears (R375). -/
def archWritten (s : State) (k : Nat) : State :=
  match s.image.archives[k]?, (s.arch k).writing with
  | some c, some e =>
    let s := s.setArch k { s.arch k with writing := none }
    let s := s.appendEntry k c e
    let s := (s.incFld (F.COD_ARCH_CNT_BLOCKS.at k)).setFld (F.COD_ARCH_STATUS_NEWEST.at k) (e.first + (e.epochs - 1) * 2 ^ c.decimate)
    s.setIf e.poison (F.COD_ARCH_CNT_POISONED.at k) (min 65535 (s.fld (F.COD_ARCH_CNT_POISONED.at k) + 1))
  | _, _ => s

/-- A pin lapses or is released (R375). -/
def unpin (s : State) (pin : Nat) : State := { s with cod := { s.cod with pins := s.cod.pins.put none' pin none } }

/-- An index entry pinned under the lowest free pin number; none when 4 pins are held (R375, R440). -/
def pin (s : State) (k place : Nat) : Option Nat × State :=
  match (List.range 4).find? (fun p => (s.cod.pins.get none' p).isNone) with
  | none => (none, s)
  | some p => (some p, { s with cod := { s.cod with pins := s.cod.pins.put none' p (some (k, place)) } })

end State

/-- STORE_ACCESS (R352, R356). -/
def execStoreAccess (island : Nat) (write : Bool) (addr : Nat) (data : Word) (poison : Bool) (errs : Nat) (s : State) :
    Host.Outcome State Fault Refusal := s.run (fun s => s.storeAccess island write addr data poison errs)

/-- PATROL_SCRUB (R353). -/
def execPatrolScrub (errs : Nat) (skip : Bool) (s : State) : Host.Outcome State Fault Refusal := s.run (fun s => s.patrolScrub errs skip)

/-- MEM_GRANT_CHANGE (R41). -/
def execMemGrantChange (grant : Nat) (s : State) : Host.Outcome State Fault Refusal := s.run (fun s => s.memGrant grant)

/-- MEM_READ_RETURN (R42). -/
def execMemReadReturn (port tag : Nat) (pieces : List (Bytes × Bool)) (s : State) : Host.Outcome State Fault Refusal :=
  s.run (fun s => s.memReturn port tag pieces)

/-- MEM_REFUSED (R42). -/
def execMemRefused (port tag : Nat) (s : State) : Host.Outcome State Fault Refusal := s.run (fun s => s.memRefused port tag)

/-- MEM_CREDIT_RETURN (R41). -/
def execMemCreditReturn (port : Nat) (s : State) : Host.Outcome State Fault Refusal := s.run (fun s => s.memCredit port)

/-- DICT_ACTIVATE (R367). -/
def execDictActivate (s : State) : Host.Outcome State Fault Refusal := s.run (fun s => s.dictActivate)

/-- DICT_DATA_WRITE (R367). -/
def execDictDataWrite (value : Nat) (s : State) : Host.Outcome State Fault Refusal := s.run (fun s => s.dictWrite value)

/-- DICT_BANK_RETIRE (R367). -/
def execDictBankRetire (s : State) : Host.Outcome State Fault Refusal := s.run (fun s => s.retireBank)

/-- CODE_BLOCK (R363, R364). -/
def execCodeBlock (elem : Nat) (own : Bool) (raw : Bytes) (room : Nat) (s : State) : Host.Outcome State Fault Refusal :=
  s.run (fun s => s.codeJob elem own raw room)

/-- DECODE_BLOCK (R369). -/
def execDecodeBlock (tgen : Nat) (serial : Option Nat) (block : Bytes) (s : State) : Host.Outcome State Fault Refusal :=
  s.run (fun s => s.decodeJob tgen serial block)

/-- ARCHIVE_APPEND (R373). -/
def execArchiveAppend (stream : Nat) (s : State) : Host.Outcome State Fault Refusal := s.run (fun s => s.archAppend stream)

/-- ARCHIVE_WRITE_DONE (R375). -/
def execArchiveWriteDone (stream : Nat) (s : State) : Host.Outcome State Fault Refusal := s.run (fun s => s.archWritten stream)

/-- PIN_EXPIRE (R375). -/
def execPinExpire (pin : Nat) (s : State) : Host.Outcome State Fault Refusal := s.run (fun s => s.unpin pin)

end Sys2Proof.Machine
end

