-- ==== Sys2Proof/Machine/Align.lean ====
section
/-! DEFINITION. ALN: open epochs, wrap reconstruction, interpolation to the tick, closing, reduction, late folding, coarsening and
bypass (07). -/

namespace Sys2Proof.Machine

/-- A reading of a counter: its key, raw value, wrap bit, stamp, quality; `bits` is its modulus, 64 for cycle counters. -/
structure Reading where
  key : Nat
  raw : Nat
  wrap : Bool
  offset : Nat
  quality : Nat
  bits : Nat
deriving DecidableEq, Repr

/-- `round` of R179. -/
def round16 (x : Int) : Int := (x + 2 ^ 15) / 2 ^ 16

/-- The interpolated aligned value of R177, 16 fraction bits. -/
def interpolate (rp re : Int) (op oe : Nat) (spacing : Nat) : Int :=
  rp * 2 ^ 16 + (re - rp) * (4 * (spacing : Int) - (op : Int)) * 2 ^ 16 / (4 * (spacing : Int) + (oe : Int) - (op : Int))

namespace State

/-- The tick spacing T_E − T_(E−1) in ns (R177): the period that ran up to the tick. -/
def tickSpacing (s : State) (e : Nat) : Nat :=
  match s.tim.sched, s.tim.before with
  | some c, some b => if e ≤ c.e0 then b.p else c.p
  | some c, none => c.p
  | none, _ => 0

/-- A reading of epoch `e` reconstructed and aligned (R175 to R179): the counter's new reference, and the aligned count of epoch e − 1 with
its flags when both ticks have an aligned value. -/
def align (s : State) (e : Nat) (x : Reading) : CRef × Option (Int × Nat) × Bool :=
  let usable := !(bit x.quality 0 || bit x.quality 2)
  let hs := b2n (bit x.quality 4) * 2 ^ eHalted + b2n (bit x.quality 3) * 2 ^ eStretch
  match s.aln.refs.get none' x.key with
  | none =>
    let f := hs ||| 2 ^ eRaw
    ({ r := x.raw, raw := x.raw, offset := x.offset, usable := usable, epoch := e, aligned := x.raw, eflags := f }, none, false)
  | some p =>
    let m := 2 ^ x.bits
    let d := if x.bits = 64 then (x.raw : Int) - (p.raw : Int) else (((x.raw + m - p.raw) % m : Nat) : Int)
    let r := p.r + d
    let gapNs := (e - p.epoch) * s.tickSpacing e + x.offset / 4 - p.offset / 4
    let window := if x.bits = 32 then 1070000000 else 1172000000000
    let wrapBad :=
      if x.bits = 64 then decide (x.raw < p.raw)
      else decide (window < gapNs) || !((x.wrap && decide (x.raw < p.raw)) || (!x.wrap && decide (p.raw ≤ x.raw)))
    let den := 4 * (s.tickSpacing e : Int) + (x.offset : Int) - (p.offset : Int)
    let direct := p.epoch + 1 != e || !usable || !p.usable || decide (den ≤ 0)
    let a := if direct then r * 2 ^ 16 else interpolate p.r r p.offset x.offset (s.tickSpacing e)
    let f := hs ||| (b2n direct * 2 ^ eRaw) ||| (b2n wrapBad * 2 ^ eWrap)
    let rr := round16 a
    ({ r := r, raw := x.raw, offset := x.offset, usable := usable, epoch := e, aligned := rr, eflags := f },
     if p.epoch + 1 = e then some (rr - p.aligned, f ||| p.eflags) else none, wrapBad)

/-- A reading taken in: the reference stored, WRAP counted, and the input for epoch e − 1, if any. -/
def takeReading (s : State) (e : Nat) (x : Reading) (src kind index : Nat) (poison : Bool) : State × List AInput :=
  let (ref, c, w) := s.align e x
  let s := { s with aln := { s.aln with refs := s.aln.refs.put none' x.key (some ref) } }
  let s := if w then s.incFld (F.ALN_LEVEL_CNT_WRAP_MARKED.at 0) else s
  (s.perf 4 0x100 (b2n c.isSome), match c with
      | some (v, f) => [{ src := src, kind := kind, index := index, value := v, eflags := f, poison := poison }]
      | none => [])

/-! ### The node level's records (R156 to R158, R176) -/

/-- The census part of a sweep (R156): its inputs for the epoch before the sweep's; none when a delta's reference is absent. -/
def takeCensus (s : State) (r : Rec) : State × List AInput :=
  let b := r.body
  let slot := slotOf r.src
  let delta := bit (bytesAt b 2 1) 0
  let refE := bytesAt b 4 6
  let poison := r.flag flagPoison
  (List.range (bytesAt b 0 2)).foldl (fun acc i =>
    let o := 16 + 72 * i
    let unit := bytesAt b o 2 % 2048
    (List.range 16).foldl (fun (acc : State × List AInput) c =>
      let (s, l) := acc
      let key := slot * 2 ^ 20 + unit * 2 ^ 8 + c
      let v := bytesAt b (o + 8 + 4 * c) 4
      let raw : Option Nat :=
        if delta then
          match s.aln.raws.get none' key with
          | some (e, x) => if e = refE then some ((x + v) % 2 ^ 32) else none
          | none => none
        else some v
      match raw with
      | none => (s, l)
      | some raw =>
        let s := { s with aln := { s.aln with raws := s.aln.raws.put none' key (some (r.epoch, raw)) } }
        let (s, is) := s.takeReading r.epoch
          { key := key, raw := raw, wrap := bit (bytesAt b (o + 4) 2) c, offset := r.offset + 4 * i, quality := bytesAt b (o + 2) 2, bits := 32 }
          (r.src / 2 ^ 11 * 2 ^ 11 + unit) 0 c poison
        (s, l ++ is)) acc) (s, [])

/-- A Counter group record (R157). -/
def takeGroups (s : State) (r : Rec) : State × List AInput :=
  let b := r.body
  let slot := slotOf r.src
  let poison := r.flag flagPoison
  (List.range (bytesAt b 0 2)).foldl (fun acc i =>
    let o := 16 + 80 * i
    let idx := bytesAt b o 2 % 4096
    let g := bytesAt b (o + 2) 1 % 64
    let q := bytesAt b (o + 4) 2
    let off := r.offset + 4 * idx
    let (s, l) := acc
    let (s, is) := s.takeReading r.epoch
      { key := 2 ^ 40 + slot * 2 ^ 20 + g * 2 ^ 8 + 8, raw := bytesAt b (o + 8) 8, wrap := false, offset := off, quality := q, bits := 64 }
      (senderOf r.src) 2 g poison
    (List.range 8).foldl (fun (acc : State × List AInput) k =>
      let (s, l) := acc
      let (s, is) := s.takeReading r.epoch
        { key := 2 ^ 40 + slot * 2 ^ 20 + g * 2 ^ 8 + k, raw := bytesAt b (o + 16 + 8 * k) 6, wrap := bit (bytesAt b (o + 3) 1) k,
          offset := off, quality := q, bits := 48 }
        (senderOf r.src) 1 (g * 8 + k) poison
      (s, l ++ is)) (s, l ++ is)) (s, [])

end State

/-- A Health record's statistics (R158): they enter as they arrive (R179). -/
def healthInputs (r : Rec) : List AInput :=
  let b := r.body
  ((List.range (bytesAt b 0 2)).map (fun i =>
    let o := 8 + 8 * i
    let w := bytesAt b (o + 6) 2
    if bit w 14 || bit w 15 then []
    else
      let f := fun (kind : Nat) (v : Int) =>
        ({ src := senderOf r.src, kind := kind, index := i, value := v, poison := r.flag flagPoison } : AInput)
      [f 3 (asSigned 16 (bytesAt b o 2)), f 4 (asSigned 16 (bytesAt b (o + 2) 2)), f 5 (asSigned 16 (bytesAt b (o + 4) 2)),
       f 6 ((w % 2 ^ 14 : Nat) : Int)])).flatten

namespace State

/-! ### Open epochs (R173, R180) -/

/-- The block aggregates a level (R173). -/
def aggregates (s : State) (level : Nat) : Bool :=
  match level with
  | 0 => s.flag F.MGT_ROLE_NODE_AGG
  | 1 => s.masterOf .group
  | 2 => s.masterOf .system
  | _ => false

/-- Dies of this tray that the job in force includes (R454). -/
def jobDies (s : State) : List DieCfg :=
  s.image.dies.filter (fun d => !dieExcluded s.stw.job.delta (s.dieAddr d.slot))

/-- The senders a level expects, in ascending address (R180, R189). -/
def expectedSenders (s : State) (level : Nat) : List Nat :=
  match level with
  | 0 => s.jobDies.map (fun d => s.dieAddr d.slot)
  | 1 => s.image.groupNodes
  | 2 => s.image.systemGroups
  | _ => []

/-- The epochs list replaced; STATUS shows the node level's open ones and the backlog. -/
def setEpochs (s : State) (l : List AEpoch) : State :=
  let s := { s with aln := { s.aln with epochs := l } }
  (s.setFld F.ALN_STATUS_OPEN_EPOCHS (l.filter (fun e => e.level == 0 && e.st == 0)).length).setFld F.ALN_STATUS_BACKLOG
    (min 15 (l.filter (fun e => e.st == 1)).length)

/-- Epoch `e` opens at every level the block aggregates. -/
def openEpochs (s : State) (e : Nat) : State :=
  s.setEpochs (s.aln.epochs ++ ([0, 1, 2].filter s.aggregates).map (fun l =>
    { level := l, epoch := e, expected := (s.expectedSenders l).length }))

/-- A contribution joins those of its sender. -/
def joinContrib (cs : List Contrib) (c : Contrib) : List Contrib :=
  match cs with
  | [] => [c]
  | x :: rest =>
    if x.sender = c.sender then
      { x with inputs := x.inputs ++ c.inputs, sums := x.sums ++ c.sums, quality := mergeQuality x.quality c.quality,
               loss := x.loss || c.loss, poisoned := x.poisoned + c.poisoned, lateIn := x.lateIn + c.lateIn } :: rest
    else if c.sender < x.sender then c :: x :: rest
    else x :: joinContrib rest c

/-- LATE_HORIZON as it acts (R183). -/
def lateHorizon (s : State) : Nat := max 1 (min 32 (s.fld F.ALN_CFG_LATE_HORIZON))

/-- A contribution to an epoch of a level: to the open epoch, or to its late supplement up to LATE_HORIZON, or dropped and counted (R183). -/
def contribute (s : State) (level e : Nat) (c : Contrib) : State :=
  match s.aln.epochs.find? (fun x => x.level == level && x.epoch == e) with
  | some x =>
    if x.st = 0 then
      s.setEpochs (s.aln.epochs.map (fun y => if y.level = level ∧ y.epoch = e then { y with contribs := joinContrib y.contribs c } else y))
    else if x.age < s.lateHorizon then
      (s.setEpochs (s.aln.epochs.map (fun y => if y.level = level ∧ y.epoch = e then { y with late := joinContrib y.late c } else y))).incFld
        (F.ALN_LEVEL_CNT_LATE_FOLDED.at level)
    else s.incFld (F.ALN_LEVEL_CNT_LATE_DROPPED.at level)
  | none => s.incFld (F.ALN_LEVEL_CNT_LATE_DROPPED.at level)

/-- The epoch whose data a record of the node level brings (R174): a sweep bounds the epoch before it; a Health record names its own. -/
def dataEpoch (r : Rec) : Nat := if r.type = 0x03 then r.epoch else r.epoch - 1

/-- A record must wait in its queue: its epoch would be the 41st open one, or is not open yet (R173). -/
def mustWait (s : State) (level e : Nat) : Bool :=
  !(s.aln.epochs.any (fun x => x.level == level && x.epoch == e)) && decide (s.epoch < e || (e = s.epoch ∧
    40 ≤ (s.aln.epochs.filter (fun x => x.level == level && x.st == 0)).length))

/-! ### Coarsen requests received (R194) -/

/-- The outlet of a level. -/
def outlet (s : State) (level : Nat) : Outlet := s.aln.outlets.get (fun _ => {}) level

/-- That outlet changed. -/
def modOutlet (s : State) (level : Nat) (f : Outlet → Outlet) : State :=
  { s with aln := { s.aln with outlets := s.aln.outlets.mod (fun _ => {}) level f } }

/-- A Coarsen request (R194): kept when it comes from the current parent of a role, and discarded otherwise. The group's parent asks the
node role, the system's the group role. -/
def coarsenRequest (s : State) (src step fromE : Nat) : State :=
  [0, 1].foldl (fun s level =>
    if s.parentOf level = some src then
      (s.modOutlet level (fun o => { o with req := some (src, step, fromE) })).setFld (F.ALN_LEVEL_STATE_REQ_RES.at level) step
    else s) s

/-! ### Accepting records (R173) -/

/-- A Summary of a child: primary, supplement or partial for the level above it; a time closure for the loop evaluation (R88, R184, R198). A
second primary of one source and epoch is discarded (R26). -/
def takeSummary (s : State) (r : Rec) : State :=
  let b := SumBody.ofRec r
  let level := levelOfRecord r
  if b.kind = 2 then
    { s with tim := { s.tim with closures := b.entries.foldl (fun t e =>
        t.put none' (e.1 % 256 * 256 + r.src / 2 ^ 24) (some e.2.val)) s.tim.closures } }
  else if (level == 1 && s.flag F.MGT_ROLE_GROUP_YIELDED) || (level == 2 && s.flag F.MGT_ROLE_SYSTEM_YIELDED) then
    match (if level = 1 then s.mgt.group.acting else s.mgt.system.acting) with
    | some a => if s.silent then s else s.emit (.directed [a] r)
    | none => s
  else
    let seen := s.aln.seen.get nil level
    if b.kind = 0 ∧ seen.contains (r.src, r.epoch) then s
    else
      let seen' := (r.src, r.epoch) :: seen.filter (fun x => decide (s.epoch ≤ x.2 + 128))
      let s := if b.kind = 0 then { s with aln := { s.aln with seen := s.aln.seen.put nil level seen' } } else s
      let late := b.kind == 1
      s.contribute level r.epoch
        { sender := if b.kind = 3 then 2 ^ 32 + r.src else r.src, sums := [b], quality := r.quality, loss := r.flag flagLoss,
          lateIn := if late then b.present else b.lateIn }

/-- The export class a re-exported Potik record takes (R151). -/
def exportClass (s : State) (type : Nat) : Nat :=
  if type = 0x06 then 11
  else if s.image.exports.any (fun m => m.type == type && m.cls == 12) then 12 else 10

/-- A record of another type goes to the island its route names (R420, R503): to EXP with its export class, else handed over; island 14 hands
on to EXP what the export table maps. A fenced island's transfers are discarded and counted (R54). -/
def routeRecord (s : State) (r : Rec) : State :=
  match s.image.routes.find? (fun x => x.src == 4 && x.content == 0 && bit x.types r.type) with
  | none => s
  | some x =>
    let e := if r.type ≤ 0x0B ∧ r.type ≠ 0x0D then { r with cls := s.exportClass r.type } else r
    if x.dst = 12 then s.toExp 4 e
    else if !s.works x.dst then s.routeDrop 4 x.dst 0 r.type
    else
      let (r, _, s) := s.decodeRec r
      let s := s.emit (.deliver x.dst r)
      if x.dst = 14 ∧ !(s.destsOf e).isEmpty ∧ r.type ≠ 0x0D then s.toExp 14 e else s

/-- Readings that a record which failed decoding should have carried, all counted poisoned (R370). -/
def readingsOf (s : State) (r : Rec) : Nat :=
  match s.image.dies.find? (fun d => d.slot == slotOf r.src) with
  | none => 0
  | some d => if r.type = 1 then d.census else if r.type = 2 then d.groups else d.sensors

/-- The oldest record of an ingest queue taken (R173): sweeps, Health, Summaries and Coarsen requests are ALN's own; every other type goes on.
A Trace record with TRIGGERED set from a Potik of the tray fires trigger source 6 (R402). -/
def alnAccept (s : State) (queue : Nat) : State :=
  if !s.works 4 then s
  else match s.ing.queues.get nil queue with
  | [] => s
  | r :: rest =>
    let level := levelOfRecord r
    let own := r.type == 1 || r.type == 2 || r.type == 3 || r.type == 0x20
    let e := if r.type = 0x20 then r.epoch else dataEpoch r
    if own && s.mustWait level e then s
    else
      let s := { s with ing := { s.ing with queues := s.ing.queues.put nil queue rest } }
      let put := fun (s : State) (is : List AInput) =>
        let (bad, good) := is.partition (fun i => i.poison)
        s.contribute 0 e { sender := senderOf r.src, inputs := good ++ bad, quality := r.quality, loss := r.flag flagLoss,
                           poisoned := bad.length }
      let (r, failed, s) := if r.type ≤ 3 then s.decodeRec r else (r, false, s)
      if failed then
        s.contribute 0 e { sender := senderOf r.src, quality := r.quality, loss := r.flag flagLoss, poisoned := s.readingsOf r }
      else match r.type with
      | 0x01 => let (s, is) := s.takeCensus r; if is.isEmpty && bit (bytesAt r.body 2 1) 0 then s else put s is
      | 0x02 => let (s, is) := s.takeGroups r; put s is
      | 0x03 => put s (healthInputs r)
      | 0x20 => s.takeSummary r
      | 0x23 => s.coarsenRequest r.src (bytesAt r.body 0 1 % 8) (bytesAt r.body 4 6)
      | _ =>
        let s := if r.type == 0x06 && bit (bytesAt r.body 0 1) 2 && !isLevelAddr r.src then s.trigger 6 13 else s
        s.routeRecord r

/-! ### Loss tallies at a close (R172) -/

/-- The level whose close tallies a sender. -/
def levelOfSender (a : Nat) : Nat := if isLevelAddr a then (if unitOf a = 2047 then 1 else 2) else 0

/-- Records a sender lost: transit loss, less shaper drops, with a floor of 0, plus what ingest dropped. -/
def Tally.lost (t : Tally) : Nat := (t.gap - (t.shaper : Int)).toNat + t.dropped.total

/-- ING hands over the tallies of a level's senders: one Loss marker of KIND 2 each, LOSS on their contributions; the records lost in all. -/
def lossTally (s : State) (level e : Nat) : State × Nat :=
  let mine := s.ing.tallies.filter (fun t => levelOfSender t.1 == level && (decide (0 < Tally.lost t.2) || t.2.unknown))
  let s := { s with ing := { s.ing with tallies := s.ing.tallies.filter (fun t => levelOfSender t.1 != level) } }
  let s := mine.foldl (fun s t => s.send 3 0x0B 10 t.1 (2 ^ flagLoss) (lossBody 2 { t.2.dropped with total := Tally.lost t.2 } 0)) s
  (s.setEpochs (s.aln.epochs.map (fun x => if x.level = level ∧ x.epoch = e then
      { x with contribs := x.contribs.map (fun c => if mine.any (fun t => t.1 == c.sender) then { c with loss := true } else c) } else x)),
   (mine.map (fun t => Tally.lost t.2)).sum)

/-! ### Reduction (R185 to R191) -/

/-- The quantities of a level's plan. -/
def plan (s : State) (level e : Nat) : List Quantity := (s.imageFor e).plans.getD level []

/-- The inputs of a sender that a quantity selects. -/
def selected (q : Quantity) (c : Contrib) : List AInput :=
  c.inputs.filter (fun i => i.kind == q.kind && !i.poison &&
    (if q.kind = 0 then i.index == q.index && decide (q.unitLo ≤ unitOf i.src) && decide (unitOf i.src ≤ q.unitHi)
     else if q.kind = 1 then i.index % 8 == q.index && decide (q.unitLo ≤ i.index / 8) && decide (i.index / 8 ≤ q.unitHi)
     else if q.kind = 2 then decide (q.unitLo ≤ i.index) && decide (i.index ≤ q.unitHi)
     else i.index == q.index))

/-- The key order of R189 within a sender: unit, then counter, then sensor. -/
def insertInput (i : AInput) : List AInput → List AInput
  | [] => [i]
  | x :: xs => if (i.src, i.kind, i.index) = (x.src, x.kind, x.index) ∨ i.src < x.src ∨ (i.src = x.src ∧ (i.kind < x.kind ∨ (i.kind = x.kind ∧ i.index ≤ x.index)))
      then i :: x :: xs else x :: insertInput i xs

/-- The selected inputs in that order. -/
def ordered (q : Quantity) (c : Contrib) : List AInput := (selected q c).foldr insertInput []

/-- A sender's own Summary for an epoch: its primary with its supplements merged in (R184). -/
def childSum (c : Contrib) : Option SumBody :=
  match c.sums.find? (fun b => b.kind != 1), c.sums.filter (fun b => b.kind == 1) with
  | some p, sups => some (sups.foldl SumBody.supplement p)
  | none, x :: xs => some (xs.foldl SumBody.supplement x)
  | none, [] => none

/-- One sender's result of a quantity. -/
def senderAgg (level : Nat) (q : Quantity) (c : Contrib) : Agg :=
  if level = 0 then
    let a := Agg.ofInputs q (ordered q c)
    if c.inputs.any (fun i => i.poison && i.kind == q.kind) then { a with eflags := orBit a.eflags ePoison } else a
  else match childSum c with
    | some b => ((b.entries.find? (fun e => e.1 == q.number)).map (fun e => e.2)).getD (Agg.empty q)
    | none => Agg.empty q

/-- Senders in ascending order reduced left to right (R189). -/
def foldSenders (level : Nat) (q : Quantity) (cs : List Contrib) : Agg :=
  cs.foldl (fun a c => a.merge (senderAgg level q c)) (Agg.empty q)

/-- The number of a child within its level: node or group number (R189). -/
def childNo (level a : Nat) : Nat := if level = 1 then a / 2 ^ 18 % 64 else a / 2 ^ 24

/-- The split point of a level, 0 when it is not split. -/
def splitOf (s : State) (level : Nat) : Nat := s.fld (F.ALN_LEVEL_CFG_SPLIT.at level)

/-- The result of a quantity over a set of contributions: ranges A and B apart and merged in that order when the level is split (R189). A
partner's partial stands for range B (R198). -/
def reduceQuantity (s : State) (level : Nat) (q : Quantity) (cs : List Contrib) : Agg :=
  let sp := s.splitOf level
  if sp = 0 ∨ level = 0 then foldSenders level q cs
  else
    let inA := fun (c : Contrib) => decide (c.sender < 2 ^ 32) && decide (childNo level c.sender < sp)
    (foldSenders level q (cs.filter inA)).merge (foldSenders level q (cs.filter (fun c => !inA c)))

/-- The Summary content of a set of contributions to an epoch. -/
def reduceAll (s : State) (kind : Nat) (x : AEpoch) (cs : List Contrib) : SumBody :=
  let kids := cs.filterMap childSum
  { kind := kind, level := x.level, plan := (s.imageFor x.epoch).planNo, epoch := x.epoch, expected := x.expected
    res := (kids.map (fun b => b.res)).foldl max 0
    present := (cs.map (fun c => if c.sender < 2 ^ 32 then 1 else ((childSum c).map (fun b => b.present)).getD 0)).sum
    poisoned := (cs.map (fun c => c.poisoned)).sum + (kids.map (fun b => b.poisoned)).sum
    lateIn := (cs.map (fun c => c.lateIn)).sum
    lost := x.lost + (kids.map (fun b => b.lost)).sum
    quality := (cs.map (fun c => c.quality)).foldl mergeQuality 0
    loss := cs.any (fun c => c.loss)
    entries := (s.plan x.level x.epoch).map (fun q => (q.number, s.reduceQuantity x.level q cs)) }

/-! ### Sending upward (R26, R194 to R196) -/

/-- A Summary record of a level handed to EXP, and kept in the replay ring when it is a primary (R26, R191). -/
def sendSummary (s : State) (b : SumBody) : State :=
  let dst := match (s.outlet b.level).divert with
    | some (g, e) => if b.level = 0 ∧ e ≤ b.epoch then [groupAddr g] else (s.parentOf b.level).toList
    | none => (s.parentOf b.level).toList
  let (r, s) := s.mkRec 4 0x20 9 (s.levelAddr b.level) b.flags b.bytes
  let r := { r with epoch := b.epoch, offset := 0, quality := b.quality }
  let s := if b.kind = 0 ∧ b.level < 2 then
      let ring := s.aln.rings.get nil b.level ++ [r]
      { s with aln := { s.aln with rings := s.aln.rings.put nil b.level (ring.drop (ring.length - 64)) } }
    else s
  if s.silent then s else (s.emit (.directed dst r)).toExp 4 r

/-- The resolution wanted from epoch `e` on (R194): the request's STEP from its FROM_EPOCH, the level's own step, the inputs' RES. -/
def wantedRes (s : State) (level e inputs : Nat) : Nat :=
  let o := s.outlet level
  let req := match o.req with | some (_, st, f) => if f ≤ e then st else o.res | none => 0
  let self := if o.selfFrom ≤ e then s.fld (F.ALN_LEVEL_STATE_SELF_RES.at level) else o.selfOld
  max req (max self inputs)

/-- An epoch's result goes up (R194, R195): alone at RES 0, else merged into its aligned span and sent with the span's last epoch. A new
resolution begins at a multiple of its span. -/
def upward (s : State) (b : SumBody) : State :=
  let o := s.outlet b.level
  let last := fun (x : SumBody) (e : Nat) => x.epoch + 2 ^ x.res ≤ e
  match o.span with
  | some x =>
    let m := { x.merge b with res := x.res }
    if last m (b.epoch + 2 ^ b.res) then (s.modOutlet b.level (fun o => { o with span := none })).sendSummary m
    else s.modOutlet b.level (fun o => { o with span := some m })
  | none =>
    let want := s.wantedRes b.level b.epoch b.res
    let res := if b.epoch % 2 ^ want = 0 then want else min want (max o.res b.res)
    let s := (s.modOutlet b.level (fun o => { o with res := res })).setFld (F.ALN_LEVEL_STATE_OUT_RES.at b.level) res
    let m := { b with res := res }
    if last m (b.epoch + 2 ^ b.res) then s.sendSummary m
    else s.modOutlet b.level (fun o => { o with span := some m })

/-! ### Coarsening (R192, R193, R198) -/

/-- The children a level's requests and Broadcasts go to. -/
def childAddrs (s : State) (level : Nat) : List Nat := if level = 1 then s.image.groupNodes else s.image.systemGroups

/-- FROM_EPOCH of R193: the smallest multiple of 2^STEP that is at least the open epoch plus 2. -/
def fromEpoch (s : State) (step : Nat) : Nat := (s.epoch + 2 + 2 ^ step - 1) / 2 ^ step * 2 ^ step

/-- A Coarsen request of a level to its children (R192, R193). -/
def sendCoarsen (s : State) (level reason fromE : Nat) : State :=
  let step := s.fld (F.ALN_LEVEL_STATE_SELF_RES.at level)
  (s.modOutlet level (fun o => { o with sinceReq := 0 })).sendTo 4 (s.childAddrs level) 0x23 9 s.myNode 0
    (le 1 step ++ le 1 reason ++ zeros 2 ++ le 6 fromE ++ zeros 6)

/-- The level's own step changed, with its request (R192, R399). -/
def setSelfStep (s : State) (level step reason : Nat) : State :=
  let old := s.fld (F.ALN_LEVEL_STATE_SELF_RES.at level)
  let f := s.fromEpoch step
  let s := (s.setFld (F.ALN_LEVEL_STATE_SELF_RES.at level) step).modOutlet level (fun o => { o with selfFrom := f, selfOld := old })
  let s := s.trace 4 0x0B (le 1 level ++ le 1 step ++ le 1 (s.fld (F.ALN_LEVEL_STATE_BYPASS_ACTIVE.at level)))
  s.sendCoarsen level reason f

/-- A bypass begun or ended by its group master (R198). -/
def sendBypass (s : State) (level : Nat) (on : Bool) : State :=
  let partner := s.fld (F.ALN_LEVEL_CFG_PARTNER.at level)
  let f := s.fromEpoch 0
  let kids := (s.childAddrs level).filter (fun a => decide (s.splitOf level ≤ childNo level a))
  let s := s.setFld (F.ALN_LEVEL_STATE_BYPASS_ACTIVE.at level) (b2n on)
  let s := s.trace 4 0x0B (le 1 level ++ le 1 (s.fld (F.ALN_LEVEL_STATE_SELF_RES.at level)) ++ le 1 (b2n on))
  s.sendTo 4 (kids ++ [groupAddr partner]) 0x24 8 s.myNode 0
    (broadcastBody 6 0 0 f 0 0 1 (le 1 partner ++ le 1 (b2n on)))

/-- Occupancy and depth of the ingest queues that a level's streams use. -/
def levelQueues (s : State) (level : Nat) : Nat × Nat :=
  let qs := ((s.image.streams.filter (fun c => levelOfSender c.sender == level)).map (fun c => c.queue)).eraseDups
  ((qs.map (fun q => recsSize (s.ing.queues.get nil q))).sum, (qs.map (fun q => s.fld (F.ING_QUEUE_DATA_DEPTH_KIB.at q) * 1024)).sum)

/-- The coarsening decision at a close of a group or system level (R192, R198). -/
def coarsenStep (s : State) (level : Nat) : State :=
  let (used, depth) := s.levelQueues level
  let back := decide (2 ≤ (s.aln.epochs.filter (fun e => e.level == level && e.st == 1)).length)
  let high := decide (depth * s.fld F.ALN_CFG_COARSEN_HI < used * 100)
  let sat := high || back
  let step := s.fld (F.ALN_LEVEL_STATE_SELF_RES.at level)
  let n := max 1 (s.fld F.ALN_CFG_COARSEN_N)
  let s := s.setFld (F.ALN_LEVEL_STATE_SATURATED.at level) (b2n sat)
  if sat then
    let s := (s.incFld (F.ALN_LEVEL_STATE_SAT_CONSEC.at level)).modOutlet level (fun o => { o with quiet := 0 })
    if s.fld (F.ALN_LEVEL_STATE_SAT_CONSEC.at level) % n = 0 then
      if s.flag F.ALN_CFG_BYPASS_EN && level == 1 && s.splitOf level != 0 && s.flag (F.ALN_LEVEL_CFG_PARTNER_VALID.at level) &&
         !s.flag (F.ALN_LEVEL_STATE_BYPASS_ACTIVE.at level) && step == 0 && (s.outlet level).bypassFrom.isNone then
        s.sendBypass level true
      else if step < min 6 (s.fld F.ALN_CFG_MAX_STEP) then s.setSelfStep level (step + 1) (if high then 0 else 1)
      else s
    else s
  else
    let s := s.setFld (F.ALN_LEVEL_STATE_SAT_CONSEC.at level) 0
    if used * 100 < depth * s.fld F.ALN_CFG_COARSEN_LO ∧ (s.aln.epochs.filter (fun e => e.level == level && e.st == 1)).isEmpty then
      let q := (s.outlet level).quiet + 1
      if q < s.fld F.ALN_CFG_RELEASE_N then s.modOutlet level (fun o => { o with quiet := q })
      else
        let s := s.modOutlet level (fun o => { o with quiet := 0 })
        if step = 0 then
          (if s.flag (F.ALN_LEVEL_STATE_BYPASS_ACTIVE.at level) then s.sendBypass level false else s)
        else s.setSelfStep level (step - 1) 2
    else s.modOutlet level (fun o => { o with quiet := 0 })

/-! ### Closing (R180 to R183) -/

/-- The late supplements of a level's reduced epochs, sent at this close (R183). -/
def lateSupplements (s : State) (level : Nat) : State :=
  let due := s.aln.epochs.filter (fun x => x.level == level && x.st == 2 && !x.late.isEmpty)
  let s := due.foldl (fun s x => s.sendSummary { s.reduceAll 1 x x.late with expected := 0, lost := 0 }) s
  s.setEpochs (s.aln.epochs.map (fun x => if x.level = level ∧ x.st = 2 then { x with late := [] } else x))

/-- Epochs of a level one close older; those past their horizon are dropped. -/
def ageEpochs (s : State) (level : Nat) : State :=
  s.setEpochs ((s.aln.epochs.map (fun x => if x.level = level ∧ x.st ≠ 0 then { x with age := x.age + 1 } else x)).filter
    (fun x => x.st < 2 || decide (x.age ≤ s.lateHorizon)))

/-- The oldest open epoch of a level closes (R180, R181): missing senders counted, tallies taken, late supplements sent, coarsening judged. In
Winter state or reset of ALN it is abandoned (R466). -/
def epochClose (s : State) (level : Nat) : State :=
  match s.aln.epochs.find? (fun x => x.level == level && x.st == 0) with
  | none => s
  | some x =>
    let e := x.epoch
    let mark := fun (st : Nat) (s : State) => s.setEpochs (s.aln.epochs.map (fun y =>
      if y.level = level ∧ y.epoch = e then { y with st := st } else y))
    if !s.works 4 || s.inReset then mark 3 s
    else
      let missing := x.expected - (x.contribs.filter (fun c => decide (c.sender < 2 ^ 32))).length
      let s := s.lateSupplements level
      let (s, lost) := s.lossTally level e
      let s := (s.setEpochs (s.aln.epochs.map (fun y => if y.level = level ∧ y.epoch = e then { y with lost := lost } else y))).ageEpochs level
      let s := mark 1 s
      let s := s.addFld (F.ALN_LEVEL_CNT_MISSING.at level) missing
      let s := if level = 0 then s.setFld F.ALN_STATUS_LAST_CLOSED e else s
      let s := s.trace 4 5 (le 1 level ++ zeros 3 ++ le 6 e ++ le 1 (min 255 missing))
      if level = 0 then s else s.coarsenStep level

/-- The requester resends its request every 64 epochs while its step is above 0 (R193). -/
def coarsenResend (s : State) (level : Nat) : State :=
  if !s.works 4 || s.fld (F.ALN_LEVEL_STATE_SELF_RES.at level) = 0 || level = 0 then s
  else s.sendCoarsen level 0 (s.outlet level).selfFrom

/-- A bypass Broadcast received (R198): a node of range B sends its Summaries to the partner from the epoch on, or to its parent again; a partner
that is saturated itself refuses. -/
def bypassBroadcast (s : State) (src partner : Nat) (on : Bool) (act : Nat) : State :=
  let s := if s.mgt.nodeTree.parent = some src then
      s.modOutlet 0 (fun o => { o with divert := if on then some (partner, act) else none })
    else s
  if s.masterOf .group ∧ s.group = partner ∧ on ∧ s.flag (F.ALN_LEVEL_STATE_SATURATED.at 1) then
    s.sendTo 14 [src] 0x25 8 s.myNode 0 (ackBody 6 1 0 0 0 0)
  else s

/-- The partner refuses: the bypass ends and the group master coarsens instead (R198). -/
def bypassRefusal (s : State) (src : Nat) : State :=
  if s.flag (F.ALN_LEVEL_STATE_BYPASS_ACTIVE.at 1) ∧ src / 2 ^ 24 = s.fld (F.ALN_LEVEL_CFG_PARTNER.at 1) then
    let s := (s.setFld (F.ALN_LEVEL_STATE_BYPASS_ACTIVE.at 1) 0).modOutlet 1 (fun o => { o with bypassFrom := some s.epoch })
    let step := s.fld (F.ALN_LEVEL_STATE_SELF_RES.at 1)
    if step < min 6 (s.fld F.ALN_CFG_MAX_STEP) then s.setSelfStep 1 (step + 1) 0 else s
  else s

end State

/-- ALN_RECORD_ACCEPT (R173). -/
def execAlnRecordAccept (queue : Nat) (s : State) : Host.Outcome State Fault Refusal := s.run (fun s => s.alnAccept queue)

/-- EPOCH_CLOSE (R180). -/
def execEpochClose (level : Nat) (s : State) : Host.Outcome State Fault Refusal := s.run (fun s => s.epochClose level)

/-- COARSEN_REQUEST (R194). -/
def execCoarsenRequest (src step fromEpoch : Nat) (s : State) : Host.Outcome State Fault Refusal :=
  s.run (fun s => if s.works 4 then s.coarsenRequest src step fromEpoch else s)

/-- COARSEN_RESEND (R193). -/
def execCoarsenResend (level : Nat) (s : State) : Host.Outcome State Fault Refusal := s.run (fun s => s.coarsenResend level)

/-- BYPASS_BROADCAST (R198). -/
def execBypassBroadcast (src partner : Nat) (begin_ : Bool) (actEpoch : Nat) (s : State) : Host.Outcome State Fault Refusal :=
  s.run (fun s => s.bypassBroadcast src partner begin_ actEpoch)

/-- BYPASS_REFUSAL (R198). -/
def execBypassRefusal (src : Nat) (s : State) : Host.Outcome State Fault Refusal := s.run (fun s => s.bypassRefusal src)

end Sys2Proof.Machine
end

