-- ==== Sys2Proof/Machine/Trace.lean ====
section
/-! DEFINITION. TRC: captures, their export, re-arming, loss markers and the block-wide control of the programmable counters (16). -/

namespace Sys2Proof.Machine

/-- The 24-byte beat entry of R159 as TRC fills it (R397). -/
def TrcEntry.beat (e : TrcEntry) : Bytes :=
  le 4 e.offset ++ le 1 (e.source % 128 + 128 * b2n e.sync) ++ le 2 e.quality ++ zeros 1 ++ le 2 e.code ++ le 2 e.iseq ++
    (e.payload ++ zeros 12).take 12

/-- A 32-byte slot of the trace ring (R397). -/
def TrcEntry.slot (e : TrcEntry) : Bytes := e.beat ++ le 6 e.epoch ++ zeros 2

/-- A snapshot item: beat with the item code in bytes 8–9 and its payload from byte 10 (R409). -/
def TrcEntry.item (e : TrcEntry) : Bytes :=
  le 4 e.offset ++ le 1 (e.source % 128) ++ le 2 e.quality ++ zeros 1 ++ le 2 e.code ++ (e.payload ++ zeros 14).take 14

/-- The body of a Trace record (R159, R365): sub-header, and the block of the beats with generation 0 and width 8. -/
def traceBody (mode : Nat) (triggered : Bool) (first last n : Nat) (beats : Bytes) : Bytes :=
  le 1 (mode % 4 + 4 * b2n triggered) ++ zeros 3 ++ le 4 n ++ le 4 first ++ le 4 last ++ encodeBlock 3 0 [] beats

/-- COMP of a body whose block starts at byte 16 (R365). -/
def traceComp (body : Bytes) : Nat := if blockRaw (body.drop 16) then 2 else 1

/-- Beats that one block takes of a list (R371, R404): of one epoch, at most `raw` of them, and coded in at most `room` bytes. -/
def blockBeats (room raw : Nat) (enc : TrcEntry → Bytes) : Nat → List TrcEntry → List TrcEntry → List TrcEntry
  | 0, taken, _ => taken
  | _ + 1, taken, [] => taken
  | fuel + 1, taken, e :: es =>
    let next := taken ++ [e]
    let sameEpoch := match taken with | [] => true | x :: _ => x.epoch == e.epoch
    if sameEpoch && decide (next.length ≤ raw) &&
       (taken.isEmpty || decide ((codeTokens 8 [] (24 * next.length + 1) 0 (elements 8 (24 * next.length + 1) ((next.map enc).flatten))).length ≤ room))
    then blockBeats room raw enc fuel next es else taken

namespace State

/-- Every destination queue of a record has room for it (R376, R379). -/
def roomFor (s : State) (r : Rec) : Bool :=
  (s.destsOf r).all (fun d => s.destHeld d ||
    decide (recsSize (s.queue d (r.cls - 8)).recs + r.size + markerSize ≤ (s.destCfg d).depthKib.getD (r.cls - 8) 0 * 1024))

/-- A Trace record of TRC (R404, R410); with a full queue the job fails as a whole and is retried later (R376). True when it was handed on. -/
def sendTrace (s : State) (mode : Nat) (triggered : Bool) (es : List TrcEntry) (enc : TrcEntry → Bytes) (epoch : Nat) : Bool × State :=
  let first := (es.head?.map (fun e => e.offset)).getD 0
  let last := (es.getLast?.map (fun e => e.offset)).getD 0
  let body := traceBody mode triggered first last es.length ((es.map enc).flatten)
  let (r, s') := s.mkRec 13 0x06 11 s.myNode 0 body
  let r := { r with comp := traceComp body, epoch := epoch, offset := first }
  if !s.works 9 || !s.roomFor r then (false, if s.works 9 then s.incFld F.COD_CNT_NOSPACE else s)
  else (true, (s'.incFld (if r.comp = 2 then F.COD_CNT_RAW_STORED else F.COD_CNT_CODED)).toExp 13 r)

/-- Output limit of a live block of COD (R371). -/
def liveOut (s : State) : Nat := max 1 (s.fld F.COD_CFG_LIVE_OUT_KIB) * 1024

/-- The capture's records handed on, oldest entries first (R404); the block of the open epoch stays open while the capture grows, unless
`flush` ends it. `fuel` bounds the records. -/
def exportCapture (flush : Bool) : Nat → State → State
  | 0, s => s
  | fuel + 1, s =>
    let left := (s.trc.pre ++ s.trc.reserve).drop s.trc.exported
    let es := blockBeats s.liveOut 21842 TrcEntry.beat left.length [] left
    match es with
    | [] => if s.fld F.TRC_STATUS_STATE = 3 then s.setFld F.TRC_STATUS_EXPORTING 0 else s
    | e :: _ =>
      if !flush && s.fld F.TRC_STATUS_STATE == 2 && es.length == left.length && e.epoch == s.epoch then s
      else
        let (ok, s') := s.sendTrace 2 true es TrcEntry.beat e.epoch
        if ok then exportCapture flush fuel { s' with trc := { s'.trc with exported := s'.trc.exported + es.length } } else s'

/-- The snapshot's records handed on; BUSY falls after the last one (R408, R410). -/
def exportSnap : Nat → State → State
  | 0, s => s
  | fuel + 1, s =>
    let left := s.trc.snap.drop s.trc.snapExported
    let es := blockBeats s.liveOut 21842 TrcEntry.item left.length [] left
    if es.isEmpty then s.setFld F.TRC_SNAP_BUSY 0
    else
      let (ok, s') := s.sendTrace 3 false es TrcEntry.item s.trc.snapEpoch
      if ok then exportSnap fuel { s' with trc := { s'.trc with snapExported := s'.trc.snapExported + es.length } } else s'

/-- Whatever of the capture and of the snapshot can be handed to EXP; nothing in Winter state or reset of TRC (R407). -/
def exportTrace (s : State) (flush : Bool) : State :=
  if !s.works 13 then s
  else
    let s := if s.flag F.TRC_STATUS_EXPORTING then exportCapture flush (s.trc.pre.length + s.trc.reserve.length + 1) s else s
    if s.flag F.TRC_SNAP_BUSY then exportSnap (s.trc.snap.length + 1) s else s

/-- TRACE_MESSAGE (R398): the message is offered, and TRC accepts up to 4 waiting entries. -/
def traceMessage (s : State) (n code : Nat) (payload : Bytes) : State :=
  acceptEntries 4 (s.trace n code payload)

/-- TRIG written (R402), directly or by a query. -/
def trigWrite (s : State) : State := (s.trigger 0 13).exportTrace false

/-- The trigger reserve is full (R401). -/
def reserveFull (s : State) : State :=
  if s.fld F.TRC_STATUS_STATE = 2 ∧ s.reserveSlots ≤ s.trc.reserve.length ∧ s.works 13 then s.freezeTrace.exportTrace true else s

/-- At a tick, POST_EPOCHS ticks after the trigger (R401). -/
def postExpire (s : State) : State :=
  let n := s.fld F.TRC_CTRL_POST_EPOCHS
  if s.fld F.TRC_STATUS_STATE = 2 ∧ n ≠ 0 ∧ n ≤ s.trc.sinceTrigger ∧ s.works 13 then s.drainTrace.freezeTrace.exportTrace true else s

/-- RESERVE_PCT as it acts. -/
def reservePct (s : State) : Nat := max 1 (min 75 (s.fld F.TRC_CTRL_RESERVE_PCT))

/-- The ring emptied and TRC ARMED (R401), with the REARM marker (R399). -/
def armTrace (s : State) (marker : Bool) : State :=
  let e : TrcEntry := { source := 127, code := 0x12, payload := le 4 s.trc.frozenLost, epoch := s.epoch, offset := s.stamp, quality := s.quality 13 }
  let s := s.setFld F.TRC_STATUS_STATE 1
  let s := s.setFld F.TRC_STATUS_EXPORTING 0
  { s with trc := { s.trc with
    pre := if marker ∧ s.traceSlots ≠ 0 then [e] else [], reserve := [], exported := 0, frozenLost := 0, rearmDue := false
    pct := s.reservePct, slots := s.traceSlots } }

/-- At a tick: re-arm after REARM was written, or with AUTO_REARM once the capture has been handed on (R401). -/
def rearm (s : State) : State :=
  if s.fld F.TRC_CTRL_MODE != 1 || !s.works 13 then s
  else if s.trc.rearmDue || (s.flag F.TRC_CTRL_AUTO_REARM && s.fld F.TRC_STATUS_STATE == 3 && !s.flag F.TRC_STATUS_EXPORTING) then s.armTrace true
  else s

/-- REARM written: re-arm at the next tick. -/
def rearmWrite (s : State) : State := { s with trc := { s.trc with rearmDue := true } }

/-- MODE written (R401): 1 arms an idle TRC; any other value turns it off. -/
def traceMode (s : State) : State :=
  if s.fld F.TRC_CTRL_MODE = 1 then (if s.fld F.TRC_STATUS_STATE = 0 then s.armTrace false else s)
  else s.setFld F.TRC_STATUS_STATE 0

/-- At a tick TRACE_BOOST clears when nothing remains to be handed on, or after BOOST_MAX epochs (R405). -/
def boostExpire (s : State) : State :=
  if s.flag F.EXP_CFG_TRACE_BOOST &&
     ((!s.flag F.TRC_STATUS_EXPORTING && !s.flag F.TRC_SNAP_BUSY) || decide (s.fld F.TRC_CTRL_BOOST_MAX ≤ s.trc.sinceBoost))
  then s.setFld F.EXP_CFG_TRACE_BOOST 0 else s

/-- At a tick, the KIND 1 Loss marker of lost entries (R406). -/
def traceLossMarker (s : State) : State :=
  if !s.works 13 || s.trc.loss.total = 0 then s
  else
    let l := s.trc.loss
    ({ s with trc := { s.trc with loss := {} } }).send 13 0x0B 10 s.myNode (2 ^ flagLoss) (lossBody 1 l 0)

/-- What a tick does to TRC: entries accepted, epochs counted, records handed on, the marker of losses. -/
def traceTick (s : State) : State :=
  let s := s.drainTrace
  let s := { s with trc := { s.trc with sinceTrigger := s.trc.sinceTrigger + 1, sinceBoost := s.trc.sinceBoost + 1 } }
  (s.exportTrace false).traceLossMarker

/-- A warm reset or an island reset of TRC (R407): while ARMED the pre-trigger part is frozen as a capture of source 8; what waits in the FIFOs
is lost and not counted. -/
def traceReset (s : State) : State :=
  let s := { s with trc := { s.trc with fifos := [], lostFlag := [], rearmDue := false } }
  if s.fld F.TRC_STATUS_STATE = 1 then
    let s := { s with trc := { s.trc with reserve := [], exported := 0, sinceTrigger := 0 } }
    let s := ((s.setFld F.TRC_STATUS_STATE 3).setFld F.TRC_STATUS_TRIG_SOURCE 8).setFld F.TRC_STATUS_EXPORTING 1
    let s := (s.setFld F.TRC_CAPTURE0_TRIG_EPOCH s.epoch).setFld F.TRC_CAPTURE1_TRIG_OFFSET s.stamp
    s.setFld F.TRC_CAPTURE1_PRE_ENTRIES (min 0xFFFFFFFF s.trc.pre.length)
  else s

/-! ### The programmable counters (R413, R415) -/

/-- A counter wraps (R413): from all ones to 0, with OVF and, if enabled, the interrupt. -/
def pmcOverflow (s : State) (n k : Nat) : State :=
  if !s.flag (pmcField n k F.PMSEL_EN) || s.flag F.TRC_PMC_CTRL_FROZEN then s
  else
    let s := (s.setFld (pmcField n k F.PMC_VALUE) 0).setFld (pmcField n k F.PMSEL_OVF) 1
    if s.flag (pmcField n k F.PMSEL_OVF_INT) then s.pend n 2 else s

/-- Counters cleared whose place passes `p` (island, counter). -/
def clearPmcs (s : State) (p : Nat → Nat → Bool) : State :=
  (List.range 100).foldl (fun s n => (List.range 8).foldl (fun s k =>
    if p n k && s.fld (pmcField n k F.PMC_VALUE) != 0 then s.setFld (pmcField n k F.PMC_VALUE) 0 else s) s) s

/-- FREEZE acts at a tick (R415); UNFREEZE of the same tick wins. -/
def pmcFreeze (s : State) : State :=
  if !s.flag F.TRC_PMC_CTRL_FREEZE then s
  else
    let s := s.setFld F.TRC_PMC_CTRL_FREEZE 0
    if s.flag F.TRC_PMC_CTRL_UNFREEZE then s
    else (s.setFld F.TRC_PMC_CTRL_FROZEN 1).setFld F.TRC_PMC_CTRL_FREEZE_EPOCH s.epoch

/-- UNFREEZE acts at a tick (R415). -/
def pmcUnfreeze (s : State) : State :=
  if !s.flag F.TRC_PMC_CTRL_UNFREEZE then s
  else ((s.setFld F.TRC_PMC_CTRL_UNFREEZE 0).setFld F.TRC_PMC_CTRL_FREEZE 0).setFld F.TRC_PMC_CTRL_FROZEN 0

/-- CLEAR acts at a tick (R415). -/
def pmcClear (s : State) : State :=
  if !s.flag F.TRC_PMC_CTRL_CLEAR then s else (s.setFld F.TRC_PMC_CTRL_CLEAR 0).clearPmcs (fun _ _ => true)

/-- TICK_CLEAR acts at a tick (R413). -/
def pmcTick (s : State) : State := s.clearPmcs (fun n k => s.flag (pmcField n k F.PMSEL_TICK_CLEAR))

/-- A live coder of COD ends its block (R371). -/
def flushCoder (s : State) : LiveCoder → State
  | .archive k => match s.image.archives[k]? with
    | some c => if s.works 9 then (s.archFlush k c).2 else s
    | none => s
  | .trc => s.exportTrace true
  | .potik _ => s

end State

/-- TRACE_MESSAGE (R398). -/
def execTraceMessage (island code : Nat) (payload : Bytes) (s : State) : Host.Outcome State Fault Refusal :=
  s.run (fun s => s.traceMessage island code payload)

/-- TRC_TRIG_WRITE (R402). -/
def execTrcTrigWrite (s : State) : Host.Outcome State Fault Refusal := s.run (fun s => s.trigWrite)

/-- RESERVE_FULL (R401). -/
def execReserveFull (s : State) : Host.Outcome State Fault Refusal := s.run (fun s => s.reserveFull)

/-- POST_EPOCHS_EXPIRE (R401). -/
def execPostEpochsExpire (s : State) : Host.Outcome State Fault Refusal := s.run (fun s => s.postExpire)

/-- REARM (R401). -/
def execRearm (s : State) : Host.Outcome State Fault Refusal := s.run (fun s => s.rearm)

/-- TRC_REARM_WRITE (R401). -/
def execTrcRearmWrite (s : State) : Host.Outcome State Fault Refusal := s.run (fun s => s.rearmWrite)

/-- BOOST_EXPIRE (R405). -/
def execBoostExpire (s : State) : Host.Outcome State Fault Refusal := s.run (fun s => s.boostExpire)

/-- SNAP_REQUEST (R408). -/
def execSnapRequest (epoch : Nat) (s : State) : Host.Outcome State Fault Refusal := s.run (fun s => s.snapRequest epoch)

/-- PMC_FREEZE (R415). -/
def execPmcFreeze (s : State) : Host.Outcome State Fault Refusal := s.run (fun s => s.pmcFreeze)

/-- PMC_UNFREEZE (R415). -/
def execPmcUnfreeze (s : State) : Host.Outcome State Fault Refusal := s.run (fun s => s.pmcUnfreeze)

/-- PMC_CLEAR (R415). -/
def execPmcClear (s : State) : Host.Outcome State Fault Refusal := s.run (fun s => s.pmcClear)

/-- PMC_OVERFLOW (R413). -/
def execPmcOverflow (island counter : Nat) (s : State) : Host.Outcome State Fault Refusal := s.run (fun s => s.pmcOverflow island counter)

end Sys2Proof.Machine
end

