-- ==== Sys2Proof/Machine/Servo.lean ====
section
/-! DEFINITION. The servo of R71 to R74, R78 and R476, which TIM and every Potik run: how a measurement, a Winter state and a
reset change it. -/

namespace Sys2Proof.Machine

/-- One ns in units of time values (R60). -/
abbrev nsUnit : Int := 65536

/-- The bound of a rate correction, 200 ppm in 2^-48 steps (R72). -/
abbrev rateLimit : Int := 56294995342

/-- Servo parameters in the layout of STB_TIM_SERVO_CFG, which PTK_TIME_SERVO_CFG shares (R91, R505): thresholds in 2^-16 ns. -/
structure ServoCfg where
  step : Int
  unlock : Int
  lock : Int
  kp : Nat
  ki : Nat
  holdoverN : Nat
  /-- Sync interval in ns: 2^-LOG_SYNC s (R63). -/
  interval : Nat
  /-- HOLDOVER_LIMIT in ns. -/
  limit : Nat
deriving DecidableEq, Repr

/-- The parameters that a configuration register holds. -/
def ServoCfg.ofReg (w : Word) : ServoCfg :=
  { step := (getBits w 0 16 : Int) * nsUnit, unlock := (getBits w 16 16 : Int) * nsUnit, lock := (getBits w 32 8 : Int) * nsUnit,
    kp := getBits w 40 4, ki := getBits w 44 4, holdoverN := getBits w 48 4, interval := 1000000000 / 2 ^ getBits w 52 4,
    limit := getBits w 56 8 * 10000000 }

/-- A measurement inserted into an ascending list. -/
def insertAsc (x : Int) : List Int → List Int
  | [] => [x]
  | y :: ys => if x ≤ y then x :: y :: ys else y :: insertAsc x ys

/-- The median of four measurements: the mean of the middle two, rounded toward zero (R72). -/
def median4 (ms : List Int) : Int :=
  let l := ms.foldr insertAsc []
  Int.tdiv (l.getD 1 0 + l.getD 2 0) 2

/-- The rate of R72 before the clamp, in 2^-48 steps, for an offset and an integral in 2^-16 ns: to the nearest step, a half upwards. -/
def rawRate (c : ServoCfg) (o sum : Int) : Int :=
  let den : Int := (2 ^ (c.kp + c.ki) * c.interval : Nat)
  let num : Int := -(o * (2 ^ c.ki : Nat) + sum * (2 ^ c.kp : Nat)) * (2 ^ 32 : Nat)
  (2 * num + den) / (2 * den)

/-- What a measurement does beside the servo's own state: a relock counted, a clamped rate, a step due (the median to subtract). -/
structure ServoOut where
  relock : Bool := false
  sat : Bool := false
  step : Option Int := none
deriving DecidableEq, Repr

namespace Servo

/-- The servo enters a state: its runs of measurements start anew. -/
def enter (v : Servo) (st : Nat) : Servo := { v with st := st, lockRun := 0, unlockRun := 0 }

/-- The rate correction for an offset (R72). -/
def correct (c : ServoCfg) (v : Servo) (o : Int) : Servo × ServoOut :=
  let sum := v.sum + o
  let r := rawRate c o sum
  ({ v with sum := sum, rate := max (-rateLimit) (min rateLimit r) }, { sat := decide (r < -rateLimit ∨ rateLimit < r) })

/-- A measurement in SLEW or LOCKED (R71 to R73). -/
def track (c : ServoCfg) (v : Servo) (o : Int) : Servo × ServoOut :=
  let un := if c.unlock < o.natAbs then v.unlockRun + 1 else 0
  if 8 ≤ un then ({ v.enter 1 with acq := [o] }, { relock := true })
  else
    let lk := if (o.natAbs : Int) ≤ c.lock then v.lockRun + 1 else 0
    ({ v with unlockRun := un, lockRun := lk, st := if v.st = 2 ∧ 16 ≤ lk then 3 else v.st }).correct c o

/-- A measurement `o` of the servo (R71 to R74): a step that becomes due is the caller's to apply or to keep for the tick. -/
def measure (c : ServoCfg) (v : Servo) (o : Int) : Servo × ServoOut :=
  match v.st with
  | 0 => ({ v.enter 1 with acq := [o] }, {})
  | 1 =>
    if v.stepDue.isSome then (v, {})
    else
      let acq := v.acq ++ [o]
      if acq.length < 4 then ({ v with acq := acq }, {})
      else
        let m := median4 acq
        let v := { v with acq := [] }
        if c.step < m.natAbs then (v, { step := some m }) else ({ v.enter 2 with sum := 0 }, {})
  | 2 => v.track c o
  | 3 => v.track c o
  | _ => if (o.natAbs : Int) ≤ c.unlock then (v.enter 2).track c o else ({ v.enter 1 with acq := [o] }, {})

/-- The servo after its step has been applied (R72). -/
def stepped (v : Servo) : Servo := { v.enter 2 with sum := 0, stepDue := none, acq := [] }

/-- After a warm reset, or an island reset of TIM (R476, R502): HOLDOVER from SLEW on, LOCKED for a free grandmaster; measurements of ACQUIRE
discarded. -/
def afterReset (free : Bool) (v : Servo) : Servo :=
  if 2 ≤ v.st then { v.enter (if free then 3 else 4) with stepDue := none }
  else { v with acq := [], stepDue := none }

end Servo
end Sys2Proof.Machine
end

