-- ==== Sys2Proof/Machine/Time.lean ====
section
/-! DEFINITION. TIM: fleet time, the PTP exchanges, the servo's use, captures, pulse outputs and loop closure (03). -/

namespace Sys2Proof.Machine

/-- LNK's fixed corrections of R66 in 2^-16 ns: 3 LNK cycles (2.5 ns) on transmit, 5 (4.17 ns) on receive. -/
abbrev lnkTx : Int := 163840
abbrev lnkRx : Int := 273067

/-- A time value of R60 from its fields: low part [63:0] of TIME_LO and seconds [47:16]. -/
def timeOf (lo hi : Nat) : Int :=
  (((hi % 2 ^ 32 * 2 ^ 16 + lo / 2 ^ 48 % 2 ^ 16) * 1000000000 + lo / 2 ^ 16 % 2 ^ 32) * 65536 + lo % 2 ^ 16 : Nat)

/-- The low part of a time value: FRAC, NS, SEC_LO (R91). -/
def timeLo (t : Int) : Nat :=
  let n := t.toNat
  n % 65536 + n / 65536 % 1000000000 * 2 ^ 16 + n / 65536 / 1000000000 % 2 ^ 16 * 2 ^ 48

/-- The high part of a time value: seconds [47:16]. -/
def timeHi (t : Int) : Nat := t.toNat / 65536 / 1000000000 / 2 ^ 16 % 2 ^ 32

/-- A time in 2^-16 ns in units of 0.25 ns, towards minus infinity. -/
def quarters (t : Int) : Int := t * 4 / 65536

namespace State

/-! ### Small views -/

/-- TIM sends and receives PTP: in operation, in stage TIME or ARMED (R2, R78, R478). -/
def ptpOn (s : State) : Bool := s.works 1 && (s.fld F.MGT_BOOT_STAGE == 4 || s.fld F.MGT_BOOT_STAGE == 5)

/-- The block is armed (R481). -/
def isArmed (s : State) : Bool := s.fld F.MGT_BOOT_STAGE == 5

/-- The grandmaster's SOURCE is PPS (R84). -/
def ppsSource (s : State) : Bool := s.flag F.TIM_GM_SOURCE

/-- A time link of the image, by its index. -/
def timeLink (s : State) (k : Nat) : Option TimeLink := s.image.timeLinks[k]?

/-- The exchanges of a time link. -/
def tlink (s : State) (k : Nat) : TLink := s.tim.links.get (fun _ => {}) k

/-- The exchanges of a time link brought through `f`. -/
def modTlink (s : State) (k : Nat) (f : TLink → TLink) : State :=
  { s with tim := { s.tim with links := s.tim.links.mod (fun _ => {}) k f } }

/-- The counter read at `now`. -/
def atTime (s : State) (now : Int) : State := { s with tim := { s.tim with time := now } }

/-! ### The servo of TIM -/

/-- The servo set, with the trace message of a change of state (R399). -/
def setServo (s : State) (v : Servo) (o : Int) : State :=
  let old := s.tim.servo.st
  let s := { s with tim := { s.tim with servo := v } }
  if old = v.st then s
  else s.trace 1 0x0C (le 1 old ++ le 1 v.st ++ zeros 2 ++ le 4 (toField 32 (clampSigned 32 (quarters o))))

/-- Later edges of output `n` after a forward step: an edge that the step passes over is not produced (R81). -/
def passPulse (t : Int) (period : Nat) (mode : Nat) (p : Pulse) : Pulse :=
  match p.next with
  | none => p
  | some e =>
    if t < e then p
    else if mode = 2 ∧ period ≠ 0 then { p with next := some (e + ((t - e) / period + 1) * period) }
    else { p with next := none }

/-- The counter moved by `d` in one step (R72, R74): the advance within the open epoch is untouched, so its opening moves along. -/
def moveTime (s : State) (d : Int) : State :=
  let t := s.tim.time + d
  { s with tim := { s.tim with
    time := t, opened := s.tim.opened + d
    pulses := s.tim.pulses.foldl (fun p e =>
      Tab.put (fun _ => {}) p e.1 (passPulse t (s.fld (F.TIM_PULSE_PERIOD_PERIOD.at e.1)) (s.fld (F.TIM_PULSE_CFG_MODE.at e.1)) e.2)) [] } }

/-- A measurement of TIM with its mean path delay (R69, R72, R74): a step is applied at once unless the block is armed, when it waits for the
tick. -/
def measured (s : State) (interval : Option Nat) (o mean : Int) : State :=
  if !s.works 1 then s
  else
    let c := ServoCfg.ofReg (s.reg F.TIM_SERVO_CFG_STEP_THRESH.addr)
    let c := match interval with | some i => { c with interval := i } | none => c
    let s := (s.setFld F.TIM_OFFSET_OFFSET (toField 32 (clampSigned 32 (quarters o)))).setFld F.TIM_OFFSET_MEAN_DELAY
      (max 0 (min 0xFFFFFFFF (quarters mean))).toNat
    let s := { s with tim := { s.tim with silent := 0 } }
    let (v, out) := s.tim.servo.measure c o
    let s := if out.relock then s.incFld F.TIM_SERVO_RELOCKS else s
    let s := s.setIf out.sat F.TIM_SERVO_RATE_SAT 1
    match out.step with
    | none => s.setServo v o
    | some m =>
      if s.isArmed then s.setServo { v with stepDue := some m } o
      else (s.moveTime (-m)).setServo v.stepped o

/-! ### PTP exchanges (R63 to R70) -/

/-- The link measures: a parent link unless the block is grandmaster, or a closure link. -/
def measures (s : State) (l : TimeLink) : Bool := (l.use == 0 && !s.grandmaster) || l.use == 2

/-- An offset measured on link `k` (R69): a parent link's feeds the servo, a closure link's is kept for the report (R88). The asymmetry of a
closure link is that of the direction from the lower to the higher group. -/
def linkOffset (s : State) (k : Nat) (l : TimeLink) (d mean : Int) : State :=
  let asym := (s.tlink k).asym
  if l.use = 2 then
    let a := if s.group < l.peer then -asym else asym
    s.modTlink k (fun x => { x with closure := some (d - mean - a) })
  else s.measured none (d - mean - asym) mean

/-- A Sync is complete (R69, R70): `d` is t2 − t1 − c_sync. With the peer-to-peer mechanism it completes a measurement. -/
def syncComplete (s : State) (k : Nat) (l : TimeLink) (d : Int) : State :=
  let s := s.modTlink k (fun x => { x with sync := some d, wait := none })
  if l.p2p then
    match (s.tlink k).meanLink with
    | some m => s.linkOffset k l d m
    | none => s
  else s

/-- A Sync received (R69, R70). -/
def syncReceive (s : State) (k seqId : Nat) (twoStep : Bool) (t1 t2 corr : Int) : State :=
  match s.timeLink k with
  | none => s
  | some l =>
    if !s.ptpOn || !s.measures l then s
    else if twoStep then s.modTlink k (fun x => { x with wait := some { seqId := seqId, t2 := t2 - lnkRx, corr := corr } })
    else s.syncComplete k l (t2 - lnkRx - t1 - corr)

/-- A Follow_Up received (R70): with another sequenceId both are discarded. -/
def followUp (s : State) (k seqId : Nat) (t1 corr : Int) : State :=
  match s.timeLink k, (s.tlink k).wait with
  | some l, some w =>
    if !s.ptpOn || !s.measures l then s
    else if w.seqId = seqId then s.syncComplete k l (w.t2 - t1 - w.corr - corr)
    else s.modTlink k (fun x => { x with wait := none })
  | _, _ => s

/-- No Follow_Up within a sync interval (R70). -/
def followUpTimeout (s : State) (k : Nat) : State := s.modTlink k (fun x => { x with wait := none })

/-- A Delay_Req received on a child or closure link is answered (R63, R88). -/
def delayReq (s : State) (k seqId : Nat) (rx corr : Int) : State :=
  match s.timeLink k with
  | none => s
  | some l => if !s.ptpOn || l.use == 0 then s else s.emit (.ptp k (.delayResp seqId (rx - lnkRx) corr))

/-- A Delay_Resp received (R69): with the outstanding Delay_Req and the latest Sync it completes a measurement. -/
def delayResp (s : State) (k seqId : Nat) (t4 corr : Int) : State :=
  match s.timeLink k, (s.tlink k).dreq with
  | some l, some q =>
    if !s.ptpOn || !s.measures l || l.p2p || q.1 != seqId then s
    else
      let d := (s.tlink k).sync
      let s := s.modTlink k (fun x => { x with dreq := none })
      match d with
      | none => s
      | some d => s.linkOffset k l d ((d + (t4 - q.2 - corr)) / 2)
  | _, _ => s

/-- A Pdelay_Req received is answered in one-step form (R63). -/
def pdelayReq (s : State) (k seqId : Nat) (rx tx corr : Int) : State :=
  if !s.ptpOn || (s.timeLink k).isNone then s
  else s.emit (.ptp k (.pdelayResp seqId (corr + (tx + lnkTx - (rx - lnkRx)))))

/-- A Pdelay_Resp received (R63, R69). -/
def pdelayResp (s : State) (k seqId : Nat) (twoStep : Bool) (t2 rx corr : Int) : State :=
  match (s.tlink k).pdreq with
  | none => s
  | some q =>
    if !s.ptpOn || q.1 != seqId then s
    else if twoStep then s.modTlink k (fun x => { x with pdresp := some (t2, rx - lnkRx, corr) })
    else s.modTlink k (fun x => { x with pdreq := none, meanLink := some ((rx - lnkRx - q.2 - corr) / 2) })

/-- A Pdelay_Resp_Follow_Up received (R63, R69). -/
def pdelayFollow (s : State) (k seqId : Nat) (t3 corr : Int) : State :=
  match (s.tlink k).pdreq, (s.tlink k).pdresp with
  | some q, some p =>
    if !s.ptpOn || q.1 != seqId then s
    else s.modTlink k (fun x => { x with pdreq := none, pdresp := none, meanLink := some ((p.2.1 - q.2 - (t3 - p.1) - p.2.2 - corr) / 2) })
  | _, _ => s

/-- An Announce is checked for its domain and changes no port state (R64). -/
def announce (s : State) (domain : Nat) : State := if s.ptpOn && domain != s.image.domain then s.perf 1 0x100 1 else s

/-- A discarded PTP message is counted (R64). -/
def ptpDiscard (s : State) : State := if s.ptpOn then s.perf 1 0x100 1 else s

/-- The messages of link `k` at a sync interval (R63, R481): Sync from SLEW on, and the delay request toward a master. -/
def syncLink (s : State) (k : Nat) (l : TimeLink) (now : Int) : State :=
  let t := s.tlink k
  let s := if l.use != 0 && decide (2 ≤ s.tim.servo.st) then
      (s.emit (.ptp k (.sync t.nextSync (now + lnkTx)))).modTlink k (fun x => { x with nextSync := (x.nextSync + 1) % 2 ^ 16 })
    else s
  if s.measures l then
    let s := s.emit (.ptp k (if l.p2p then .pdelayReq t.nextDreq else .delayReq t.nextDreq))
    s.modTlink k (fun x =>
      let q := some (t.nextDreq, now + lnkTx)
      { x with nextDreq := (t.nextDreq + 1) % 2 ^ 16, dreq := if l.p2p then x.dreq else q, pdreq := if l.p2p then q else x.pdreq })
  else s

/-- A sync interval ends (R63, R71). -/
def syncInterval (s : State) (now : Int) : State :=
  let s := s.atTime now
  if !s.ptpOn then s
  else
    let s := if s.grandmaster then s else { s with tim := { s.tim with silent := s.tim.silent + 1 } }
    (s.image.timeLinks.zipIdx).foldl (fun s e => s.syncLink e.2 e.1 now) s

/-- clockClass of R64. -/
def clockClass (s : State) : Nat :=
  if s.grandmaster && s.ppsSource && s.tim.servo.st == 3 then 6 else if s.tim.servo.st == 4 then 7 else 248

/-- Announce on the child links, once per second (R64); for a PPS reference the second is also the interval of R84. -/
def announceInterval (s : State) : State :=
  if !s.ptpOn then s
  else
    let s := if s.grandmaster && s.ppsSource then { s with tim := { s.tim with silent := s.tim.silent + 1 } } else s
    if s.tim.servo.st < 2 then s
    else (s.image.timeLinks.zipIdx).foldl (fun s e => if e.1.use = 1 then s.emit (.ptp e.2 (.announce s.clockClass)) else s) s

/-- The servo may lose its reference: not a free grandmaster. -/
def hasReference (s : State) : Bool := !s.grandmaster || s.ppsSource

/-- No valid measurement for HOLDOVER_N intervals (R71). -/
def holdoverEntry (s : State) : State :=
  let v := s.tim.servo
  if s.works 1 && s.hasReference && (v.st == 2 || v.st == 3) && decide (s.fld F.TIM_SERVO_CFG_HOLDOVER_N ≤ s.tim.silent)
  then s.setServo (v.enter 4) 0 else s

/-- HOLDOVER for longer than HOLDOVER_LIMIT (R71). -/
def unqualEntry (s : State) (held : Nat) : State :=
  let v := s.tim.servo
  if s.works 1 && v.st == 4 && decide ((ServoCfg.ofReg (s.reg F.TIM_SERVO_CFG_STEP_THRESH.addr)).limit < held) then s.setServo (v.enter 5) 0 else s

/-! ### Grandmaster, capture and pulses (R80 to R84) -/

/-- A grandmaster that has its time runs as its SOURCE says (R71): LOCKED when free. -/
def freeLock (s : State) : State :=
  if s.grandmaster && !s.ppsSource && s.works 1 && (s.tim.gmSet || s.tim.servo.st != 0) && s.tim.servo.st != 3
  then
    let v := s.tim.servo.enter 3
    s.setServo { v with acq := [], stepDue := none } 0
  else s

/-- STB_TIM_TIME_HI written (R83): a grandmaster's time in INIT, before arming. -/
def timeSet (s : State) (hi : Nat) : State :=
  if !s.grandmaster || s.tim.servo.st != 0 || s.isArmed then s
  else
    let s := s.setFld F.TIM_TIME_HI_SEC_HI hi
    let s := { s with tim := { s.tim with time := timeOf (s.reg F.TIM_TIME_LO_FRAC.addr).toNat hi, gmSet := true } }
    s.freeLock

/-- STB_TIM_TIME_LO read (R91): the high part is latched. -/
def timeLoRead (s : State) (now : Int) : State :=
  let s := s.atTime now
  (s.setFld F.TIM_TIME_HI_SEC_HI (timeHi now)).emit (.busResp false (timeLo now))

/-- A captured edge's offset from the second, within half a second (R84). -/
def ppsOffset (t : Int) : Int :=
  let f := t % (1000000000 * 65536)
  if 500000000 * 65536 ≤ f then f - 1000000000 * 65536 else f

/-- An edge on a capture input (R82), and the PPS reference's measurement (R84). -/
def captureEdge (s : State) (m : Nat) (falling : Bool) (time : Int) : State :=
  if !s.works 1 || !s.flag (F.TIM_CAP_CFG_EN.at m) || s.flag (F.TIM_CAP_CFG_EDGE.at m) != falling then s
  else
    let t := (time * 10 - s.sfld (F.TIM_CAP_CFG_COMP.at m) * 16384) / 10
    let s := s.atTime time
    let q := s.tim.caps.get nil m
    let s := if q.length < 16 then
        ({ s with tim := { s.tim with caps := s.tim.caps.put nil m (q ++ [CapEntry.mk t (!s.timeQualified)]) } }).pend 1 (8 + m)
      else s.setFld (F.TIM_CAP_CFG_OVERFLOW.at m) 1
    if s.grandmaster && s.ppsSource && s.fld F.TIM_GM_PPS_INPUT == m && (s.tim.gmSet || s.tim.servo.st != 0)
    then s.measured (some 1000000000) (ppsOffset t) 0 else s

/-- A read of STB_TIM_CAPm_LO (R91): the oldest entry, removed; its high part is latched. -/
def captureRead (s : State) (m : Nat) : State :=
  match s.tim.caps.get nil m with
  | [] => ((s.setFld (F.TIM_CAP_HI_SEC_HI.at m) 0).setFld (F.TIM_CAP_HI_VALID.at m) 0).emit (.busResp false 0)
  | e :: es =>
    let s := { s with tim := { s.tim with caps := s.tim.caps.put nil m es } }
    let s := ((s.setFld (F.TIM_CAP_HI_SEC_HI.at m) (timeHi e.time)).setFld (F.TIM_CAP_HI_VALID.at m) 1).setFld (F.TIM_CAP_HI_UNQUAL.at m) (b2n e.unqual)
    s.emit (.busResp false (timeLo e.time))

/-- A pulse output's state. -/
def pulse (s : State) (n : Nat) : Pulse := s.tim.pulses.get (fun _ => {}) n

/-- A pulse output's state set. -/
def setPulse (s : State) (n : Nat) (p : Pulse) : State := { s with tim := { s.tim with pulses := s.tim.pulses.put (fun _ => {}) n p } }

/-- WIDTH in 2^-16 ns. -/
def pulseWidth (s : State) (n : Nat) : Int := s.fld (F.TIM_PULSE_CFG_WIDTH.at n) * 8 * nsUnit

/-- WIDTH is too long for the mode (R80). -/
def pulseWrong (s : State) (n : Nat) : Bool :=
  match s.fld (F.TIM_PULSE_CFG_MODE.at n) with
  | 2 => decide ((s.fld (F.TIM_PULSE_PERIOD_PERIOD.at n) : Int) ≤ s.pulseWidth n)
  | 3 => match s.tim.sched with
    | some c => decide ((c.p : Int) * nsUnit ≤ s.pulseWidth n)
    | none => false
  | _ => false

/-- MODE_ERR or MISSED set, with TIM's cause (R80, R81, R496). -/
def pulseFault (s : State) (n : Nat) (f : Fld) : State := (s.setFld (f.at n) 1).pend 1 13

/-- STB_TIM_PULSEn_CFG written (R80, R81). -/
def pulseModeWrite (s : State) (n value : Nat) (now : Int) : State :=
  let s := s.atTime now
  let a := (F.TIM_PULSE_CFG_MODE.at n).addr
  let s := s.setReg a (writeReg [(0, 2, .rw), (2, 1, .rw), (3, 1, .rw), (4, 1, .w1c), (5, 1, .w1c), (8, 24, .rw), (32, 16, .rw)] (s.reg a) (BitVec.ofNat 64 value))
  let start := timeOf (s.reg (F.TIM_PULSE_START_LO_FRAC.at n).addr).toNat (s.fld (F.TIM_PULSE_START_HI_SEC_HI.at n))
  let period := s.fld (F.TIM_PULSE_PERIOD_PERIOD.at n)
  if s.pulseWrong n then (s.setPulse n {}).pulseFault n F.TIM_PULSE_CFG_MODE_ERR
  else
    match s.fld (F.TIM_PULSE_CFG_MODE.at n) with
    | 0 => s.setPulse n {}
    | 1 => if start < now then (s.setPulse n {}).pulseFault n F.TIM_PULSE_CFG_MISSED else s.setPulse n { next := some start }
    | 2 =>
      if start < now then
        (s.setPulse n (passPulse now period 2 { next := some start })).pulseFault n F.TIM_PULSE_CFG_MISSED
      else s.setPulse n { next := some start }
    | _ => s.setPulse n { equinox := true }

/-- Output `n` may be active: TIM in operation, and time qualified where QUAL_ONLY asks for it (R81). -/
def pulseAllowed (s : State) (n : Nat) : Bool := s.works 1 && (!s.flag (F.TIM_PULSE_CFG_QUAL_ONLY.at n) || s.tim.servo.st == 3 || s.tim.servo.st == 4)

/-- An output reaches its next active edge (R80, R81). -/
def pulseEdge (s : State) (n : Nat) : State :=
  let p := s.pulse n
  if !p.equinox && p.next.isNone then s
  else if s.pulseWrong n then (s.setPulse n { p with active := false }).pulseFault n F.TIM_PULSE_CFG_MODE_ERR
  else
    let next := match p.next with
      | some e => if s.fld (F.TIM_PULSE_CFG_MODE.at n) = 2 then some (e + s.fld (F.TIM_PULSE_PERIOD_PERIOD.at n)) else none
      | none => none
    if s.pulseAllowed n then (s.setPulse n { p with active := true, next := next }).emit (.pulse n)
    else s.setPulse n { p with active := false, next := next }

/-- WIDTH runs out (R80). -/
def pulseWidthEnd (s : State) (n : Nat) : State := s.setPulse n { s.pulse n with active := false }

/-! ### Asymmetries and loop closure (R88 to R90) -/

/-- STB_TIM_ASYM_DATA written: it applies from the next tick (R90). -/
def asymWrite (s : State) (k value : Nat) : State := s.setFld (F.TIM_ASYM_DATA_ASYM.at k) value

/-- At a tick: every link's asymmetry as the register holds it (R90). -/
def asymTick (s : State) : State :=
  (s.image.timeLinks.zipIdx).foldl (fun s e => s.modTlink e.2 (fun x => { x with asym := s.sfld (F.TIM_ASYM_DATA_ASYM.at e.2) })) s

/-- A closure offset as an entry of a Summary (R191): the partner group, ô and the time link's index. -/
def closureEntry (k : Nat) (l : TimeLink) (o : Int) : Bytes :=
  le 2 l.peer ++ le 1 15 ++ zeros 1 ++ le 4 8 ++ le 4 (toField 32 (clampSigned 32 (quarters o))) ++ le 1 k ++ zeros 3

/-- The evaluation interval ends at a group master (R88): its ô values go to the system master, and straight into the evaluation when that
is this block. -/
def closureReport (s : State) : State :=
  if !s.masterOf .group || !s.works 1 then s
  else
    let es := (s.image.timeLinks.zipIdx).filterMap (fun e =>
      if e.1.use = 2 then (s.tlink e.2).closure.map (fun o => (e.2, e.1, o)) else none)
    let s := es.foldl (fun s e => s.modTlink e.1 (fun x => { x with closure := none })) s
    if es.isEmpty then s
    else if s.masterOf .system then
      { s with tim := { s.tim with closures := es.foldl (fun t e => t.put none' (e.2.1.peer % 256 * 256 + s.group) (some (quarters e.2.2))) s.tim.closures } }
    else
      let head : SumBody := { kind := 2, level := 1, plan := s.image.planNo, epoch := s.epoch }
      let body := head.bytes.take 6 ++ le 2 es.length ++ head.bytes.drop 8 ++ (es.map (fun e => closureEntry e.1 e.2.1 e.2.2)).flatten
      s.send 1 0x20 9 s.myGroup 0 body

/-- One triangle evaluated (R88, R89). -/
def evaluateTriangle (s : State) (i : Nat) (t : Nat × Nat × Nat) : State :=
  let o := fun x y => s.tim.closures.get none' (x % 256 * 256 + y)
  match o t.1 t.2.1, o t.2.1 t.2.2, o t.2.2 t.1 with
  | some x, some y, some z =>
    let v := clampSigned 32 (x + y + z)
    let s := (s.setFld (F.TIM_LOOP_DATA_SUM.at i) (toField 32 v)).setFld (F.TIM_LOOP_DATA_INCOMPLETE.at i) 0
    if s.fld (F.TIM_LOOP_DATA_DRIFT_THRESH.at i) * 4 < v.natAbs then
      let s := s.incFld (F.TIM_LOOP_DATA_CONSEC.at i)
      let n := s.fld (F.TIM_LOOP_DATA_CONSEC.at i)
      if s.image.driftN ≤ n ∧ s.flag (F.TIM_LOOP_DATA_DRIFT.at i) = false then
        ((s.setFld (F.TIM_LOOP_DATA_DRIFT.at i) 1).pend 1 12).event 1 0x0004 systemAddr n (le 2 i ++ zeros 2 ++ le 4 (toField 32 v))
      else s
    else s.setFld (F.TIM_LOOP_DATA_CONSEC.at i) 0
  | _, _, _ => s.setFld (F.TIM_LOOP_DATA_INCOMPLETE.at i) 1

/-- The system master evaluates every triangle from the values of the latest interval (R88, R89). -/
def loopEvaluation (s : State) : State :=
  if !s.masterOf .system || !s.works 1 then s
  else
    let s := (s.image.triangles.zipIdx).foldl (fun s e => s.evaluateTriangle e.2 e.1) s
    { s with tim := { s.tim with closures := [] } }

end State

/-- CAPTURE_EDGE (R82). -/
def execCaptureEdge (input : Nat) (falling : Bool) (time : Int) (s : State) : Host.Outcome State Fault Refusal :=
  s.run (fun s => s.captureEdge input falling time)

/-- CAPTURE_READ (R91). -/
def execCaptureRead (input : Nat) (s : State) : Host.Outcome State Fault Refusal := s.run (fun s => s.captureRead input)

/-- TIME_LO_READ (R91). -/
def execTimeLoRead (now : Int) (s : State) : Host.Outcome State Fault Refusal := s.run (fun s => s.timeLoRead now)

/-- TIME_SET (R83). -/
def execTimeSet (hi : Nat) (s : State) : Host.Outcome State Fault Refusal := s.run (fun s => s.timeSet hi)

/-- SYNC_RECEIVE (R69). -/
def execSyncReceive (link seqId : Nat) (twoStep : Bool) (t1 t2 corr : Int) (s : State) : Host.Outcome State Fault Refusal :=
  s.run (fun s => s.syncReceive link seqId twoStep t1 t2 corr)

/-- FOLLOW_UP_RECEIVE (R70). -/
def execFollowUpReceive (link seqId : Nat) (t1 corr : Int) (s : State) : Host.Outcome State Fault Refusal := s.run (fun s => s.followUp link seqId t1 corr)

/-- FOLLOW_UP_TIMEOUT (R70). -/
def execFollowUpTimeout (link : Nat) (s : State) : Host.Outcome State Fault Refusal := s.run (fun s => s.followUpTimeout link)

/-- DELAY_REQ_RECEIVE (R63). -/
def execDelayReqReceive (link seqId : Nat) (rx corr : Int) (s : State) : Host.Outcome State Fault Refusal := s.run (fun s => s.delayReq link seqId rx corr)

/-- DELAY_RESP_RECEIVE (R69). -/
def execDelayRespReceive (link seqId : Nat) (t4 corr : Int) (s : State) : Host.Outcome State Fault Refusal := s.run (fun s => s.delayResp link seqId t4 corr)

/-- PDELAY_REQ_RECEIVE (R63). -/
def execPdelayReqReceive (link seqId : Nat) (rx tx corr : Int) (s : State) : Host.Outcome State Fault Refusal :=
  s.run (fun s => s.pdelayReq link seqId rx tx corr)

/-- PDELAY_RESP_RECEIVE (R69). -/
def execPdelayRespReceive (link seqId : Nat) (twoStep : Bool) (t2 rx corr : Int) (s : State) : Host.Outcome State Fault Refusal :=
  s.run (fun s => s.pdelayResp link seqId twoStep t2 rx corr)

/-- PDELAY_RESP_FOLLOW_UP_RECEIVE (R63). -/
def execPdelayRespFollowUpReceive (link seqId : Nat) (t3 corr : Int) (s : State) : Host.Outcome State Fault Refusal :=
  s.run (fun s => s.pdelayFollow link seqId t3 corr)

/-- ANNOUNCE_RECEIVE (R64). -/
def execAnnounceReceive (_link domain : Nat) (s : State) : Host.Outcome State Fault Refusal := s.run (fun s => s.announce domain)

/-- PTP_DISCARD (R64). -/
def execPtpDiscard (s : State) : Host.Outcome State Fault Refusal := s.run (fun s => s.ptpDiscard)

/-- SYNC_INTERVAL (R63). -/
def execSyncInterval (now : Int) (s : State) : Host.Outcome State Fault Refusal := s.run (fun s => s.syncInterval now)

/-- ANNOUNCE_INTERVAL (R64). -/
def execAnnounceInterval (s : State) : Host.Outcome State Fault Refusal := s.run (fun s => s.announceInterval)

/-- HOLDOVER_ENTRY (R71). -/
def execHoldoverEntry (s : State) : Host.Outcome State Fault Refusal := s.run (fun s => s.holdoverEntry)

/-- UNQUAL_ENTRY (R71). -/
def execUnqualEntry (held : Nat) (s : State) : Host.Outcome State Fault Refusal := s.run (fun s => s.unqualEntry held)

/-- ASYM_WRITE (R90). -/
def execAsymWrite (link value : Nat) (s : State) : Host.Outcome State Fault Refusal := s.run (fun s => s.asymWrite link value)

/-- CLOSURE_REPORT (R88). -/
def execClosureReport (s : State) : Host.Outcome State Fault Refusal := s.run (fun s => s.closureReport)

/-- LOOP_EVALUATION (R88). -/
def execLoopEvaluation (s : State) : Host.Outcome State Fault Refusal := s.run (fun s => s.loopEvaluation)

/-- PULSE_EDGE (R80). -/
def execPulseEdge (n : Nat) (s : State) : Host.Outcome State Fault Refusal := s.run (fun s => s.pulseEdge n)

/-- PULSE_MODE_WRITE (R81). -/
def execPulseModeWrite (n value : Nat) (now : Int) (s : State) : Host.Outcome State Fault Refusal := s.run (fun s => s.pulseModeWrite n value now)

/-- PULSE_WIDTH_END (R80). -/
def execPulseWidthEnd (n : Nat) (s : State) : Host.Outcome State Fault Refusal := s.run (fun s => s.pulseWidthEnd n)

end Sys2Proof.Machine
end

