-- ==== Sys2Proof/Machine/Roles.lean ====
section
/-! DEFINITION. Roles and the standing tree: presence, takeover, yielding and leads (01). -/

namespace Sys2Proof.Machine
namespace State

/-! ### The standing tree of this block (R33) -/

/-- The block's place in the standing tree: the system master has no parent, a group master's parent is the system master, a node
aggregator's is its group master. -/
def treeParent (s : State) : Option Nat :=
  if s.masterOf .system then none else if s.masterOf .group then s.mgt.groupTree.parent else s.mgt.nodeTree.parent

/-- The alternate parent; none for the acting or named system master. -/
def treeAlt (s : State) : Option Nat :=
  if s.masterOf .system then none else if s.masterOf .group then s.mgt.groupTree.alt else s.mgt.nodeTree.alt

/-- The children of the block's roles. -/
def treeChildren (s : State) : List Nat :=
  let g := if s.masterOf .group then s.mgt.groupTree.children else []
  let y := if s.masterOf .system then s.mgt.systemTree.children else []
  g ++ y.filter (fun a => !g.contains a)

/-- A Broadcast record sent (R444) under the block's address. -/
def sendBroadcast (s : State) (dst : List Nat) (body : Bytes) : State := if dst.isEmpty then s else s.sendTo 14 dst 0x24 8 s.myNode 0 body

/-- An Acknowledgement sent (R445) under the block's address. -/
def sendAck (s : State) (dst : List Nat) (kind status flags bgen covered holes : Nat) : State :=
  if dst.isEmpty then s else s.sendTo 14 dst 0x25 8 s.myNode 0 (ackBody kind status flags bgen covered holes)

/-- A tree broadcast's state. -/
def bcast (s : State) (k : Nat) : Bcast := s.stw.bcasts.get (fun _ => {}) k

/-- That state changed. -/
def modBcast (s : State) (k : Nat) (f : Bcast → Bcast) : State :=
  { s with stw := { s.stw with bcasts := s.stw.bcasts.mod (fun _ => {}) k f } }

/-- The newest generation kept of a kind (R447). -/
def bgen (s : State) (k : Nat) : Nat := s.fld (F.STW_BCAST_DATA_BGEN.at k)

/-- The latest acknowledgement of kind `k` sent to `to` (R451). -/
def resendAck (s : State) (k : Nat) (dst : List Nat) : State :=
  match (s.bcast k).own with
  | some a => s.sendAck dst k a.status (2 * b2n a.final) (s.bgen k) a.covered a.holes
  | none => s

/-! ### Masters and deputies (R24 to R28) -/

/-- What a role of a tier keeps. -/
def role (s : State) (t : Tier) : RoleSt := match t with | .group => s.mgt.group | .system => s.mgt.system

/-- That changed. -/
def modRole (s : State) (t : Tier) (f : RoleSt → RoleSt) : State :=
  match t with
  | .group => { s with mgt := { s.mgt with group := f s.mgt.group } }
  | .system => { s with mgt := { s.mgt with system := f s.mgt.system } }

/-- The tree above which a tier's master stands: nodes below the group master, group masters below the system master. -/
def lowerTree (s : State) (t : Tier) : TreeSt := match t with | .group => s.mgt.nodeTree | .system => s.mgt.groupTree

/-- That tree changed. -/
def modLower (s : State) (t : Tier) (f : TreeSt → TreeSt) : State :=
  match t with
  | .group => { s with mgt := { s.mgt with nodeTree := f s.mgt.nodeTree } }
  | .system => { s with mgt := { s.mgt with groupTree := f s.mgt.groupTree } }

/-- Named master, deputy, acting and yielded bits of a tier (R34). -/
def roleField (t : Tier) (g y : Fld) : Fld := match t with | .group => g | .system => y

abbrev namedF (t : Tier) : Fld := roleField t F.MGT_ROLE_GROUP_MASTER F.MGT_ROLE_SYSTEM_MASTER
abbrev deputyF (t : Tier) : Fld := roleField t F.MGT_ROLE_GROUP_DEPUTY F.MGT_ROLE_SYSTEM_DEPUTY
abbrev actingF (t : Tier) : Fld := roleField t F.MGT_ROLE_GROUP_ACTING F.MGT_ROLE_SYSTEM_ACTING
abbrev yieldedF (t : Tier) : Fld := roleField t F.MGT_ROLE_GROUP_YIELDED F.MGT_ROLE_SYSTEM_YIELDED
abbrev lostF (t : Tier) : Fld := roleField t F.MGT_ROLE_GROUP_DEPUTY_LOST F.MGT_ROLE_SYSTEM_DEPUTY_LOST

/-- lag + threshold of R24, and threshold alone. -/
def lagPlus (s : State) (t : Tier) : Nat :=
  match t with
  | .group => s.image.groupLag + s.image.groupThreshold
  | .system => s.image.systemLag + s.image.systemThreshold
def threshold (s : State) (t : Tier) : Nat := match t with | .group => s.image.groupThreshold | .system => s.image.systemThreshold

/-- The tier's deputy block in the image. -/
def deputyOf (s : State) (t : Tier) : Option Nat := match t with | .group => s.image.groupDeputy | .system => s.image.systemDeputy

/-- The tier's named master block. -/
def masterBlock (s : State) (t : Tier) : Nat := match t with | .group => s.image.groupMaster | .system => s.image.systemMaster

/-- The children of the tier's level, as blocks, this one left out. -/
def tierChildren (s : State) (t : Tier) : List Nat :=
  (match t with | .group => s.image.groupNodes | .system => s.image.groupMasters).filter (fun a => a != s.myNode)

/-- The level number of a tier. -/
def tierLevel : Tier → Nat
  | .group => 1
  | .system => 2

/-- ROLE_EPOCH and the change made known (R34, R399). -/
def roleStep (s : State) : State := (s.setFld F.MGT_ROLE_ROLE_EPOCH (s.epoch % 2 ^ 32)).roleChanged

/-- At a tick: the presence record of a named master that has not yielded (R24). -/
def presenceTick (s : State) (t : Tier) : State :=
  match s.deputyOf t with
  | some d =>
    if s.flag (namedF t) && !s.flag (yieldedF t) && s.works 14 then
      (s.modRole t (fun r => { r with unanswered := r.unanswered + 1 })).sendBroadcast [d] (broadcastBody 0 0 0 s.epoch 0 0 1 [])
    else s
  | none => s

/-- The takeover Broadcast of an acting master (R25): its epoch and the epoch from which to resend. -/
def takeoverBody (s : State) (t : Tier) (e : Nat) : Bytes := broadcastBody 1 0 0 e 0 0 1 (le 6 ((s.role t).presence - 8))

/-- The children of a tier's level become this block's (R25, R29). -/
def adopt (s : State) (t : Tier) (kids : List Nat) : State :=
  match t with
  | .group => { s with mgt := { s.mgt with groupTree := { s.mgt.groupTree with children := kids } } }
  | .system => { s with mgt := { s.mgt with systemTree := { s.mgt.systemTree with children := kids } } }

/-- A presence record at the deputy (R24): P rises and the deputy acknowledges; an acting master answers with its takeover Broadcast (R27). -/
def presenceReceive (s : State) (t : Tier) (src e : Nat) : State :=
  if !s.flag (deputyF t) || !s.works 14 then s
  else if s.flag (actingF t) then s.sendBroadcast [src] (s.takeoverBody t (s.fld F.MGT_ROLE_ROLE_EPOCH))
  else (s.modRole t (fun r => { r with presence := max r.presence e })).sendAck [src] 0 0 0 (e % 2 ^ 32) 0 0

/-- The epochs of a level from `lo` to `hi` opened, those open already left as they are (R182). -/
def openRange (s : State) (level lo hi : Nat) : State :=
  let have_ := s.aln.epochs.filter (fun x => x.level == level)
  let new := ((List.range (hi + 1 - lo)).map (lo + ·)).filter (fun e => !(have_.any (fun x => x.epoch == e)))
  s.setEpochs (s.aln.epochs ++ new.map (fun e => { level := level, epoch := e, expected := (s.expectedSenders level).length }))

/-- At a tick the deputy takes over when E − P exceeds lag + threshold (R24, R25): it acts as master, opens the epochs from the resend epoch
on (R182), sends the takeover Broadcast, and as system deputy becomes grandmaster (R61, R71). -/
def takeover (s : State) (t : Tier) : State :=
  let p := (s.role t).presence
  if !s.flag (deputyF t) || s.flag (actingF t) || !s.isArmed || !decide (s.lagPlus t < s.epoch - p) then s
  else
    let dst := s.tierChildren t
    let dst := if dst.contains (s.masterBlock t) || s.masterBlock t = s.myNode then dst else dst ++ [s.masterBlock t]
    let s := (s.setFld (actingF t) 1).roleStep
    let s := s.adopt t (s.tierChildren t)
    let s := s.openRange (tierLevel t) (p - 8) s.epoch
    let s := s.sendBroadcast dst (s.takeoverBody t s.epoch)
    if t = .system ∧ s.tim.servo.st ≠ 0 then s.freeLock else s

/-- A takeover Broadcast for this block's level (R25, R27): a child will switch parent, and the old master will yield. -/
def takeoverReceive (s : State) (t : Tier) (acting resendFrom : Nat) : State :=
  if !s.works 14 || acting = s.myNode then s
  else
    let child := match t with | .group => true | .system => s.masterOf .group
    let s := if child then s.modLower t (fun x => { x with switchTo := some acting, resendFrom := resendFrom }) else s
    if s.flag (namedF t) && !s.flag (yieldedF t) then s.modRole t (fun r => { r with yieldDue := true, acting := some acting }) else s

/-- The Summaries of a replay ring from an epoch on, sent again (R26): a coarse one counts with its last epoch. -/
def resendRing (s : State) (level e dst : Nat) : State :=
  if s.silent then s
  else ((s.aln.rings.get nil level).filter (fun r => decide (e < r.epoch + 2 ^ summaryRes r))).foldl
    (fun s r => (s.emit (.directed [dst] r)).toExp 4 r) s

/-- At the first tick after a takeover Broadcast, a role switches its parent (R25): Summaries resent (R26), the Coarsen request cleared
(R194), and the latest acknowledgements of open broadcasts sent to the new parent (R451). -/
def switchParent (s : State) (t : Tier) : State :=
  let x := s.lowerTree t
  match x.switchTo with
  | none => s
  | some p =>
    let level := tierLevel t - 1
    let s := s.modLower t (fun x => { x with parent := some p, switchTo := none })
    let s := (s.modOutlet level (fun o => { o with req := none })).setFld (F.ALN_LEVEL_STATE_REQ_RES.at level) 0
    let s := s.resendRing level x.resendFrom p
    if s.treeParent = some p then
      [2, 3, 4, 5].foldl (fun s k => if (s.bcast k).known && !(s.bcast k).finalised then s.resendAck k [p] else s) s
    else s

/-- PARENT_SWITCH (R25). -/
def parentSwitch (s : State) : State := (s.switchParent .group).switchParent .system

/-- A master yields at the tick after a takeover Broadcast (R27): the level's epochs are no longer its own. -/
def yield (s : State) (t : Tier) : State :=
  if !(s.role t).yieldDue || !s.flag (namedF t) then s
  else
    let s := s.modRole t (fun r => { r with yieldDue := false })
    let s := (s.setFld (yieldedF t) 1).roleStep
    s.setEpochs (s.aln.epochs.filter (fun x => x.level != tierLevel t))

/-- No acknowledgement for threshold presence records (R28). -/
def deputyLost (s : State) (t : Tier) : State :=
  if s.flag (namedF t) && !s.flag (yieldedF t) && decide (s.threshold t ≤ (s.role t).unanswered) && !s.flag (lostF t)
  then ((s.setFld (lostF t) 1).pend 0 9).roleChanged else s

/-- The deputy's acknowledgement of a presence record (R28). -/
def presenceAck (s : State) (t : Tier) : State := s.modRole t (fun r => { r with unanswered := 0 })

/-! ### Leads (R21, R22) -/

/-- A package's lead state. -/
def lead (s : State) (p : Nat) : LeadSt := s.mgt.leads.get (fun _ => {}) p

/-- At a tick: epochs in which a lead was silent (R22). -/
def leadTick (s : State) : State :=
  s.image.packages.foldl (fun s c =>
    { s with mgt := { s.mgt with leads := s.mgt.leads.mod (fun _ => {}) c.package (fun l =>
        { l with silent := if s.ing.heard.contains l.lead then 0 else l.silent + 1 }) } }) s

/-- The MAC address of a die's fabric port (R163). -/
def dieMac (s : State) (d : Nat) : Nat := ((s.image.dies.find? (fun c => c.slot == d)).map (fun c => c.mac)).getD 0

/-- After 4 silent epochs the alternate lead becomes lead (R22): it sends to this block, the other dies of the package to it. -/
def leadLost (s : State) (p : Nat) : State :=
  let l := s.lead p
  if l.silent < 4 || !(s.image.packages.any (fun c => c.package == p)) then s
  else
    let s := { s with mgt := { s.mgt with leads := s.mgt.leads.put (fun _ => {}) p { l with lead := l.alt, silent := 0 } } }
    let s := s.ctrlWrite l.alt [(0x7A8, s.image.nodeMac)] .plain
    let s := (l.dies.filter (fun d => d != l.alt)).foldl (fun s d => s.ctrlWrite d [(0x7A8, s.dieMac l.alt)] .plain) s
    s.event 14 0x0003 (s.dieAddr l.lead) l.silent (le 4 (s.dieAddr l.alt))

end State

/-- PRESENCE_RECEIVE (R24). -/
def execPresenceReceive (tier : Tier) (src epoch : Nat) (s : State) : Host.Outcome State Fault Refusal := s.run (fun s => s.presenceReceive tier src epoch)

/-- TAKEOVER_RECEIVE (R25). -/
def execTakeoverReceive (tier : Tier) (acting _epoch resendFrom : Nat) (s : State) : Host.Outcome State Fault Refusal :=
  s.run (fun s => s.takeoverReceive tier acting resendFrom)

/-- PARENT_SWITCH (R25). -/
def execParentSwitch (s : State) : Host.Outcome State Fault Refusal := s.run (fun s => s.parentSwitch)

/-- YIELD (R27). -/
def execYield (tier : Tier) (s : State) : Host.Outcome State Fault Refusal := s.run (fun s => s.yield tier)

/-- DEPUTY_LOST (R28). -/
def execDeputyLost (tier : Tier) (s : State) : Host.Outcome State Fault Refusal := s.run (fun s => s.deputyLost tier)

/-- LEAD_LOST (R22). -/
def execLeadLost (package : Nat) (s : State) : Host.Outcome State Fault Refusal := s.run (fun s => s.leadLost package)

/-- PRESENCE_ACKNOWLEDGEMENT (R28). -/
def execPresenceAcknowledgement (tier : Tier) (_epoch : Nat) (s : State) : Host.Outcome State Fault Refusal := s.run (fun s => s.presenceAck tier)

end Sys2Proof.Machine
end

