-- ==== Sys2Proof/Machine/Bcast.lean ====
section
/-! DEFINITION. Tree broadcasts (R444 to R452): generations, parts, forwarding, HEADS, requests, acknowledgements and holes. What a complete
broadcast does is its kind's own (Job.lean). -/

namespace Sys2Proof.Machine
namespace State

/-! ### Devices (R446) -/

/-- The job that a broadcast of kind `k` counts devices with: the staged one for a JOB. -/
def deltaOf (s : State) (k : Nat) : List (Nat × Bool) :=
  match k, s.stw.staged with
  | 2, some j => j.delta
  | _, _ => s.stw.job.delta

/-- Devices of the trays that pass `p`: each a block and the Potik units of its dies in the job (R446). -/
def devices (s : State) (k : Nat) (p : Nat → Bool) : Nat :=
  ((s.image.trays.filter (fun t => p t.1)).map (fun t => 1 + includedDies (s.deltaOf k) t.1 t.2)).sum

/-- The trays of this block's subtree: the fleet's, the group's, or its own. -/
def inSubtree (s : State) (a : Nat) : Bool :=
  if s.masterOf .system then true else if s.masterOf .group then a / 2 ^ 24 == s.group else a == s.myNode

/-- The trays of a child's subtree: its group for a group master below the system master, else its own. -/
def inChild (s : State) (child a : Nat) : Bool :=
  if s.masterOf .system && child / 2 ^ 24 != s.group then a / 2 ^ 24 == child / 2 ^ 24 else a == child

/-- This block's own devices that hold broadcast `k`: itself and its Potik units, without those that failed a JOB's challenge. -/
def ownDevices (s : State) (k : Nat) : Nat :=
  if (s.bcast k).holds then s.devices k (· == s.myNode) - (s.bcast k).failed.length else 0

/-- Devices covered: its own and those of every root acknowledged (R451). -/
def covered (s : State) (k : Nat) : Nat :=
  s.ownDevices k + ((s.bcast k).acks.map (fun e => (e.2.map (fun x => x.1)).getD 0)).sum

/-- Devices of the subtree. -/
def subtreeDevices (s : State) (k : Nat) : Nat := s.devices k s.inSubtree

/-- An acknowledgement covers a child: its own, or one of a root in its subtree for the child itself (R451). -/
def childCovered (s : State) (k child : Nat) : Bool := ((s.bcast k).acks.get none' child).isSome

/-- Devices of a child's subtree that no acknowledgement reaching the block covers (R452). -/
def uncovered (s : State) (k child : Nat) : Nat :=
  s.devices k (s.inChild child) -
    (((s.bcast k).acks.filter (fun e => s.inChild child e.1)).map (fun e => (e.2.map (fun x => x.1)).getD 0)).sum

/-! ### Acknowledgements (R451, R452) -/

/-- This block's acknowledgement of kind `k` sent and kept, with its counts in the registers. -/
def acknowledge (s : State) (k status : Nat) (final : Bool) : State :=
  let c := s.covered k
  let h := s.subtreeDevices k - c
  let s := s.modBcast k (fun b => { b with own := some { status := status, final := final, covered := c, holes := h } })
  let s := (s.setFld (F.STW_BCAST_ACK_COVERED.at k) c).setFld (F.STW_BCAST_ACK_HOLE_DEVICES.at k) h
  let dst := s.treeParent.toList ++ (if (s.bcast k).askedAlt then s.treeAlt.toList else [])
  s.sendAck dst.eraseDups k status (2 * b2n final) (s.bgen k) c h

/-- STATUS of a JOB held after its ACT_EPOCH is LATE (R453). -/
def ackStatus (s : State) (k : Nat) : Nat := if k = 2 ∧ (s.bcast k).actEpoch ≤ s.epoch then 3 else 0

/-- The block acknowledges once it holds the broadcast and every child has acknowledged or been finalised as a hole (R451). -/
def ackCheck (s : State) (k : Nat) : State :=
  let b := s.bcast k
  if b.holds && (b.finalised || s.treeChildren.all (s.childCovered k)) then s.acknowledge k (s.ackStatus k) false else s

/-- An Acknowledgement arrives (R451): counted once for its root while its broadcast is kept; one from a block that is no child is passed on with
FORWARDED set, to the parent, or to the alternate parent when the parent is silent for the broadcast. -/
def ackReceive (s : State) (root k status bgen covered holes : Nat) (final : Bool) : State :=
  if !s.works 14 || k < 2 || 5 < k || bgen != s.bgen k || !(s.bcast k).known then s
  else
    let s := if s.treeChildren.contains root then s
      else
        let dst := if (s.bcast k).silent then s.treeAlt.toList else s.treeParent.toList
        if dst.isEmpty then s else s.sendTo 14 dst 0x25 8 root 0 (ackBody k status (1 + 2 * b2n final) bgen covered holes)
    match (s.bcast k).acks.get none' root with
    | some _ => s
    | none =>
      let s := s.modBcast k (fun b => { b with acks := b.acks.put none' root (some (covered, holes)) })
      if (s.bcast k).own.isNone then s.ackCheck k else s

/-- The destinations of class VERDICT (R378). -/
def verdictDests (s : State) : List Nat :=
  (List.range s.image.dests.length).filter (fun d => (s.destCfg d).classes.contains 0)

/-- A child that no acknowledgement covers is a hole, with one Event (R452). -/
def holeEvent (s : State) (k child : Nat) : State :=
  let b := s.bcast k
  (s.incFld (F.STW_BCAST_CNT_HOLES.at k)).event 14 0x8010 child (s.uncovered k child)
    (le 4 (s.bgen k) ++ le 1 k ++ zeros 1 ++ le 6 b.deadline)

/-- At its finalisation time a block sends its FINAL acknowledgement and the Events of its holes (R452); the system master sends it to the
destinations of class VERDICT too. -/
def finalise (s : State) (k : Nat) : State :=
  if !s.works 14 || !(s.bcast k).known || (s.bcast k).finalised then s
  else
    let s := (s.treeChildren.filter (fun c => !s.childCovered k c)).foldl (fun s c => s.holeEvent k c) s
    let s := s.modBcast k (fun b => { b with finalised := true })
    let s := s.acknowledge k (if (s.bcast k).holds then s.ackStatus k else 0) true
    if s.masterOf .system then
      match (s.bcast k).own with
      | some a =>
        let (r, s) := s.mkRec 14 0x25 8 s.myNode 0 (ackBody k a.status 2 (s.bgen k) a.covered a.holes)
        s.verdictDests.foldl (fun s d => s.joinQueue d r) s
      | none => s
    else s

/-! ### Parts (R447, R449, R450) -/

/-- A difference of generations is negative: signed, modulo 2^32 (R447). -/
def genLt (a b : Nat) : Bool := decide (2 ^ 31 ≤ (a + 2 ^ 32 - b) % 2 ^ 32)

/-- Parts held, of how many. -/
def partsHeld (s : State) (k : Nat) : Nat := s.fld (F.STW_BCAST_DATA_PARTS_HELD.at k)
def partsOf (s : State) (k : Nat) : Nat := s.fld (F.STW_BCAST_DATA_PARTS.at k)

/-- Every part is present. -/
def bcastWhole (s : State) (k : Nat) : Bool := s.partsHeld k != 0 && s.partsHeld k == s.partsOf k

/-- A newer generation begins (R447): an incomplete older broadcast is abandoned and counted. -/
def newGeneration (s : State) (k gen parts act deadline : Nat) : State :=
  let s := if (s.bcast k).known && !s.bcastWhole k then s.incFld (F.STW_BCAST_CNT_STALE.at k) else s
  let s := s.modBcast k (fun _ => { actEpoch := act, deadline := deadline, known := true })
  let s := ((s.setFld (F.STW_BCAST_DATA_BGEN.at k) gen).setFld (F.STW_BCAST_DATA_PARTS.at k) parts).setFld (F.STW_BCAST_DATA_PARTS_HELD.at k) 0
  (s.setFld (F.STW_BCAST_ACK_COVERED.at k) 0).setFld (F.STW_BCAST_ACK_HOLE_DEVICES.at k) 0

/-- The body of part `p` of the broadcast kept. -/
def partBody (s : State) (k p : Nat) (resend : Nat) (payload : Bytes) : Bytes :=
  broadcastBody k resend (s.bgen k) (s.bcast k).actEpoch (s.bcast k).deadline p (s.partsOf k) payload

/-- A part stored and forwarded to every child (R449), and to the blocks that asked for it before it came (R450). -/
def storePart (s : State) (k p resend : Nat) (payload : Bytes) : State :=
  let s := s.modBcast k (fun b => { b with held := b.held.put none' p (some payload), silent := false })
  let s := s.setFld (F.STW_BCAST_DATA_PARTS_HELD.at k) (s.partsHeld k + 1)
  let s := s.sendBroadcast s.treeChildren (s.partBody k p resend payload)
  let asks := ((s.bcast k).asking.filter (fun a => decide (a.2 ≤ p) && !s.treeChildren.contains a.1)).map (fun a => a.1)
  s.sendBroadcast asks (s.partBody k p 1 payload)

/-- The first part missing. -/
def firstMissing (s : State) (k : Nat) : Nat :=
  ((List.range (s.partsOf k)).find? (fun p => ((s.bcast k).held.get none' p).isNone)).getD (s.partsOf k)

/-- Payload bytes of a part at most (R444). -/
def partMax : Nat := 524216

/-- The system master opens a tree broadcast (R447, R448): the next generation, every part held and sent to its children. -/
def openBcast (s : State) (k act deadline : Nat) (payload : Bytes) : State :=
  let ps := chunks partMax (payload.length + 1) (pad8 payload)
  let s := s.newGeneration k ((s.bgen k + 1) % 2 ^ 32) ps.length act deadline
  (List.range ps.length).foldl (fun s i => s.storePart k i 0 (ps.getD i [])) s

/-- A broadcast of the kind is still open: its deadline has not passed (R448). -/
def bcastOpen (s : State) (k : Nat) : Bool := (s.bcast k).known && decide (s.epoch < (s.bcast k).deadline)

/-- The payload of a broadcast that is held whole. -/
def bcastPayload (s : State) (k : Nat) : Bytes := ((List.range (s.partsOf k)).map (fun p => ((s.bcast k).held.get none' p).getD [])).flatten

/-- The block holds a broadcast (R446), and acknowledges it when its children have (R451). -/
def holdBcast (s : State) (k : Nat) : State := (s.modBcast k (fun b => { b with holds := true })).ackCheck k

/-- A part arrives (R447): of a newer generation, a part not yet held, a duplicate, or a stale one. -/
def partReceive (s : State) (src k resend gen act deadline part parts : Nat) (payload : Bytes) : State :=
  if k < 2 || 5 < k then s
  else if genLt gen (s.bgen k) then s.incFld (F.STW_BCAST_CNT_STALE.at k)
  else
    let s := if s.bgen k = gen ∧ s.partsOf k ≠ 0 then s else s.newGeneration k gen parts act deadline
    if ((s.bcast k).held.get none' part).isSome then
      let s := s.incFld (F.STW_BCAST_CNT_DUP.at k)
      if s.bcastWhole k then s.resendAck k [src] else s
    else if parts ≤ part then s
    else (s.modBcast k (fun b => { b with actEpoch := act, deadline := deadline })).storePart k part resend payload

/-- HEADS received (R449, R450): the broadcasts it names become known. Entries: KIND, PARTS, BGEN, DEADLINE_EPOCH. -/
def heads (s : State) (entries : List (Nat × Nat × Nat × Nat)) : State :=
  if !s.works 14 then s
  else
    entries.foldl (fun s e =>
      let (k, parts, gen, deadline) := e
      if k < 2 ∨ 5 < k ∨ genLt gen (s.bgen k) then s
      else if s.bgen k = gen ∧ (s.bcast k).known then s
      else s.newGeneration k gen parts 0 deadline) s

/-- The HEADS of a tick (R449): the open broadcasts of which a part is held, to the children and to the blocks whose alternate parent this is. -/
def headsTick (s : State) : State :=
  let open_ := [2, 3, 4, 5].filter (fun k => s.bcastOpen k && s.partsHeld k != 0)
  if open_.isEmpty || !s.works 14 then s
  else
    let kids := s.treeChildren
    s.sendBroadcast (kids ++ s.image.altFor.filter (fun a => !kids.contains a))
      (broadcastBody 7 0 0 0 0 0 1 ((open_.map (fun k =>
        le 1 k ++ zeros 1 ++ le 2 (s.partsOf k) ++ le 4 (s.bgen k) ++ le 6 (s.bcast k).deadline ++ zeros 2)).flatten))

/-- No new part within 3 × h (R450): a REQUEST for the first missing part, to the alternate parent with the current one in copy, and then to
the two in turn; to the parent alone without an alternate. -/
def bcastRequest (s : State) (k : Nat) : State :=
  if !s.works 14 || !s.bcastOpen k || s.bcastWhole k then s
  else
    let b := s.bcast k
    let p := s.treeParent.toList
    let dst := match s.treeAlt with
      | none => p
      | some a => if !b.silent then a :: p else if b.nextAlt then [a] else p
    let alt := match s.treeAlt with | some a => dst.contains a | none => false
    let s := s.incFld (F.STW_BCAST_CNT_REQUESTS.at k)
    let s := s.sendAck dst k 2 0 (s.bgen k) (s.firstMissing k) 0
    s.modBcast k (fun b => { b with askedAlt := b.askedAlt || alt, nextAlt := !alt, silent := true })

/-- A REQUEST received (R450): the held parts from the one named are sent with RESEND set; the others when they arrive. -/
def requestReceive (s : State) (src k gen first : Nat) : State :=
  if !s.works 14 || k < 2 || 5 < k || gen != s.bgen k then s
  else
    let s := ((List.range (s.partsOf k)).filter (fun p => decide (first ≤ p))).foldl (fun s p =>
      match (s.bcast k).held.get none' p with
      | some b => s.sendBroadcast [src] (s.partBody k p 1 b)
      | none => s) s
    if s.bcastWhole k then s else s.modBcast k (fun b => { b with asking := b.asking ++ [(src, first)] })

end State

/-- HEADS (R449). -/
def execHeads (entries : List (Nat × Nat × Nat × Nat)) (s : State) : Host.Outcome State Fault Refusal := s.run (fun s => s.heads entries)

/-- BROADCAST_REQUEST (R450). -/
def execBroadcastRequest (kind : Nat) (s : State) : Host.Outcome State Fault Refusal := s.run (fun s => s.bcastRequest kind)

/-- REQUEST_RECEIVE (R450). -/
def execRequestReceive (src kind gen first : Nat) (s : State) : Host.Outcome State Fault Refusal := s.run (fun s => s.requestReceive src kind gen first)

/-- ACKNOWLEDGEMENT (R451). -/
def execAcknowledgement (root kind status gen covered holes : Nat) (final : Bool) (s : State) : Host.Outcome State Fault Refusal :=
  s.run (fun s => s.ackReceive root kind status gen covered holes final)

/-- FINALISE (R452). -/
def execFinalise (kind : Nat) (s : State) : Host.Outcome State Fault Refusal := s.run (fun s => s.finalise kind)

end Sys2Proof.Machine
end

