-- ==== Sys2Proof/Machine/RegMap.lean ====
section
/-! DEFINITION. The register map (R492 to R498 and every register table of spec 00 to 21): for each register its address, its
copies, the index register that selects an entry of it (R497) and the access code of every field (R10). Bits that no field
names are reserved: they read 0 and ignore writes (R12). -/

namespace Sys2Proof.Machine

/-- The common block of every island (R493): offsets within the island. -/
def commonRows : List RegRow := [
  ⟨0x50, 0, 1, none, [(0, 64, .ro)]⟩,
  ⟨0x58, 0, 1, none, [(0, 48, .rw)]⟩,
  ⟨0x60, 0, 1, none, [(0, 48, .rw)]⟩,
  ⟨0x68, 0, 1, none, [(0, 48, .rw)]⟩,
  ⟨0x70, 0, 1, none, [(0, 48, .rw)]⟩,
  ⟨0x78, 0, 1, none, [(0, 48, .rw)]⟩,
  ⟨0x80, 0, 1, none, [(0, 48, .rw)]⟩,
  ⟨0x88, 0, 1, none, [(0, 48, .rw)]⟩,
  ⟨0x90, 0, 1, none, [(0, 48, .rw)]⟩,
  ⟨0x98, 0, 1, none, [(0, 10, .rw), (10, 1, .rw), (11, 1, .w1c), (12, 1, .rw), (13, 1, .rw)]⟩,
  ⟨0xa0, 0, 1, none, [(0, 10, .rw), (10, 1, .rw), (11, 1, .w1c), (12, 1, .rw), (13, 1, .rw)]⟩,
  ⟨0xa8, 0, 1, none, [(0, 10, .rw), (10, 1, .rw), (11, 1, .w1c), (12, 1, .rw), (13, 1, .rw)]⟩,
  ⟨0xb0, 0, 1, none, [(0, 10, .rw), (10, 1, .rw), (11, 1, .w1c), (12, 1, .rw), (13, 1, .rw)]⟩,
  ⟨0xb8, 0, 1, none, [(0, 10, .rw), (10, 1, .rw), (11, 1, .w1c), (12, 1, .rw), (13, 1, .rw)]⟩,
  ⟨0xc0, 0, 1, none, [(0, 10, .rw), (10, 1, .rw), (11, 1, .w1c), (12, 1, .rw), (13, 1, .rw)]⟩,
  ⟨0xc8, 0, 1, none, [(0, 10, .rw), (10, 1, .rw), (11, 1, .w1c), (12, 1, .rw), (13, 1, .rw)]⟩,
  ⟨0xd0, 0, 1, none, [(0, 10, .rw), (10, 1, .rw), (11, 1, .w1c), (12, 1, .rw), (13, 1, .rw)]⟩,
  ⟨0x8, 0, 1, none, [(0, 1, .w1s), (1, 1, .w1s), (2, 1, .w1s), (3, 1, .rw)]⟩,
  ⟨0x10, 0, 1, none, [(0, 2, .ro), (2, 1, .ro), (3, 1, .ro), (4, 1, .ro), (8, 12, .ro)]⟩,
  ⟨0x18, 0, 1, none, [(0, 16, .ro), (16, 1, .w1c), (17, 1, .ro), (18, 1, .ro), (19, 1, .ro), (20, 2, .ro), (24, 40, .ro)]⟩,
  ⟨0x20, 0, 1, none, [(0, 16, .ro), (16, 16, .ro), (32, 32, .ro)]⟩,
  ⟨0x38, 0, 1, none, [(0, 4, .rw), (4, 2, .rw), (6, 1, .w1s), (7, 1, .w1c)]⟩,
  ⟨0x40, 0, 1, none, [(0, 12, .rw), (16, 8, .rw), (32, 16, .rw), (48, 8, .rw)]⟩,
  ⟨0x48, 0, 1, none, [(0, 16, .ro), (16, 8, .ro), (24, 40, .ro)]⟩,
  ⟨0x0, 0, 1, none, [(0, 7, .ro), (8, 24, .ro), (32, 16, .ro), (48, 12, .ro)]⟩,
  ⟨0x28, 0, 1, none, [(0, 1, .rw), (1, 1, .rw), (2, 1, .rw), (8, 8, .rw)]⟩,
  ⟨0x30, 0, 1, none, [(0, 1, .w1c), (1, 1, .w1c), (2, 1, .w1c), (8, 8, .w1c)]⟩]

/-- The registers of island 0 of their own: offsets within the island. -/
def mgtRows : List RegRow := [
  ⟨0x1100, 0, 1, none, [(0, 1, .ro), (1, 1, .ro), (2, 1, .ro), (3, 1, .ro), (4, 1, .ro), (5, 1, .ro), (6, 1, .ro), (7, 1, .ro), (8, 1, .ro), (9, 1, .ro), (10, 1, .ro), (16, 8, .ro), (24, 6, .ro), (30, 2, .ro), (32, 32, .ro)]⟩,
  ⟨0x1300, 0, 1, none, [(0, 32, .ro), (32, 8, .ro), (40, 1, .ro), (41, 1, .ro)]⟩,
  ⟨0x1400, 0, 1, none, [(0, 8, .rw)]⟩,
  ⟨0x1408, 0, 1, some ⟨0x1400, 0, 8, 0⟩, [(0, 7, .ro), (8, 7, .ro), (15, 1, .ro), (16, 32, .ro)]⟩,
  ⟨0x1200, 0, 1, none, [(0, 6, .rw)]⟩,
  ⟨0x1208, 0, 1, none, [(0, 10, .ro), (16, 6, .ro), (24, 6, .ro), (30, 1, .ro), (31, 1, .ro), (32, 4, .ro), (40, 7, .ro), (48, 10, .ro)]⟩,
  ⟨0x1210, 0, 1, none, [(0, 4, .ro), (4, 8, .ro), (12, 1, .w1c), (13, 1, .w1c), (14, 1, .w1c), (15, 1, .w1c), (16, 6, .ro), (22, 1, .w1c)]⟩,
  ⟨0x1500, 0, 1, none, [(0, 48, .rw)]⟩,
  ⟨0x1508, 0, 1, none, [(0, 33, .rw), (33, 1, .wo), (34, 1, .w1c), (35, 1, .w1c)]⟩,
  ⟨0x1510, 0, 1, none, [(0, 1, .wo), (1, 1, .wo)]⟩,
  ⟨0x1518, 0, 1, none, [(0, 48, .rw), (48, 1, .w1s), (56, 8, .rw)]⟩,
  ⟨0x1520, 0, 1, none, [(0, 3, .ro), (8, 8, .ro), (16, 7, .ro), (24, 7, .ro), (31, 1, .w1c), (32, 16, .rc)]⟩,
  ⟨0x1528, 0, 1, none, [(0, 32, .ro), (32, 32, .ro)]⟩,
  ⟨0x1530, 0, 1, none, [(0, 48, .ro)]⟩,
  ⟨0x1538, 0, 1, none, [(0, 64, .ro)]⟩,
  ⟨0x1540, 0, 1, none, [(0, 36, .ro)]⟩,
  ⟨0x1600, 0, 1, none, [(0, 3, .ro), (4, 4, .ro), (8, 2, .ro), (16, 16, .ro)]⟩,
  ⟨0x1608, 0, 1, none, [(0, 64, .ro)]⟩,
  ⟨0x1610, 0, 1, none, [(0, 36, .ro)]⟩,
  ⟨0x1618, 0, 1, none, [(0, 2, .ro), (2, 2, .ro), (4, 8, .ro), (12, 4, .ro), (16, 2, .ro), (18, 4, .ro)]⟩,
  ⟨0x1620, 0, 1, none, [(0, 64, .ro)]⟩,
  ⟨0x1628, 0, 1, none, [(0, 20, .ro)]⟩,
  ⟨0x1630, 0, 1, none, [(0, 64, .ro)]⟩,
  ⟨0x1638, 0, 1, none, [(0, 2, .rw), (2, 9, .rw)]⟩,
  ⟨0x1640, 0, 1, some ⟨0x1638, 0, 11, 0⟩, [(0, 64, .rw)]⟩,
  ⟨0x1648, 0, 1, none, [(0, 13, .rw), (13, 1, .wo), (14, 1, .ro), (15, 1, .w1c), (16, 1, .wo), (17, 1, .ro), (18, 1, .wo), (19, 1, .ro)]⟩]

/-- The registers of island 1 of their own: offsets within the island. -/
def timRows : List RegRow := [
  ⟨0x1000, 0, 1, none, [(0, 16, .rw), (16, 32, .rw), (48, 16, .rw)]⟩,
  ⟨0x1008, 0, 1, none, [(0, 32, .rw)]⟩,
  ⟨0x1010, 0, 1, none, [(0, 3, .ro), (3, 1, .w1c), (8, 40, .ro), (48, 16, .ro)]⟩,
  ⟨0x1018, 0, 1, none, [(0, 32, .ro), (32, 32, .ro)]⟩,
  ⟨0x1020, 0, 1, none, [(0, 16, .rw), (16, 16, .rw), (32, 8, .rw), (40, 4, .rw), (44, 4, .rw), (48, 4, .rw), (52, 4, .rw), (56, 8, .rw)]⟩,
  ⟨0x1028, 0, 1, none, [(0, 48, .ro)]⟩,
  ⟨0x1030, 0, 1, none, [(0, 30, .ro), (30, 1, .ro), (32, 32, .ro)]⟩,
  ⟨0x1100, 0x20, 8, none, [(0, 2, .rw), (2, 1, .rw), (3, 1, .rw), (4, 1, .w1c), (5, 1, .w1c), (8, 24, .rw), (32, 16, .rw)]⟩,
  ⟨0x1108, 0x20, 8, none, [(0, 16, .rw), (16, 32, .rw), (48, 16, .rw)]⟩,
  ⟨0x1110, 0x20, 8, none, [(0, 32, .rw)]⟩,
  ⟨0x1118, 0x20, 8, none, [(0, 48, .rw)]⟩,
  ⟨0x1200, 0x20, 4, none, [(0, 1, .rw), (1, 1, .rw), (8, 5, .ro), (16, 1, .w1c), (32, 16, .rw)]⟩,
  ⟨0x1208, 0x20, 4, none, [(0, 16, .ro), (16, 32, .ro), (48, 16, .ro)]⟩,
  ⟨0x1210, 0x20, 4, none, [(0, 32, .ro), (32, 1, .ro), (33, 1, .ro)]⟩,
  ⟨0x1300, 0, 1, none, [(0, 1, .ro), (1, 1, .rw), (2, 2, .rw), (4, 1, .ro), (16, 16, .rw)]⟩,
  ⟨0x1400, 0, 1, none, [(0, 10, .rw)]⟩,
  ⟨0x1408, 0, 1, some ⟨0x1400, 0, 10, 0⟩, [(0, 32, .rw), (32, 8, .ro), (40, 1, .ro), (41, 2, .ro)]⟩,
  ⟨0x1410, 0, 1, none, [(0, 10, .rw)]⟩,
  ⟨0x1418, 0, 1, some ⟨0x1410, 0, 10, 0⟩, [(0, 32, .ro), (32, 1, .w1c), (33, 1, .ro), (40, 8, .ro), (48, 16, .rw)]⟩]

/-- The registers of island 2 of their own: offsets within the island. -/
def lnkRows : List RegRow := [
]

/-- The registers of island 3 of their own: offsets within the island. -/
def ingRows : List RegRow := [
  ⟨0x1000, 0, 1, none, [(0, 16, .rw), (16, 14, .rw), (32, 7, .rw), (40, 8, .rw)]⟩,
  ⟨0x1008, 0, 1, none, [(0, 17, .ro), (17, 9, .ro), (32, 32, .rc)]⟩,
  ⟨0x1010, 0, 1, none, [(0, 8, .rc), (8, 8, .rc), (16, 8, .rc), (24, 8, .rc), (32, 8, .rc), (40, 8, .rc), (48, 8, .rc), (56, 8, .rc)]⟩,
  ⟨0x1100, 0, 1, none, [(0, 15, .rw)]⟩,
  ⟨0x1108, 0, 1, some ⟨0x1100, 0, 15, 0⟩, [(0, 32, .ro), (32, 4, .ro), (36, 1, .ro), (37, 1, .ro), (38, 1, .ro), (40, 16, .ro)]⟩,
  ⟨0x1110, 0, 1, some ⟨0x1100, 0, 15, 0⟩, [(0, 21, .rw), (32, 21, .rw)]⟩,
  ⟨0x1118, 0, 1, some ⟨0x1100, 0, 15, 0⟩, [(0, 18, .rw), (32, 18, .rw)]⟩,
  ⟨0x1120, 0, 1, some ⟨0x1100, 0, 15, 0⟩, [(0, 32, .ro), (32, 32, .rc)]⟩,
  ⟨0x1128, 0, 1, some ⟨0x1100, 0, 15, 0⟩, [(0, 32, .rc), (32, 32, .rc)]⟩,
  ⟨0x1130, 0, 1, some ⟨0x1100, 0, 15, 0⟩, [(0, 32, .rc), (32, 32, .rc)]⟩,
  ⟨0x1138, 0, 1, some ⟨0x1100, 0, 15, 0⟩, [(0, 32, .rc), (32, 32, .rc)]⟩,
  ⟨0x1140, 0, 1, some ⟨0x1100, 0, 15, 0⟩, [(0, 32, .rc), (32, 16, .rc), (48, 16, .rc)]⟩,
  ⟨0x1200, 0, 1, none, [(0, 16, .rw)]⟩,
  ⟨0x1208, 0, 1, some ⟨0x1200, 0, 16, 0⟩, [(0, 24, .ro), (24, 24, .ro)]⟩]

/-- The registers of island 4 of their own: offsets within the island. -/
def alnRows : List RegRow := [
  ⟨0x1000, 0, 1, none, [(0, 1, .rw), (1, 6, .rw), (8, 7, .rw), (16, 7, .rw), (24, 4, .rw), (28, 3, .rw), (31, 1, .rw), (32, 16, .rw)]⟩,
  ⟨0x1008, 0, 1, none, [(0, 6, .ro), (8, 4, .ro), (16, 48, .ro)]⟩,
  ⟨0x1100, 0, 1, none, [(0, 2, .rw)]⟩,
  ⟨0x1108, 0, 1, some ⟨0x1100, 0, 2, 0⟩, [(0, 16, .rw), (16, 8, .ro), (24, 8, .ro), (32, 1, .ro)]⟩,
  ⟨0x1110, 0, 1, some ⟨0x1100, 0, 2, 0⟩, [(0, 3, .ro), (3, 3, .ro), (6, 3, .ro), (9, 1, .ro), (10, 1, .ro), (16, 8, .ro)]⟩,
  ⟨0x1118, 0, 1, some ⟨0x1100, 0, 2, 0⟩, [(0, 16, .rc), (16, 16, .rc), (32, 16, .rc), (48, 16, .rc)]⟩]

/-- The registers of island 5 of their own: offsets within the island. -/
def feaRows : List RegRow := [
  ⟨0x1000, 0, 1, none, [(0, 16, .rw), (16, 16, .rw), (32, 6, .rw), (40, 5, .rw)]⟩,
  ⟨0x1008, 0, 1, none, [(0, 48, .ro), (48, 3, .ro)]⟩,
  ⟨0x1010, 0, 1, none, [(0, 16, .rc), (16, 16, .rc), (32, 16, .rc), (48, 16, .rc)]⟩,
  ⟨0x1100, 0, 1, none, [(0, 12, .rw)]⟩,
  ⟨0x1108, 0, 1, some ⟨0x1100, 0, 12, 0⟩, [(0, 32, .rw), (32, 8, .rw), (40, 16, .rw), (56, 8, .rw)]⟩,
  ⟨0x1200, 0, 1, none, [(0, 32, .ro), (32, 1, .ro), (33, 6, .ro), (39, 8, .ro), (48, 4, .ro), (56, 8, .rc)]⟩,
  ⟨0x1208, 0, 1, none, [(0, 16, .ro), (16, 48, .ro)]⟩]

/-- The registers of island 6 of their own: offsets within the island. -/
def treRows : List RegRow := [
  ⟨0x1000, 0, 1, none, [(0, 16, .rw), (16, 1, .rw), (20, 4, .rw)]⟩,
  ⟨0x1008, 0, 1, none, [(0, 1, .ro), (1, 1, .ro), (2, 1, .ro), (8, 48, .ro)]⟩,
  ⟨0x1010, 0, 1, none, [(0, 32, .ro), (32, 8, .ro), (40, 1, .ro), (41, 1, .ro)]⟩,
  ⟨0x1018, 0, 1, none, [(0, 32, .ro), (32, 8, .ro), (40, 1, .ro), (41, 1, .ro)]⟩,
  ⟨0x1020, 0, 1, none, [(0, 48, .ro)]⟩,
  ⟨0x1028, 0, 1, none, [(0, 16, .rc), (16, 16, .rc), (32, 16, .rc), (48, 16, .rc)]⟩,
  ⟨0x1030, 0, 1, none, [(0, 16, .rc), (16, 16, .rc), (32, 16, .rc)]⟩,
  ⟨0x1038, 0, 1, none, [(0, 15, .ro), (15, 4, .ro), (19, 1, .ro), (20, 3, .ro)]⟩,
  ⟨0x1100, 0, 1, none, [(0, 15, .rw), (15, 4, .rw), (19, 1, .rw), (20, 4, .rw)]⟩,
  ⟨0x1108, 0, 1, some ⟨0x1100, 0, 24, 0⟩, [(0, 64, .ro)]⟩,
  ⟨0x1110, 0, 1, some ⟨0x1100, 0, 24, 0⟩, [(0, 32, .ro), (32, 4, .ro), (36, 4, .ro), (40, 8, .ro), (48, 1, .ro)]⟩,
  ⟨0x1200, 0, 1, none, [(0, 9, .rw), (9, 6, .rw), (15, 1, .rw)]⟩,
  ⟨0x1208, 0, 1, some ⟨0x1200, 0, 16, 0⟩, [(0, 8, .ro), (8, 16, .ro), (24, 1, .ro), (32, 9, .ro), (41, 2, .ro)]⟩,
  ⟨0x1300, 0, 1, none, [(0, 3, .rw), (3, 1, .rw), (4, 4, .rw)]⟩,
  ⟨0x1308, 0, 1, some ⟨0x1300, 0, 8, 0⟩, [(0, 14, .ro), (14, 4, .ro), (18, 2, .ro), (20, 1, .ro), (21, 4, .ro), (25, 2, .ro), (27, 1, .ro), (32, 32, .ro)]⟩]

/-- The registers of island 7 of their own: offsets within the island. -/
def vrdRows : List RegRow := [
  ⟨0x1000, 0, 1, none, [(0, 1, .ro), (1, 1, .ro), (16, 48, .ro)]⟩,
  ⟨0x1008, 0, 1, none, [(0, 16, .rc), (16, 16, .rc), (32, 16, .rc), (48, 16, .rc)]⟩,
  ⟨0x1010, 0, 1, none, [(0, 7, .rw), (16, 16, .ro)]⟩,
  ⟨0x1018, 0, 1, none, [(0, 8, .rw), (8, 4, .rw), (16, 48, .rw)]⟩,
  ⟨0x1100, 0, 1, none, [(0, 2, .rw)]⟩,
  ⟨0x1108, 0, 1, some ⟨0x1100, 0, 2, 0⟩, [(0, 16, .rw), (16, 48, .ro)]⟩,
  ⟨0x1200, 0, 1, none, [(0, 2, .rw)]⟩,
  ⟨0x1208, 0, 1, some ⟨0x1200, 0, 2, 0⟩, [(0, 3, .ro), (3, 4, .ro), (7, 1, .ro), (8, 3, .ro), (11, 1, .ro), (12, 4, .ro), (16, 16, .ro), (32, 32, .ro)]⟩,
  ⟨0x1210, 0, 1, some ⟨0x1200, 0, 2, 0⟩, [(0, 32, .rw), (32, 32, .rw)]⟩,
  ⟨0x1218, 0, 1, some ⟨0x1200, 0, 2, 0⟩, [(0, 4, .rw), (4, 5, .rw), (16, 16, .rw), (32, 16, .rw), (48, 8, .rw), (56, 8, .rw)]⟩,
  ⟨0x1300, 0, 1, none, [(0, 8, .rw), (8, 8, .rw), (16, 16, .rw), (32, 16, .ro), (48, 8, .ro), (56, 7, .ro), (63, 1, .w1c)]⟩,
  ⟨0x1308, 0, 1, none, [(0, 48, .rw)]⟩,
  ⟨0x1310, 0, 1, none, [(0, 8, .rw), (8, 8, .rw), (16, 8, .rw), (24, 8, .rw), (32, 8, .rw)]⟩,
  ⟨0x1318, 0, 1, none, [(0, 48, .rw)]⟩]

/-- The registers of island 8 of their own: offsets within the island. -/
def stoRows : List RegRow := [
  ⟨0x1000, 0, 1, none, [(0, 8, .rw)]⟩,
  ⟨0x1008, 0, 1, none, [(0, 32, .rc), (32, 16, .rc), (48, 16, .ro)]⟩,
  ⟨0x1010, 0, 1, none, [(0, 33, .ro), (33, 3, .ro), (36, 2, .ro)]⟩,
  ⟨0x1018, 0, 1, none, [(0, 7, .ro), (7, 1, .ro), (8, 10, .ro), (18, 1, .ro), (32, 16, .rc)]⟩,
  ⟨0x1100, 0, 1, none, [(0, 10, .rw), (10, 1, .rw)]⟩,
  ⟨0x1108, 0, 1, some ⟨0x1100, 0, 11, 0⟩, [(0, 8, .ro), (8, 1, .ro), (9, 1, .ro), (10, 7, .ro), (28, 36, .ro)]⟩,
  ⟨0x1110, 0, 1, some ⟨0x1100, 0, 11, 0⟩, [(0, 36, .ro), (36, 16, .ro), (63, 1, .ro)]⟩]

/-- The registers of island 9 of their own: offsets within the island. -/
def codRows : List RegRow := [
  ⟨0x1000, 0, 1, none, [(0, 7, .rw)]⟩,
  ⟨0x1008, 0, 1, none, [(0, 16, .rc), (16, 16, .rc), (32, 16, .rc), (48, 16, .rc)]⟩,
  ⟨0x1010, 0, 1, none, [(0, 8, .rc), (8, 8, .rc), (16, 8, .rc), (24, 8, .rc), (32, 8, .rc), (40, 8, .rc)]⟩,
  ⟨0x1100, 0, 1, none, [(0, 2, .ro), (2, 1, .w1s), (3, 1, .w1c), (4, 1, .w1c), (8, 9, .rw), (32, 32, .ro)]⟩,
  ⟨0x1108, 0, 1, none, [(0, 8, .rw)]⟩,
  ⟨0x1110, 0, 1, some ⟨0x1108, 0, 8, 0⟩, [(0, 64, .rw)]⟩,
  ⟨0x1118, 0, 1, none, [(0, 2, .ro), (2, 1, .ro), (3, 1, .ro), (4, 9, .ro), (16, 16, .ro), (32, 32, .ro)]⟩,
  ⟨0x1120, 0, 1, none, [(0, 2, .ro), (2, 1, .ro), (3, 1, .ro), (4, 9, .ro), (16, 16, .ro), (32, 32, .ro)]⟩,
  ⟨0x1200, 0, 1, none, [(0, 4, .rw)]⟩,
  ⟨0x1208, 0, 1, some ⟨0x1200, 0, 4, 0⟩, [(0, 8, .ro), (8, 4, .ro), (12, 2, .ro), (14, 1, .ro), (16, 15, .ro), (32, 10, .ro), (42, 10, .ro)]⟩,
  ⟨0x1210, 0, 1, some ⟨0x1200, 0, 4, 0⟩, [(0, 48, .ro), (48, 16, .ro)]⟩,
  ⟨0x1218, 0, 1, some ⟨0x1200, 0, 4, 0⟩, [(0, 16, .rc), (16, 16, .rc), (32, 16, .rc), (48, 16, .rc)]⟩]

/-- The registers of island 10 of their own: offsets within the island. -/
def digRows : List RegRow := [
  ⟨0x1000, 0, 1, none, [(0, 1, .rw), (1, 1, .rw)]⟩,
  ⟨0x1008, 0, 1, none, [(0, 7, .ro), (8, 16, .ro), (24, 2, .ro)]⟩,
  ⟨0x1010, 0, 1, none, [(0, 32, .rc), (32, 16, .rc), (48, 16, .rc)]⟩,
  ⟨0x1018, 0, 1, none, [(0, 16, .rc), (16, 16, .rc), (32, 16, .rc), (48, 16, .rc)]⟩,
  ⟨0x1020, 0, 1, none, [(0, 32, .ro), (32, 16, .ro), (48, 3, .ro)]⟩,
  ⟨0x1028, 0, 1, none, [(0, 16, .rc), (16, 16, .rc), (32, 16, .rc), (48, 16, .rc)]⟩]

/-- The registers of island 11 of their own: offsets within the island. -/
def arbRows : List RegRow := [
  ⟨0x1000, 0, 1, none, [(0, 5, .ro), (5, 1, .ro), (6, 2, .ro)]⟩,
  ⟨0x1008, 0, 1, none, [(0, 16, .rc), (16, 16, .rc), (32, 16, .rc), (48, 16, .rc)]⟩,
  ⟨0x1100, 0, 1, none, [(0, 15, .rw), (16, 2, .rw)]⟩,
  ⟨0x1108, 0, 1, some ⟨0x1100, 0, 18, 0⟩, [(0, 64, .ro)]⟩]

/-- The registers of island 12 of their own: offsets within the island. -/
def expRows : List RegRow := [
  ⟨0x1000, 0, 1, none, [(0, 8, .rw), (8, 8, .rw), (16, 1, .ro)]⟩,
  ⟨0x1008, 0, 1, none, [(0, 8, .ro), (8, 1, .ro), (9, 1, .ro), (16, 13, .ro), (32, 17, .ro)]⟩,
  ⟨0x1100, 0, 1, none, [(0, 4, .rw), (4, 3, .rw)]⟩,
  ⟨0x1108, 0, 1, some ⟨0x1100, 0, 4, 0⟩, [(0, 21, .rw), (32, 10, .rw)]⟩,
  ⟨0x1110, 0, 1, some ⟨0x1100, 0, 7, 0⟩, [(0, 21, .rw), (32, 10, .rw)]⟩,
  ⟨0x1118, 0, 1, some ⟨0x1100, 0, 7, 0⟩, [(0, 32, .ro), (32, 32, .ro)]⟩,
  ⟨0x1200, 0, 1, none, [(0, 10, .rw)]⟩,
  ⟨0x1208, 0, 1, some ⟨0x1200, 0, 10, 0⟩, [(0, 48, .ro), (48, 4, .ro), (52, 1, .ro), (53, 1, .ro), (54, 1, .ro), (55, 8, .ro)]⟩,
  ⟨0x1210, 0, 1, some ⟨0x1200, 0, 10, 0⟩, [(0, 32, .rc), (32, 16, .rc), (48, 16, .rc)]⟩,
  ⟨0x1300, 0, 1, none, [(0, 16, .rw), (16, 7, .rw)]⟩,
  ⟨0x1308, 0, 1, none, [(0, 16, .rc), (16, 16, .rc), (32, 16, .rc), (48, 16, .rc)]⟩]

/-- The registers of island 13 of their own: offsets within the island. -/
def trcRows : List RegRow := [
  ⟨0x1000, 0, 1, none, [(0, 2, .rw), (2, 1, .wo), (3, 1, .wo), (4, 1, .rw), (5, 7, .rw), (12, 16, .rw), (28, 16, .rw), (44, 8, .ro)]⟩,
  ⟨0x1008, 0, 1, none, [(0, 2, .ro), (2, 1, .ro), (8, 8, .ro), (16, 32, .rc), (48, 16, .rc)]⟩,
  ⟨0x1010, 0, 1, none, [(0, 7, .rw), (8, 3, .rw), (11, 1, .rw), (12, 1, .rw)]⟩,
  ⟨0x1018, 0, 1, none, [(0, 7, .rw), (7, 1, .rw), (8, 16, .rw)]⟩,
  ⟨0x1020, 0, 1, none, [(0, 48, .ro)]⟩,
  ⟨0x1028, 0, 1, none, [(0, 32, .ro), (32, 32, .ro)]⟩,
  ⟨0x1030, 0, 1, none, [(0, 48, .rw), (48, 1, .w1s), (49, 1, .w1c), (50, 1, .ro), (51, 1, .w1c), (52, 1, .rw)]⟩,
  ⟨0x1038, 0, 1, none, [(0, 1, .w1s), (1, 1, .w1s), (2, 1, .w1s), (3, 1, .ro), (4, 48, .ro)]⟩,
  ⟨0x1100, 0, 1, none, [(0, 7, .rw)]⟩,
  ⟨0x1108, 0, 1, some ⟨0x1100, 0, 7, 0⟩, [(0, 1, .rw), (1, 1, .rw), (16, 16, .ro), (32, 32, .rc)]⟩]

/-- The registers of island 14 of their own: offsets within the island. -/
def stwRows : List RegRow := [
  ⟨0x2000, 0, 1, none, [(0, 6, .rw), (8, 4, .rw), (12, 1, .rw), (16, 5, .rw), (24, 6, .rw), (32, 16, .rw)]⟩,
  ⟨0x2008, 0, 1, none, [(0, 64, .ro)]⟩,
  ⟨0x2010, 0, 1, none, [(0, 20, .ro)]⟩,
  ⟨0x2018, 0, 1, none, [(0, 7, .ro), (8, 7, .ro), (16, 2, .ro), (20, 3, .ro), (32, 16, .rc), (48, 16, .rc)]⟩,
  ⟨0x2020, 0, 1, none, [(0, 6, .rw)]⟩,
  ⟨0x2028, 0, 1, some ⟨0x2020, 0, 6, 0⟩, [(0, 32, .ro), (32, 16, .ro), (48, 1, .w1c)]⟩,
  ⟨0x2100, 0, 1, none, [(0, 2, .rw)]⟩,
  ⟨0x2108, 0, 1, some ⟨0x2100, 0, 2, 0⟩, [(0, 1, .ro), (1, 2, .ro), (3, 6, .ro), (9, 6, .ro), (15, 4, .ro), (24, 7, .rw), (32, 32, .ro)]⟩,
  ⟨0x2110, 0, 1, some ⟨0x2100, 0, 2, 0⟩, [(0, 48, .ro), (48, 6, .ro), (54, 1, .ro), (55, 2, .ro)]⟩,
  ⟨0x2118, 0, 1, some ⟨0x2100, 0, 2, 0⟩, [(0, 16, .rc), (16, 16, .rc), (32, 16, .rc), (48, 16, .rc)]⟩,
  ⟨0x2120, 0, 1, some ⟨0x2100, 0, 2, 0⟩, [(0, 48, .ro), (48, 7, .ro)]⟩,
  ⟨0x2200, 0, 1, none, [(0, 9, .rw), (16, 8, .rw), (32, 32, .rw)]⟩,
  ⟨0x2208, 0, 1, none, [(0, 16, .rc), (16, 16, .rc), (32, 16, .rc), (48, 16, .rc)]⟩,
  ⟨0x2300, 0, 1, none, [(0, 10, .rw)]⟩,
  ⟨0x2308, 0, 1, some ⟨0x2300, 0, 10, 0⟩, [(0, 16, .ro), (16, 7, .ro), (23, 1, .ro), (24, 1, .ro), (25, 1, .ro), (32, 32, .ro)]⟩,
  ⟨0x2310, 0, 1, none, [(0, 16, .rc), (16, 16, .rc), (32, 16, .rc), (48, 16, .rc)]⟩,
  ⟨0x1000, 0, 1, none, [(0, 4, .rw)]⟩,
  ⟨0x1008, 0, 1, some ⟨0x1000, 0, 4, 0⟩, [(0, 8, .ro), (8, 8, .ro), (16, 3, .ro), (32, 16, .rc), (48, 16, .rc)]⟩,
  ⟨0x1100, 0, 1, none, [(0, 2, .rw), (2, 1, .rw), (3, 9, .rw)]⟩,
  ⟨0x1108, 0, 1, some ⟨0x1100, 0, 12, 0⟩, [(0, 64, .rw)]⟩,
  ⟨0x1110, 0, 1, some ⟨0x1100, 0, 2, 0⟩, [(0, 13, .rw), (13, 1, .w1s), (14, 1, .ro), (15, 1, .w1c), (16, 13, .ro), (29, 1, .ro)]⟩,
  ⟨0x1200, 0, 1, none, [(0, 16, .rc), (16, 16, .rc), (32, 16, .rc), (48, 16, .rc)]⟩,
  ⟨0x2400, 0, 1, none, [(0, 16, .rw), (16, 16, .rw)]⟩,
  ⟨0x2408, 0, 1, none, [(0, 32, .ro), (32, 32, .ro)]⟩,
  ⟨0x2410, 0, 1, none, [(0, 48, .ro), (48, 1, .ro), (49, 1, .w1c), (50, 1, .w1c)]⟩,
  ⟨0x2418, 0, 1, none, [(0, 3, .rw)]⟩,
  ⟨0x2420, 0, 1, some ⟨0x2418, 0, 3, 0⟩, [(0, 32, .ro), (32, 16, .ro), (48, 16, .ro)]⟩,
  ⟨0x2428, 0, 1, some ⟨0x2418, 0, 3, 0⟩, [(0, 32, .ro), (32, 32, .ro)]⟩,
  ⟨0x2430, 0, 1, some ⟨0x2418, 0, 3, 0⟩, [(0, 16, .rc), (16, 16, .rc), (32, 16, .rc), (48, 16, .rc)]⟩]

/-- The registers of island 15 of their own: offsets within the island. -/
def tstRows : List RegRow := [
  ⟨0x1000, 0, 1, none, [(0, 32, .rw), (32, 4, .rw)]⟩,
  ⟨0x1008, 0, 1, none, [(0, 9, .ro), (16, 16, .ro), (32, 16, .rc)]⟩,
  ⟨0x1100, 0, 1, none, [(0, 8, .rw)]⟩,
  ⟨0x1108, 0, 1, some ⟨0x1100, 0, 8, 0⟩, [(0, 32, .ro), (32, 32, .ro)]⟩]

/-- The registers of a tensor core of its own (R281). -/
def coreRows : List RegRow := [
  ⟨0x1000, 0, 1, none, [(0, 32, .ro), (32, 6, .ro), (38, 1, .ro), (39, 1, .ro), (40, 1, .ro), (41, 1, .ro), (42, 1, .ro), (43, 1, .ro)]⟩,
  ⟨0x1008, 0, 1, none, [(0, 16, .rc), (16, 16, .rc), (32, 16, .rc), (48, 16, .rc)]⟩,
  ⟨0x1010, 0, 1, none, [(0, 32, .rc), (32, 16, .rc), (48, 16, .rc)]⟩,
  ⟨0x1018, 0, 1, none, [(0, 16, .rc), (16, 16, .rc), (32, 16, .rc), (48, 16, .rc)]⟩]

/-- The Potik window below 0x1000 (R498). -/
def potikRows : List RegRow := [
  ⟨0x400, 0x8, 4, none, [(0, 32, .rw), (32, 32, .rw)]⟩,
  ⟨0x420, 0, 1, none, [(0, 3, .ro), (3, 1, .w1c), (4, 2, .ro), (6, 1, .w1c), (16, 48, .ro)]⟩,
  ⟨0x428, 0, 1, none, [(0, 16, .rw), (16, 16, .rw), (32, 8, .rw), (40, 4, .rw), (44, 4, .rw), (48, 4, .rw), (52, 4, .rw), (56, 8, .rw)]⟩,
  ⟨0x0, 0, 1, none, [(0, 12, .ro), (12, 1, .ro), (16, 7, .ro), (24, 9, .ro), (33, 7, .ro), (40, 5, .ro), (48, 8, .ro)]⟩,
  ⟨0x100, 0, 1, none, [(0, 6, .rw)]⟩,
  ⟨0x108, 0, 1, some ⟨0x100, 0, 6, 0⟩, [(0, 16, .rw), (16, 16, .ro), (32, 1, .ro), (33, 1, .ro), (34, 4, .ro)]⟩,
  ⟨0x200, 0, 1, none, [(0, 1, .rw)]⟩,
  ⟨0x208, 0, 1, none, [(0, 12, .ro), (12, 1, .ro), (32, 16, .ro)]⟩,
  ⟨0x210, 0, 1, none, [(0, 4, .rw), (4, 11, .rw)]⟩,
  ⟨0x218, 0, 1, some ⟨0x210, 0, 15, 0⟩, [(0, 32, .ro), (32, 1, .w1c), (33, 1, .ro), (34, 6, .ro), (40, 1, .ro)]⟩,
  ⟨0x300, 0, 1, none, [(0, 1, .rw), (1, 1, .rw)]⟩,
  ⟨0x308, 0, 1, none, [(0, 13, .ro), (13, 1, .ro), (16, 32, .rc)]⟩,
  ⟨0x310, 0, 1, none, [(0, 64, .ro)]⟩,
  ⟨0x500, 0, 1, none, [(0, 8, .rw)]⟩,
  ⟨0x508, 0, 1, some ⟨0x500, 0, 8, 0⟩, [(0, 1, .rw), (16, 16, .ro), (32, 16, .rc)]⟩,
  ⟨0x510, 0, 1, some ⟨0x500, 0, 8, 0⟩, [(0, 16, .ro), (16, 16, .ro), (32, 16, .ro), (48, 14, .ro), (62, 1, .ro)]⟩,
  ⟨0x600, 0, 1, none, [(0, 4, .ro), (4, 9, .ro), (16, 17, .ro), (33, 6, .ro), (39, 6, .ro), (45, 6, .ro)]⟩,
  ⟨0x608, 0, 1, none, [(0, 32, .rw), (32, 8, .rw), (40, 4, .rw), (44, 4, .rw)]⟩,
  ⟨0x610, 0, 1, none, [(0, 16, .rw), (16, 16, .rw), (32, 16, .rw), (48, 16, .rw)]⟩,
  ⟨0x618, 0, 1, none, [(0, 16, .rw), (16, 16, .rw), (32, 16, .rw)]⟩,
  ⟨0x620, 0, 1, none, [(0, 8, .rw), (8, 8, .rw), (16, 8, .rw), (24, 8, .rw), (32, 8, .rw), (40, 8, .rw), (48, 8, .rw)]⟩,
  ⟨0x628, 0, 1, none, [(0, 16, .ro), (16, 16, .ro)]⟩,
  ⟨0x640, 0, 1, none, [(0, 4, .rw)]⟩,
  ⟨0x648, 0, 1, some ⟨0x640, 0, 4, 0⟩, [(0, 1, .rw), (1, 1, .rw), (2, 6, .rw), (8, 8, .rw), (16, 4, .rw), (32, 16, .rw), (48, 16, .rc)]⟩,
  ⟨0x650, 0, 1, some ⟨0x640, 0, 4, 0⟩, [(6, 58, .rw)]⟩,
  ⟨0x658, 0, 1, some ⟨0x640, 0, 4, 0⟩, [(6, 58, .rw)]⟩,
  ⟨0x680, 0, 1, none, [(0, 1, .rw), (1, 5, .rw), (16, 16, .rw), (32, 32, .wo)]⟩,
  ⟨0x688, 0, 1, none, [(0, 1, .ro), (16, 16, .rc), (32, 16, .rc), (48, 16, .rc)]⟩,
  ⟨0x690, 0, 1, none, [(0, 10, .rw)]⟩,
  ⟨0x698, 0, 1, some ⟨0x690, 0, 10, 0⟩, [(0, 8, .rw), (8, 8, .ro)]⟩,
  ⟨0x6c0, 0, 1, none, [(0, 32, .rc), (32, 3, .ro)]⟩,
  ⟨0x700, 0, 1, none, [(0, 1, .ro), (1, 8, .ro), (9, 4, .ro), (13, 3, .ro), (16, 16, .rc)]⟩,
  ⟨0x740, 0, 1, none, [(0, 2, .rw), (2, 1, .wo), (3, 1, .ro), (4, 12, .rw), (16, 8, .rw), (24, 16, .rc)]⟩,
  ⟨0x780, 0, 1, none, [(0, 17, .rw), (17, 11, .rw), (28, 8, .rw)]⟩,
  ⟨0x788, 0, 1, none, [(0, 19, .ro), (32, 32, .rc)]⟩,
  ⟨0x7c0, 0, 1, none, [(0, 1, .ro), (1, 1, .w1c)]⟩,
  ⟨0x7a0, 0, 1, none, [(0, 16, .rw), (16, 14, .rw), (32, 8, .rw)]⟩,
  ⟨0x7a8, 0, 1, none, [(0, 48, .rw)]⟩,
  ⟨0x7b0, 0, 1, none, [(0, 32, .ro)]⟩,
  ⟨0x6c8, 0, 1, none, [(0, 16, .wo), (16, 32, .wo)]⟩,
  ⟨0x708, 0, 1, none, [(0, 4, .rw)]⟩,
  ⟨0x710, 0, 1, some ⟨0x708, 0, 4, 0⟩, [(0, 32, .rw), (32, 28, .rw), (60, 3, .rw), (63, 1, .rw)]⟩,
  ⟨0x718, 0, 1, some ⟨0x708, 0, 4, 0⟩, [(0, 64, .w1s)]⟩,
  ⟨0x720, 0, 1, some ⟨0x708, 0, 4, 0⟩, [(0, 64, .w1s)]⟩,
  ⟨0x728, 0, 1, some ⟨0x708, 0, 4, 0⟩, [(0, 64, .w1s)]⟩,
  ⟨0x730, 0, 1, some ⟨0x708, 0, 4, 0⟩, [(0, 64, .w1s)]⟩,
  ⟨0x7b8, 0, 1, none, [(0, 16, .rw)]⟩,
  ⟨0x750, 0, 1, none, [(0, 48, .rw), (48, 1, .w1s), (49, 1, .w1c)]⟩,
  ⟨0x80, 0, 1, none, [(0, 1, .rw), (1, 1, .ro)]⟩,
  ⟨0x7c8, 0, 1, none, [(0, 2, .rw), (2, 4, .rw)]⟩,
  ⟨0x7d0, 0, 1, some ⟨0x7c8, 0, 6, 0⟩, [(0, 64, .rw)]⟩,
  ⟨0x7d8, 0, 1, none, [(0, 1, .wo), (1, 1, .ro), (2, 1, .ro)]⟩]

/-- The counter groups of the Potik window (R498): group g at 0x1000 + g × 0x100. -/
def groupRows : List RegRow := [
  ⟨0x1000, 0x100, 128, none, [(0, 6, .ro), (8, 5, .ro)]⟩,
  ⟨0x1008, 0x100, 128, none, [(0, 8, .w1c), (8, 8, .w1c), (16, 1, .ro), (17, 1, .ro)]⟩,
  ⟨0x1010, 0x100, 128, none, [(0, 64, .ro)]⟩,
  ⟨0x1018, 0x100, 128, none, [(0, 48, .rw)]⟩,
  ⟨0x1020, 0x100, 128, none, [(0, 48, .rw)]⟩,
  ⟨0x1028, 0x100, 128, none, [(0, 48, .rw)]⟩,
  ⟨0x1030, 0x100, 128, none, [(0, 48, .rw)]⟩,
  ⟨0x1038, 0x100, 128, none, [(0, 48, .rw)]⟩,
  ⟨0x1040, 0x100, 128, none, [(0, 48, .rw)]⟩,
  ⟨0x1048, 0x100, 128, none, [(0, 48, .rw)]⟩,
  ⟨0x1050, 0x100, 128, none, [(0, 48, .rw)]⟩,
  ⟨0x1058, 0x100, 128, none, [(0, 10, .rw), (10, 1, .rw), (11, 1, .rw), (12, 1, .rw), (14, 4, .rw), (18, 2, .rw), (20, 1, .rw), (24, 8, .rw), (32, 12, .rw), (44, 12, .rw)]⟩,
  ⟨0x1060, 0x100, 128, none, [(0, 10, .rw), (10, 1, .rw), (11, 1, .rw), (12, 1, .rw), (14, 4, .rw), (18, 2, .rw), (20, 1, .rw), (24, 8, .rw), (32, 12, .rw), (44, 12, .rw)]⟩,
  ⟨0x1068, 0x100, 128, none, [(0, 10, .rw), (10, 1, .rw), (11, 1, .rw), (12, 1, .rw), (14, 4, .rw), (18, 2, .rw), (20, 1, .rw), (24, 8, .rw), (32, 12, .rw), (44, 12, .rw)]⟩,
  ⟨0x1070, 0x100, 128, none, [(0, 10, .rw), (10, 1, .rw), (11, 1, .rw), (12, 1, .rw), (14, 4, .rw), (18, 2, .rw), (20, 1, .rw), (24, 8, .rw), (32, 12, .rw), (44, 12, .rw)]⟩,
  ⟨0x1078, 0x100, 128, none, [(0, 10, .rw), (10, 1, .rw), (11, 1, .rw), (12, 1, .rw), (14, 4, .rw), (18, 2, .rw), (20, 1, .rw), (24, 8, .rw), (32, 12, .rw), (44, 12, .rw)]⟩,
  ⟨0x1080, 0x100, 128, none, [(0, 10, .rw), (10, 1, .rw), (11, 1, .rw), (12, 1, .rw), (14, 4, .rw), (18, 2, .rw), (20, 1, .rw), (24, 8, .rw), (32, 12, .rw), (44, 12, .rw)]⟩,
  ⟨0x1088, 0x100, 128, none, [(0, 10, .rw), (10, 1, .rw), (11, 1, .rw), (12, 1, .rw), (14, 4, .rw), (18, 2, .rw), (20, 1, .rw), (24, 8, .rw), (32, 12, .rw), (44, 12, .rw)]⟩,
  ⟨0x1090, 0x100, 128, none, [(0, 10, .rw), (10, 1, .rw), (11, 1, .rw), (12, 1, .rw), (14, 4, .rw), (18, 2, .rw), (20, 1, .rw), (24, 8, .rw), (32, 12, .rw), (44, 12, .rw)]⟩,
  ⟨0x1098, 0x100, 128, none, [(0, 48, .rw)]⟩,
  ⟨0x10a0, 0x100, 128, none, [(0, 48, .rw)]⟩,
  ⟨0x10a8, 0x100, 128, none, [(0, 48, .rw)]⟩,
  ⟨0x10b0, 0x100, 128, none, [(0, 48, .rw)]⟩,
  ⟨0x10b8, 0x100, 128, none, [(0, 48, .rw)]⟩,
  ⟨0x10c0, 0x100, 128, none, [(0, 48, .rw)]⟩,
  ⟨0x10c8, 0x100, 128, none, [(0, 48, .rw)]⟩,
  ⟨0x10d0, 0x100, 128, none, [(0, 48, .rw)]⟩,
  ⟨0x10d8, 0x100, 128, none, [(6, 58, .rw)]⟩,
  ⟨0x10e0, 0x100, 128, none, [(6, 58, .rw)]⟩,
  ⟨0x10e8, 0x100, 128, none, [(6, 58, .rw)]⟩,
  ⟨0x10f0, 0x100, 128, none, [(6, 58, .rw)]⟩]

end Sys2Proof.Machine
end

