-- ==== Sys2Proof/Machine/Access.lean ====
section
/-! DEFINITION. Finding the register that an offset names (R492, R497, R498), and 32-bit accesses (R119). -/

namespace Sys2Proof.Machine

/-- The row has a register at `off`. -/
def RegRow.covers (r : RegRow) (off : Nat) : Bool :=
  if r.step = 0 then off == r.base
  else decide (r.base ≤ off) && (off - r.base) % r.step == 0 && decide ((off - r.base) / r.step < max 1 r.count)

/-- The row of the register at `off`. -/
def findRow (rows : List RegRow) (off : Nat) : Option RegRow := rows.find? (fun r => r.covers off)

/-- The entry that a row's index register selects; `rd` reads registers of the same window. -/
def RegRow.index (r : RegRow) (rd : Nat → Word) : Nat :=
  match r.idx with
  | some i => getBits (rd i.addr) i.lo i.w
  | none => 0

/-- The bank address of an entry: 2^26 × index above the data register. -/
def entryAddr (off idx : Nat) : Nat := off + idx * 0x4000000

/-- A half of a register: 0 the low one, 1 the high one; none for the whole. -/
abbrev Half := Option Bool

/-- The bits that a half covers. -/
def halfMask : Half → Word
  | none => 0xFFFFFFFFFFFFFFFF
  | some false => 0xFFFFFFFF
  | some true => 0xFFFFFFFF00000000

/-- A register after a write of a half, or of the whole, by its access codes. -/
def writeHalf (h : Half) (flds : List (Nat × Nat × Acc)) (old v : Word) : Word :=
  (old &&& ~~~(halfMask h)) ||| (writeReg flds old (v &&& halfMask h) &&& halfMask h)

/-- The registers of island `n` of its own (R492). -/
def ownRows (n : Nat) : List RegRow :=
  match n with
  | 0 => mgtRows | 1 => timRows | 2 => lnkRows | 3 => ingRows | 4 => alnRows | 5 => feaRows | 6 => treRows | 7 => vrdRows | 8 => stoRows
  | 9 => codRows | 10 => digRows | 11 => arbRows | 12 => expRows | 13 => trcRows | 14 => stwRows | 15 => tstRows
  | n => if n < 100 then coreRows else []

/-- The register of island `n` at an offset (R492, R493); MGT has no _QUIET and no _SPRING. -/
def islandRow (n off : Nat) : Option RegRow :=
  if n = 0 ∧ (off = 0x40 ∨ off = 0x48) then none
  else if off < 0x1000 then (if n < 100 then findRow commonRows off else none) else findRow (ownRows n) off

/-- The bits of a register's RW fields. -/
def rwMask (flds : List (Nat × Nat × Acc)) : Word :=
  flds.foldl (fun m f => if f.2.2 = .rw then m ||| fieldMask f.1 f.2.1 else m) 0

/-- An ISLAND record as R422 lays it out: island, offset and value; none when its reserved bytes are not 0. -/
def islandRec (b : Bytes) : Option (Nat × Nat × Nat) :=
  if b.length = 16 ∧ bytesAt b 1 3 = 0 then some (bytesAt b 0 1, bytesAt b 4 4, bytesAt b 8 8) else none

/-- The record names a register with an RW field, and sets no bit outside its RW fields (R422). -/
def islandRecOk (r : Nat × Nat × Nat) : Bool :=
  match islandRow r.1 r.2.1 with
  | none => false
  | some row => rwMask row.flds != 0 && BitVec.ofNat 64 r.2.2 &&& ~~~(rwMask row.flds) == 0

end Sys2Proof.Machine
end

