-- ==== Sys2Proof/Machine/Fp.lean ====
section
/-! DEFINITION. Floating-point numbers: exact values of FP32, BF16, E4M3, E5M2 and E2M1 codes, and rounding to FP32 and BF16 to nearest
with ties to even (R128). -/

namespace Sys2Proof.Machine

/-- The exact value of a code: a NaN, an infinity, or ± m × 2^e. -/
inductive Fp where
  | nan
  | inf (neg : Bool)
  | fin (neg : Bool) (m : Nat) (e : Int)
deriving DecidableEq, Repr

/-- m / 2^k to the nearest integer, ties to even. -/
def roundShift (m k : Nat) : Nat :=
  let q := m / 2 ^ k
  let r := m % 2 ^ k
  if 2 ^ k < 2 * r ∨ (2 ^ k = 2 * r ∧ q % 2 = 1) then q + 1 else q

/-- The value of an IEEE-like code with `eb` exponent and `mb` fraction bits. -/
def decodeIeee (eb mb x : Nat) : Fp :=
  let neg := x.testBit (eb + mb)
  let f := x % 2 ^ mb
  let e := x / 2 ^ mb % 2 ^ eb
  let bias : Int := (2 ^ (eb - 1) - 1 : Nat)
  if e = 2 ^ eb - 1 then (if f = 0 then .inf neg else .nan)
  else if e = 0 then .fin neg f (1 - bias - (mb : Int))
  else .fin neg (f + 2 ^ mb) ((e : Int) - bias - (mb : Int))

/-- The code of ± m × 2^e in such a format, rounded to nearest with ties to even; an overflow gives the infinity. -/
def encodeIeee (eb mb : Nat) (neg : Bool) (m : Nat) (e : Int) : Nat :=
  let s := b2n neg * 2 ^ (eb + mb)
  if m = 0 then s
  else
    let bias : Int := (2 ^ (eb - 1) - 1 : Nat)
    let quantum : Int := max ((Nat.log2 m : Int) + e) (1 - bias) - (mb : Int)
    let sig := if quantum ≤ e then m * 2 ^ (e - quantum).toNat else roundShift m (quantum - e).toNat
    let code := if sig < 2 ^ mb then sig else (quantum + (mb : Int) + bias).toNat * 2 ^ mb + (sig - 2 ^ mb)
    s + min code ((2 ^ eb - 1) * 2 ^ mb)

/-- The value of an E4M3 code: no infinity, one NaN of each sign. -/
def decodeE4m3 (x : Nat) : Fp :=
  if x % 128 = 127 then .nan
  else if x / 8 % 16 = 0 then .fin (x.testBit 7) (x % 8) (-9)
  else .fin (x.testBit 7) (x % 8 + 8) (((x / 8 % 16 : Nat) : Int) - 10)

/-- The value of an E2M1 code: neither infinity nor NaN. -/
def decodeE2m1 (x : Nat) : Fp :=
  if x / 2 % 4 = 0 then .fin (x.testBit 3) (x % 2) (-1)
  else .fin (x.testBit 3) (x % 2 + 2) (((x / 2 % 4 : Nat) : Int) - 2)

/-- The value of an element of ptk_ws_fmt (R126): 0 FP32, 1 BF16, 2 E4M3, 3 E5M2, 4 E2M1. -/
def decodeFmt (fmt x : Nat) : Fp :=
  match fmt with
  | 0 => decodeIeee 8 23 x
  | 1 => decodeIeee 8 7 x
  | 2 => decodeE4m3 x
  | 3 => decodeIeee 5 2 x
  | _ => decodeE2m1 x

/-- A value as an FP32 code. -/
def Fp.toFp32 : Fp → Nat
  | .nan => 0x7FC00000
  | .inf neg => b2n neg * 2 ^ 31 + 0x7F800000
  | .fin neg m e => encodeIeee 8 23 neg m e

/-- The exact sum of two finite numbers, as an integer and an exponent. -/
def addExact (n1 : Bool) (m1 : Nat) (e1 : Int) (n2 : Bool) (m2 : Nat) (e2 : Int) : Int × Int :=
  let e := min e1 e2
  let a : Int := (m1 * 2 ^ (e1 - e).toNat : Nat)
  let b : Int := (m2 * 2 ^ (e2 - e).toNat : Nat)
  ((if n1 then -a else a) + (if n2 then -b else b), e)

/-- FP32 addition, to nearest with ties to even; +0 when the exact sum of opposite numbers is 0. -/
def addFp32 (a b : Nat) : Nat :=
  match decodeIeee 8 23 a, decodeIeee 8 23 b with
  | .nan, _ => 0x7FC00000
  | _, .nan => 0x7FC00000
  | .inf n, .inf k => if n = k then Fp.toFp32 (.inf n) else 0x7FC00000
  | .inf n, _ => Fp.toFp32 (.inf n)
  | _, .inf n => Fp.toFp32 (.inf n)
  | .fin n1 m1 e1, .fin n2 m2 e2 =>
    let (v, e) := addExact n1 m1 e1 n2 m2 e2
    if v = 0 then (if n1 && n2 then 2 ^ 31 else 0) else encodeIeee 8 23 (decide (v < 0)) v.natAbs e

/-- FP32 multiplication, to nearest with ties to even. -/
def mulFp32 (a b : Nat) : Nat :=
  match decodeIeee 8 23 a, decodeIeee 8 23 b with
  | .nan, _ => 0x7FC00000
  | _, .nan => 0x7FC00000
  | .inf n, .inf k => Fp.toFp32 (.inf (n != k))
  | .inf n, .fin k m _ => if m = 0 then 0x7FC00000 else Fp.toFp32 (.inf (n != k))
  | .fin k m _, .inf n => if m = 0 then 0x7FC00000 else Fp.toFp32 (.inf (n != k))
  | .fin n1 m1 e1, .fin n2 m2 e2 => encodeIeee 8 23 (n1 != n2) (m1 * m2) (e1 + e2)

/-! ### Comparisons, conversions and the remaining operations of FP32 -/

/-- The code is a NaN. -/
def isNan32 (x : Nat) : Bool := decodeIeee 8 23 x == .nan

/-- The code with its sign changed. -/
def negFp32 (x : Nat) : Nat := if 2 ^ 31 ≤ x then x - 2 ^ 31 else x + 2 ^ 31

/-- The code with its sign cleared. -/
def absFp32 (x : Nat) : Nat := x % 2 ^ 31

/-- FP32 subtraction. -/
def subFp32 (a b : Nat) : Nat := if isNan32 b then 0x7FC00000 else addFp32 a (negFp32 b)

/-- An order key of codes that are no NaN: equal for +0 and −0. -/
def keyFp32 (x : Nat) : Int := if 2 ^ 31 ≤ x then -((x - 2 ^ 31 : Nat) : Int) else (x : Int)

/-- a < b and a ≤ b; false when either is a NaN. -/
def ltFp32 (a b : Nat) : Bool := !isNan32 a && !isNan32 b && decide (keyFp32 a < keyFp32 b)
def leFp32 (a b : Nat) : Bool := !isNan32 a && !isNan32 b && decide (keyFp32 a ≤ keyFp32 b)

/-- The larger of two; the first when equal. -/
def maxFp32 (a b : Nat) : Nat := if ltFp32 a b then b else a

/-- i × 2^e rounded to FP32. -/
def scaledFp32 (i e : Int) : Nat := encodeIeee 8 23 (decide (i < 0)) i.natAbs e

/-- An integer rounded to FP32. -/
def intFp32 (i : Int) : Nat := scaledFp32 i 0

/-- The quotient of two positive numbers: a significand of at least 60 bits with a sticky last bit, and its exponent. -/
def divExact (m1 : Nat) (e1 : Int) (m2 : Nat) (e2 : Int) : Nat × Int :=
  let k := Nat.log2 m2 + 64
  let n := m1 * 2 ^ k
  (n / m2 * 2 + b2n (n % m2 != 0), e1 - e2 - (k : Int) - 1)

/-- FP32 division: a non-zero value by zero gives an infinity, 0/0 and ∞/∞ NaN (R204). -/
def divFp32 (a b : Nat) : Nat :=
  match decodeIeee 8 23 a, decodeIeee 8 23 b with
  | .nan, _ => 0x7FC00000
  | _, .nan => 0x7FC00000
  | .inf _, .inf _ => 0x7FC00000
  | .inf n, .fin k _ _ => Fp.toFp32 (.inf (n != k))
  | .fin n _ _, .inf k => b2n (n != k) * 2 ^ 31
  | .fin n m1 e1, .fin k m2 e2 =>
    if m2 = 0 then (if m1 = 0 then 0x7FC00000 else Fp.toFp32 (.inf (n != k)))
    else
      let (m, e) := divExact m1 e1 m2 e2
      encodeIeee 8 23 (n != k) m e

/-- The integer square root, bit by bit from bit `k`. -/
def isqrt (n : Nat) : Nat → Nat → Nat
  | 0, r => r
  | k + 1, r => isqrt n k (if (r + 2 ^ k) * (r + 2 ^ k) ≤ n then r + 2 ^ k else r)

/-- FP32 square root; NaN of a negative number. -/
def sqrtFp32 (a : Nat) : Nat :=
  match decodeIeee 8 23 a with
  | .nan => 0x7FC00000
  | .inf neg => if neg then 0x7FC00000 else 0x7F800000
  | .fin neg m e =>
    if m = 0 then a
    else if neg then 0x7FC00000
    else
      let (m, e) := if e % 2 = 0 then (m, e) else (m * 2, e - 1)
      let n := m * 2 ^ 64
      let r := isqrt n 48 0
      encodeIeee 8 23 false (r * 2 + b2n (r * r != n)) (e / 2 - 33)

/-- `k` bits of the fraction of log2 y, y in [1, 2) as a 256-bit fixed-point number, by repeated squaring. -/
def log2Bits : Nat → Nat → Nat → Nat
  | 0, _, acc => acc
  | k + 1, y, acc =>
    let q := y * y / 2 ^ 256
    if 2 ^ 257 ≤ q then log2Bits k (q / 2) (2 * acc + 1) else log2Bits k q (2 * acc)

/-- log2 of a positive FP32 value, correctly rounded (R214): an integer for a power of two, else irrational, its first 100 fraction bits
deciding the rounding (log entry 22). -/
def log2Fp32 (a : Nat) : Nat :=
  match decodeIeee 8 23 a with
  | .fin false m e =>
    if m = 0 then Fp.toFp32 (.inf true)
    else
      let b := Nat.log2 m
      let i : Int := (b : Int) + e
      if m = 2 ^ b then intFp32 i
      else
        let f := log2Bits 100 (m * 2 ^ (256 - b)) 0
        scaledFp32 ((i * 2 ^ 100 + (f : Int)) * 2 + 1) (-101)
  | .inf false => 0x7F800000
  | _ => 0x7FC00000

/-- e^x × 2^300 of x × 2^300: x / 2^16 by 40 terms of the series, squared 16 times. -/
def expFix (x : Nat) : Nat :=
  let y := x / 2 ^ 16
  let (v, _) := (List.range 40).foldl (fun (acc : Nat × Nat) n => let t := acc.2 * y / 2 ^ 300 / (n + 1); (acc.1 + t, t)) (2 ^ 300, 2 ^ 300)
  (List.range 16).foldl (fun v _ => v * v / 2 ^ 300) v

/-- e^x, correctly rounded, with SAT of R238: for x other than 0 it is irrational, and its first bits decide the rounding (log entry 22). -/
def expFp32 (a : Nat) : Nat × Bool :=
  match decodeIeee 8 23 a with
  | .nan => (0x7FC00000, false)
  | .inf neg => if neg then (0, false) else (0x7F7FFFFF, true)
  | .fin neg m e =>
    if m = 0 then (0x3F800000, false)
    else if !neg ∧ leFp32 0x42B170A4 a then (0x7F7FFFFF, true)
    else if neg ∧ leFp32 a 0xC2CFF5C3 then (0, false)
    else
      let v := expFix (if 0 ≤ e then m * 2 ^ (300 + e.toNat) else m * 2 ^ 300 / 2 ^ (-e).toNat)
      let w := if neg then 2 ^ 600 / v else v
      (encodeIeee 8 23 false (2 * w + 1) (-301), false)

/-- 1 / (1 + e^−x), correctly rounded (R238). -/
def logisticFp32 (a : Nat) : Nat :=
  match decodeIeee 8 23 a with
  | .nan => 0x7FC00000
  | .inf neg => if neg then 0 else 0x3F800000
  | .fin neg m e =>
    if m = 0 then 0x3F000000
    else if ltFp32 0x43480000 (absFp32 a) then (if neg then 0 else 0x3F800000)
    else
      let v := expFix (if 0 ≤ e then m * 2 ^ (300 + e.toNat) else m * 2 ^ 300 / 2 ^ (-e).toNat)
      let y := (if neg then 2 ^ 300 else v) * 2 ^ 400 / (2 ^ 300 + v)
      encodeIeee 8 23 false (2 * y + 1) (-401)

/-- The greatest integer at or below a finite value; none of an infinity or NaN. -/
def floorFp32 (a : Nat) : Option Int :=
  match decodeIeee 8 23 a with
  | .fin neg m e =>
    let v : Int := if neg then -(m : Int) else m
    some (if 0 ≤ e then v * 2 ^ e.toNat else v / 2 ^ (-e).toNat)
  | _ => none

/-- A finite value is a whole number. -/
def wholeFp32 (a : Nat) : Bool :=
  match floorFp32 a with
  | some i => intFp32 i == a || (i == 0 && absFp32 a == 0)
  | none => false

/-- A value × 2^k rounded to the nearest integer, ties to even; 0 of an infinity or NaN. -/
def fixedFp32 (k : Nat) (a : Nat) : Int :=
  match decodeIeee 8 23 a with
  | .fin neg m e =>
    let x := e + (k : Int)
    let v : Nat := if 0 ≤ x then m * 2 ^ x.toNat else roundShift m (-x).toNat
    if neg then -(v : Int) else v
  | _ => 0

/-- An FP32 code rounded to BF16, to nearest with ties to even, and read as FP32. -/
def bf16of (a : Nat) : Nat :=
  match decodeIeee 8 23 a with
  | .fin neg m e => encodeIeee 8 7 neg m e * 2 ^ 16
  | .inf neg => Fp.toFp32 (.inf neg)
  | .nan => 0x7FC00000

/-- FP32 sums and products of lists, from the first on. -/
def sumFp32 (xs : List Nat) : Nat := xs.foldl addFp32 0
def dotFp32 (xs ys : List Nat) : Nat := (xs.zip ys).foldl (fun a p => addFp32 a (mulFp32 p.1 p.2)) 0

end Sys2Proof.Machine
end

