-- ==== Sys2Proof/Machine/Potik.lean ====
section
/-! DEFINITION. Potik's shared operations: its register bank, stamps and quality (R85, R86, R101), domain clocks (R93), the records it
creates (R153, R365) and its shaper (R143 to R145). -/

namespace Sys2Proof.Machine

/-- A measured period of `num` / `den` in 2^-16 ns exceeds 17/16 of a nominal one of `nom` ps (R93). -/
def stretched (num den nom : Nat) : Bool := decide (17 * nom * 65536 * den < num * 16000)

/-- STRETCH_Q of R93: min(15, ⌈4 × (m / NOMINAL_PS − 1)⌉), 0 when not stretched. -/
def stretchQ (num den nom : Nat) : Nat :=
  if !stretched num den nom then 0
  else if nom * den = 0 then 15
  else
    let unit := nom * 65536 * den
    min 15 ((4 * (num * 1000 - unit) + unit - 1) / unit)

/-- The UNCERT code of a domain's events (R86): the smallest u with 2^(u−2) ns at least one always-on cycle, one nominal cycle and, while
stretched, one measured cycle. -/
def domainUncert (num den nom : Nat) : Nat :=
  let den := max 1 den
  let m := if stretched num den nom then num * 1000 else 0
  ((List.range 16).find? (fun u => decide ((1000 + nom) * 65536 * den + m ≤ 250 * 2 ^ u * 65536 * den))).getD 15

namespace Potik

/-! ### Registers -/

/-- The register at window offset `a`. -/
def reg (p : Potik) (a : Nat) : Word := p.regs.get potikReset a

/-- A register set. -/
def setReg (p : Potik) (a : Nat) (v : Word) : Potik := { p with regs := p.regs.put potikReset a v }

/-- A field of a register. -/
def fld (p : Potik) (f : Fld) : Nat := getBits (p.reg f.addr) f.lo f.w

/-- A field in two's complement. -/
def sfld (p : Potik) (f : Fld) : Int := asSigned f.w (p.fld f)

/-- A one-bit field. -/
def flag (p : Potik) (f : Fld) : Bool := p.fld f != 0

/-- A field set. -/
def setFld (p : Potik) (f : Fld) (v : Nat) : Potik := p.setReg f.addr (setBits (p.reg f.addr) f.lo f.w v)

/-- A saturating count raised by `n`. -/
def addFld (p : Potik) (f : Fld) (n : Nat) : Potik := p.setFld f (min (2 ^ f.w - 1) (p.fld f + n))

/-- A saturating count raised by 1. -/
def incFld (p : Potik) (f : Fld) : Potik := p.addFld f 1

/-- `e` sent. -/
def emit (p : Potik) (e : Emit) : Potik := { p with out := p.out ++ [e] }

/-- The die's slot. -/
def die (p : Potik) : Nat := slotOf p.addr

/-- A Potik after its reset (R97, R482): every register at its reset value, NOMINAL_PS at the integration values (R94), memory and counters
clear. -/
def atReset (ps : PParams) (addr : Nat) : Potik :=
  (List.range ps.domains).foldl (fun p d => p.setFld (F.PTK_DOM_DATA_NOMINAL_PS.at d) (ps.nominal.getD d 500)) { params := ps, addr := addr }

/-- The Potik of a die of which nothing is stated: a reference die after reset (R95). -/
def fresh : Potik := atReset {} 0

/-- Potik is armed (R483). -/
def armed (p : Potik) : Bool := p.flag F.PTK_CTRL_ARMED

/-! ### Time and stamps -/

/-- The counter read at `now`. -/
def atTime (p : Potik) (now : Int) : Potik := { p with time := now }

/-- The number of the open epoch. -/
def epoch (p : Potik) : Nat := p.fld F.PTK_TIME_STATUS_EPOCH

/-- The stamp of an instant in 0.25 ns from the opening of the epoch, before saturation (R74, R101). -/
def rawStamp (p : Potik) (t : Int) : Nat := ((t - p.opened) * 4 / 65536).toNat

/-- The stamp of now. -/
def stamp (p : Potik) : Nat := min 0xFFFFFFFF (p.rawStamp p.time)

/-- UNQUAL, HOLDOVER and STEPPED of R85. -/
def timeQuality (p : Potik) : Nat :=
  b2n (!(p.servo.st == 3 || p.servo.st == 4) || decide (0xFFFFFFFF < p.rawStamp p.time)) + 2 * b2n (p.servo.st == 4) + 4 * b2n p.stepped

/-- The quality of a stamp taken on Potik's own counter (R501). -/
def quality (p : Potik) : Nat := p.timeQuality + 2 * 256

/-! ### Domain clocks (R87, R93) -/

/-- What Potik measures of a domain. -/
def dom (p : Potik) (d : Nat) : PDomain := p.doms.get (fun _ => {}) d

/-- NOMINAL_PS of a domain. -/
def nominal (p : Potik) (d : Nat) : Nat := p.fld (F.PTK_DOM_DATA_NOMINAL_PS.at d)

/-- The domain is stopped (R87). -/
def halted (p : Potik) (d : Nat) : Bool := decide (4 ≤ (p.dom d).quiet)

/-- The period of a window, or of the part of one, with `n` changes from `first` to `last` that ends at `tEnd` (R93). -/
def period (x : PDomain) (n : Nat) (first last tEnd : Int) : Nat × Nat :=
  if 2 ≤ n then ((last - first).toNat, 8 * (n - 1))
  else match x.last with
    | none => (x.num, x.den)
    | some t =>
      if n = 1 then ((first - t).toNat, 8)
      else
        let g := (tEnd - t).toNat
        if x.num * 8 ≤ g * x.den then (g, 8) else (x.num, x.den)

/-- The quality of an event of domain `d` with a measured period (R85, R86). -/
def eventQuality (p : Potik) (d : Nat) (m : Nat × Nat) (halt : Bool) : Nat :=
  let nom := p.nominal d
  p.timeQuality + 8 * b2n (stretched m.1 m.2 nom) + 16 * b2n halt + domainUncert m.1 m.2 nom * 256 + stretchQ m.1 m.2 nom * 4096

/-- The quality of an event of domain `d` now, by the domain's last window. -/
def domainQuality (p : Potik) (d : Nat) : Nat := p.eventQuality d ((p.dom d).num, (p.dom d).den) (p.halted d)

/-- UNIT_DOMAIN and GROUP_DOMAIN. -/
def unitDomain (p : Potik) (u : Nat) : Nat := p.params.unitDomain.getD u (p.params.unitDomain.getLast?.getD 0)
def groupDomain (p : Potik) (g : Nat) : Nat := p.params.groupDomain.getD g 0

/-- A 1 µs window of domain `d` ends at `tEnd` with `n` changes (R93): its period, STRETCH and HALTED, as PTK_DOM_DATA shows them. -/
def domainWindow (p : Potik) (d n : Nat) (first last tEnd : Int) : Potik :=
  let x := p.dom d
  let m := period x n first last tEnd
  let x := { x with last := if n = 0 then x.last else some last, num := m.1, den := m.2, quiet := if n = 0 then x.quiet + 1 else 0 }
  let p := { p with doms := p.doms.put (fun _ => {}) d x }
  let ps := m.1 * 1000 / (65536 * max 1 m.2)
  let p := (p.setFld (F.PTK_DOM_DATA_MEASURED_PS.at d) (min 0xFFFF ps)).setFld (F.PTK_DOM_DATA_STRETCH.at d) (b2n (stretched m.1 m.2 (p.nominal d)))
  (p.setFld (F.PTK_DOM_DATA_HALTED.at d) (b2n (p.halted d))).setFld (F.PTK_DOM_DATA_STRETCH_Q.at d) (stretchQ m.1 m.2 (p.nominal d))

/-! ### Records (R153, R155, R365) -/

end Potik

/-- ELEM code of the element width with which Potik codes a record type (R365); none for the types it never codes as a whole. -/
def potikElem (type : Nat) : Option Nat :=
  match type with
  | 0x01 => some 2 | 0x02 => some 3 | 0x03 => some 1 | 0x04 => some 3 | 0x05 => some 2 | 0x08 => some 3
  | _ => none

namespace Potik

/-- A record that Potik creates (R153): numbered from its counter, stamped now on its own counter, and coded where PTK_COD_CFG names its type
(R365). -/
def mkRec (p : Potik) (type flags : Nat) (body : Bytes) : Rec × Potik :=
  let q := p.fld F.PTK_REC_SEQ_NEXT
  let body := pad8 body
  let (comp, body) := match potikElem type with
    | some e => if bit (p.fld F.PTK_COD_CFG_TYPES) type then
        let b := encodeBlock e 0 [] body
        (if blockRaw b then 2 else 1, b)
      else (0, body)
    | none => (0, body)
  ({ type := type, cls := potikLevel type, flags := flags, comp := comp, src := p.addr, seq := q, epoch := p.epoch, quality := p.quality,
     offset := p.stamp, body := pad8 body },
   p.setFld F.PTK_REC_SEQ_NEXT (q + 1))

/-! ### Shaper (R143 to R145) -/

/-- A queue of the shaper: levels 0 to 5, and 6 for records with the raised priority of R144. -/
def level (p : Potik) (l : Nat) : List PItem := p.levels.get nil l

/-- A queue set. -/
def setLevel (p : Potik) (l : Nat) (q : List PItem) : Potik := { p with levels := p.levels.put nil l q }

/-- Bytes queued. -/
def queued (p : Potik) : Nat := (p.levels.map (fun e => (e.2.map (fun i => i.r.size)).sum)).sum

/-- Bytes of the frame memory. -/
abbrev frameMemory : Nat := 262144

/-- A record dropped (R145): counted for its member, or for the Potik itself; after a dropped Census sweep the next one is a key sweep (R156). -/
def drop (p : Potik) (r : Rec) : Potik :=
  let m := if senderOf r.src = p.addr then 0 else senderOf r.src
  let p := (p.incFld F.PTK_SHP_STATUS_DROPPED)
  { p with losses := p.losses.mod (fun _ => {}) m (fun l => l.add r.type r.epoch r.offset)
           keyNext := p.keyNext || (m == 0 && r.type == 1) }

/-- The last queued record of a queue whose frames have not started, removed. -/
def lastWaiting : List PItem → Option (PItem × List PItem)
  | [] => none
  | i :: rest =>
    match lastWaiting rest with
    | some (x, q) => some (x, i :: q)
    | none => if i.frags.isNone then some (i, rest) else none

/-- Records of the lowest non-empty level below `lv` dropped, last queued first, until `size` bytes fit; `fuel` bounds the drops. -/
def makeRoom (lv size : Nat) : Nat → Potik → Potik
  | 0, p => p
  | fuel + 1, p =>
    if p.queued + size ≤ frameMemory then p
    else match ([5, 6, 4, 3, 2, 1].filter (fun l => decide (lv < l))).findSome? (fun l => (lastWaiting (p.level l)).map (fun x => (l, x))) with
      | some (l, i, q) => makeRoom lv size fuel ((p.setLevel l q).drop i.r)
      | none => p

/-- A record joins the shaper (R145): one of level 0 or 1 makes room for itself; one that finds none is dropped. -/
def enqueue (p : Potik) (i : PItem) : Potik :=
  let lv := potikLevel i.r.type
  let p := if lv ≤ 1 then makeRoom lv i.r.size ((p.levels.map (fun e => e.2.length)).sum) p else p
  if p.queued + i.r.size ≤ frameMemory then
    let k := if i.raised then 6 else lv
    p.setLevel k (p.level k ++ [i])
  else p.drop i.r

/-- A record created and queued; an unarmed Potik creates none but Control responses (R482). -/
def send (p : Potik) (type flags : Nat) (body : Bytes) : Potik :=
  if !p.armed && type != 0x0D then p
  else
    let (r, p) := p.mkRec type flags body
    p.enqueue { r := r }

/-- Trace records are raised (R144): until the frozen ring has been sent, or for the epochs of TRIG_HOLD. -/
def raised (p : Potik) : Bool := p.flag F.PTK_TRC_CTRL_FROZEN || decide (0 < p.hold)

/-- The order of service (R143, R144). -/
def serviceOrder (p : Potik) : List Nat := if p.raised then [0, 1, 2, 6, 5, 3, 4] else [0, 1, 2, 6, 3, 4, 5]

/-- FRAME_MAX (R147). -/
def frameMax (p : Potik) : Nat := clampFrameMax (p.fld F.PTK_REC_CFG_FRAME_MAX)

/-- The items that one packed frame takes from the head of a queue: whole records to the same address, none of them in fragments (R148). -/
def packItems (eth dest : Option Nat) : Nat → List PItem → List PItem
  | _, [] => []
  | room, i :: rest =>
    if i.r.size ≤ room && i.frags.isNone && i.etherType == eth && i.dest == dest then i :: packItems eth dest (room - i.r.size) rest else []

/-- A frame leaves (R145): its bytes and OVERHEAD are deducted. -/
def sendFrame (p : Potik) (i : PItem) (payload : Bytes) : Potik :=
  let p := { p with deficit := p.deficit + (payload.length + 18 + p.fld F.PTK_SHP_CFG_OVERHEAD) * 8000 }
  p.emit (.ptkFrame p.die (i.etherType.getD (p.fld F.PTK_REC_CFG_ETHERTYPE)) (i.dest.getD (p.fld F.PTK_REC_DMAC_DMAC)) payload)

/-- The next frame of a queue: the next fragment of a record already started, the first of a long one, or a packed frame. -/
def frameFrom (p : Potik) (l : Nat) : Potik :=
  match p.level l with
  | [] => p
  | i :: rest =>
    match i.frags with
    | some (b :: bs) => (p.setLevel l (if bs.isEmpty then rest else { i with frags := some bs } :: rest)).sendFrame i b
    | some [] => p.setLevel l rest
    | none =>
      if p.frameMax < i.r.size + 16 then
        match fragPayloads p.frameMax i.r with
        | b :: bs => (p.setLevel l (if bs.isEmpty then rest else { i with frags := some bs } :: rest)).sendFrame i b
        | [] => p.setLevel l rest
      else
        let is := packItems i.etherType i.dest (p.frameMax - 16) (i :: rest)
        (p.setLevel l ((i :: rest).drop is.length)).sendFrame i (packedPayload (is.map (fun x => x.r)))

/-- Depth of the bucket in 1/1000 bit (R145). -/
def bucketDepth (p : Potik) : Nat := min 1024 (p.fld F.PTK_SHP_CFG_BURST_KIB) * 8192000

/-- `dt` ns after the last time, Potik starts a frame while its bucket is positive (R145). -/
def frameStart (p : Potik) (dt : Nat) : Potik :=
  let p := { p with deficit := p.deficit - p.fld F.PTK_SHP_CFG_RATE_MBPS * dt }
  if p.deficit < p.bucketDepth then
    match p.serviceOrder.find? (fun l => !(p.level l).isEmpty) with
    | some l => p.frameFrom l
    | none => p
  else p

/-- At a tick, the Loss markers of R145 and R142: one for each sender whose records were dropped, and one of the trace beats discarded. -/
def lossMarkers (p : Potik) : Potik :=
  let due := p.losses
  let beats := p.trcLoss
  let p := { p with losses := [], trcLoss := {} }
  let p := due.foldl (fun p e => p.send 0x0B (2 ^ flagLoss) (lossBody 0 e.2 e.1)) p
  if beats.total = 0 then p else p.send 0x0B (2 ^ flagLoss) (lossBody 1 beats 0)

end Potik

namespace State

/-- The Potik of die slot `d` of the tray. -/
def ptk (s : State) (d : Nat) : Potik := s.potiks.get (fun _ => Potik.fresh) d

/-- The Potik of die slot `d` brought through `f`, under the die's fleet address; what it sends leaves. A Potik in reset does nothing (R482). -/
def onPtk (s : State) (d : Nat) (f : Potik → Potik) : State :=
  let p := { s.ptk d with addr := s.dieAddr d, out := [] }
  if p.inReset then s
  else
    let p := f p
    { s with potiks := s.potiks.put (fun _ => Potik.fresh) d { p with out := [] }, out := s.out ++ p.out }

end State
end Sys2Proof.Machine
end

