-- ==== Sys2Proof/Machine/PotikTime.lean ====
section
/-! DEFINITION. Potik's time: the MAC stamp tap, its PTP exchange and its servo (R67 to R74, R79, R505). -/

namespace Sys2Proof.Machine
namespace Potik

/-- Parameters of Potik's servo (R505). -/
def servoCfg (p : Potik) : ServoCfg := ServoCfg.ofReg (p.reg F.PTK_TIME_SERVO_CFG_STEP_THRESH.addr)

/-- The servo set, as PTK_TIME_STATUS shows it. -/
def setServo (p : Potik) (v : Servo) : Potik := ({ p with servo := v }).setFld F.PTK_TIME_STATUS_STATE v.st

/-- The counter moved by `d` in one step: the advance within the open epoch is untouched (R74). -/
def moveTime (p : Potik) (d : Int) : Potik := { p with time := p.time + d, opened := p.opened + d }

/-- A measurement (R71 to R74): a step is applied at once while Potik is unarmed, and waits for the tick while it is armed. -/
def measured (p : Potik) (o : Int) : Potik :=
  let p := { p with silent := 0 }
  let (v, out) := p.servo.measure p.servoCfg o
  let p := if out.sat then p.setFld F.PTK_TIME_STATUS_RATE_SAT 1 else p
  match out.step with
  | none => p.setServo v
  | some m => if p.armed then p.setServo { v with stepDue := some m } else (p.moveTime (-m)).setServo v.stepped

/-- ptk_mac_rx_sof (R67, R68): the corrected stamp of a frame, kept for 16 received frames. -/
def rxStamp (p : Potik) (seq fec : Nat) (t : Int) : Potik :=
  let p := p.setFld F.PTK_TIME_STATUS_FEC fec
  { p with stamps := ((seq, t - (p.fld (F.PTK_TIME_CORR_D_RX.at (fec % 4)) : Int)) :: p.stamps).take 16 }

/-- The stamp of the frame that the MAC delivers with a number. -/
def stampOf (p : Potik) (seq : Nat) : Option Int := (p.stamps.find? (fun e => e.1 == seq)).map (fun e => e.2)

/-- A complete Sync (R69). -/
def syncComplete (p : Potik) (d : Int) : Potik := { p with link := { p.link with sync := some d, wait := none } }

/-- A PTP message of the fleet's domain with its stamp (R69, R70). -/
def ptpMessage (p : Potik) (t2 : Int) (m : PtkMsg) : Potik :=
  match m with
  | .sync _ seqId twoStep t1 corr =>
    if twoStep then { p with link := { p.link with wait := some { seqId := seqId, t2 := t2, corr := corr } } } else p.syncComplete (t2 - t1 - corr)
  | .followUp _ seqId t1 corr =>
    match p.link.wait with
    | some w => if w.seqId = seqId then p.syncComplete (w.t2 - t1 - w.corr - corr) else { p with link := { p.link with wait := none } }
    | none => p
  | .delayResp _ seqId t4 corr =>
    match p.link.dreq, p.link.sync with
    | some q, some d =>
      if q.1 != seqId then p
      else ({ p with link := { p.link with dreq := none } }).measured (d - (d + (t4 - q.2 - corr)) / 2)
    | _, _ => p

end Potik

/-- The domainNumber of a message. -/
def PtkMsg.domain : PtkMsg → Nat
  | .sync d _ _ _ _ => d
  | .followUp d _ _ _ => d
  | .delayResp d _ _ _ => d

namespace Potik

/-- A PTP frame received (R67): without a stamp it is discarded and NO_STAMP is set; of another domain it is discarded (R64). -/
def ptpReceive (p : Potik) (domain rxSeq : Nat) (m : PtkMsg) : Potik :=
  match p.stampOf rxSeq with
  | none => p.setFld F.PTK_TIME_STATUS_NO_STAMP 1
  | some t => if m.domain = domain then p.ptpMessage t m else p

/-- A sync interval of LOG_SYNC ends (R505): one Delay_Req, whose send stamp is the tap's time with D_TX (R68); the servo enters HOLDOVER after
HOLDOVER_N intervals without a measurement and UNQUAL after HOLDOVER_LIMIT in it (R71). -/
def delayReqInterval (p : Potik) (fec : Nat) (tap : Int) : Potik :=
  let p := ({ p with silent := p.silent + 1 }).setFld F.PTK_TIME_STATUS_FEC fec
  let c := p.servoCfg
  let p :=
    if (p.servo.st = 2 ∨ p.servo.st = 3) ∧ c.holdoverN ≤ p.silent then p.setServo (p.servo.enter 4)
    else if p.servo.st = 4 ∧ c.limit < (p.silent - c.holdoverN) * c.interval then p.setServo (p.servo.enter 5)
    else p
  let q := p.link.nextDreq
  let p := p.emit (.ptkPtp p.die (.delayReq q))
  { p with link := { p.link with nextDreq := (q + 1) % 2 ^ 16, dreq := some (q, tap + (p.fld (F.PTK_TIME_CORR_D_TX.at (fec % 4)) : Int)) } }

end Potik

/-- PTK_PTP_RECEIVE (R67). -/
def execPtkPtpReceive (die rxSeq : Nat) (m : PtkMsg) (s : State) : Host.Outcome State Fault Refusal :=
  s.run (fun s => s.onPtk die (fun p => p.ptpReceive s.image.domain rxSeq m))

/-- PTK_RX_STAMP (R67). -/
def execPtkRxStamp (die seq fec : Nat) (time : Int) (s : State) : Host.Outcome State Fault Refusal := s.run (fun s => s.onPtk die (fun p => p.rxStamp seq fec time))

/-- PTK_DELAY_REQ_INTERVAL (R505). -/
def execPtkDelayReqInterval (die fec : Nat) (tap : Int) (s : State) : Host.Outcome State Fault Refusal :=
  s.run (fun s => s.onPtk die (fun p => p.delayReqInterval fec tap))

/-- DOMAIN_WINDOW (R93). -/
def execDomainWindow (die domain n : Nat) (first last tEnd : Int) (s : State) : Host.Outcome State Fault Refusal :=
  s.run (fun s => s.onPtk die (fun p => p.domainWindow domain n first last tEnd))

end Sys2Proof.Machine
end

