-- ==== Sys2Proof/Machine/PotikCount.lean ====
section
/-! DEFINITION. Potik's counters: the filter of the programmable counters, wraps, the sampler, the health sensors, the context and the
March sweep's records (04, R121 to R125, R156 to R158). -/

namespace Sys2Proof.Machine

/-- Address ranges A and B of a group: base and limit, address bits [63:6], inclusive. -/
structure PRanges where
  aBase : Nat
  aLimit : Nat
  bBase : Nat
  bLimit : Nat
deriving DecidableEq, Repr

/-- The four criteria of R106 for a slot under a select register; a criterion that accepts everything accepts a slot without the attribute. -/
def slotPasses (sel : Word) (r : PRanges) (x : PevSlot) : Bool :=
  let f := fun lo w => getBits sel lo w
  let inA := decide (r.aBase ≤ x.addr) && decide (x.addr ≤ r.aLimit)
  let inB := decide (r.bBase ≤ x.addr) && decide (x.addr ≤ r.bLimit)
  let hit := (bit (f 18 2) 0 && inA) || (bit (f 18 2) 1 && inB)
  x.id == f 0 10 &&
  (f 14 4 == 15 || (bit x.has 0 && bit (f 14 4) x.priv)) &&
  (f 44 12 == 0 || (bit x.has 1 && (x.req &&& f 44 12) == (f 32 12 &&& f 44 12))) &&
  (f 18 2 == 0 || (bit x.has 2 && (hit != bit (f 20 1) 0))) &&
  (f 24 8 == 255 || (bit x.has 3 && bit (f 24 8) x.tc))

namespace Potik

/-! ### Counters and wraps (R105 to R109) -/

/-- Registers of counter `k` of group `g`. -/
def cntAddr (g k : Nat) : Nat := 0x1018 + g * 0x100 + k * 8
def selAddr (g k : Nat) : Nat := 0x1058 + g * 0x100 + k * 8
def reloadAddr (g k : Nat) : Nat := 0x1098 + g * 0x100 + k * 8

/-- The ranges of a group. -/
def ranges (p : Potik) (g : Nat) : PRanges :=
  { aBase := p.fld (F.PTK_PG_ADDRA_BASE_ADDR.at g), aLimit := p.fld (F.PTK_PG_ADDRA_LIMIT_ADDR.at g),
    bBase := p.fld (F.PTK_PG_ADDRB_BASE_ADDR.at g), bLimit := p.fld (F.PTK_PG_ADDRB_LIMIT_ADDR.at g) }

/-- What a domain cycle with the given slots adds to a counter (R106, R107). -/
def increment (p : Potik) (g k : Nat) (slots : List PevSlot) : Nat :=
  let sel := p.reg (selAddr g k)
  if getBits sel 10 1 = 0 then 0 else (((slots.take 4).filter (slotPasses sel (p.ranges g))).map (fun x => x.inc)).sum

/-- The key under which a counter's wraps are kept. -/
def wrapKey : PCounter → Nat
  | .census u c => u * 16 + c
  | .group g k => 2 ^ 20 + g * 8 + k

/-- A counter wraps now (R104, R108, R109). -/
def noteWrap (p : Potik) (c : PCounter) : Potik :=
  let t := p.time
  let e := p.epoch
  let o := p.stamp
  { p with wraps := p.wraps.mod (fun _ => {}) (wrapKey c) (fun w =>
      { at_ := some (w.at_.getD t), count := w.count + 1, first := if w.count = 0 then t else w.first,
        epoch := if w.count = 0 then e else w.epoch, stamp := if w.count = 0 then o else w.stamp }) }

/-- A bit of a group's status set. -/
def setStatusBit (p : Potik) (f : Fld) (g k : Nat) : Potik := p.setFld (f.at g) (p.fld (f.at g) ||| 2 ^ k)

/-! ### Sampler (R113 to R116) -/

/-- A capture dropped (R114). -/
def dropCapture (p : Potik) : Potik :=
  let p := p.incFld F.PTK_SMP_STATUS_DROPS
  { p with dropPending := true, dropCount := p.dropCount + 1 }

/-- The armed capture of a group. -/
def capture (p : Potik) (g : Nat) : Option PArmed := p.armedCap.get none' g

/-- It set, as ARMED shows it. -/
def setCapture (p : Potik) (g : Nat) (c : Option PArmed) : Potik :=
  ({ p with armedCap := p.armedCap.put none' g c }).setFld (F.PTK_PG_STATUS_ARMED.at g) (b2n c.isSome)

/-- GROUP_RET_PORT. -/
def groupPort (p : Potik) (g : Nat) : Option Nat := p.params.groupPort.getD g none

/-- The sampling interrupt of counter `k` of group `g` (R113, R114). -/
def armCapture (p : Potik) (g k : Nat) : Potik :=
  if !p.flag F.PTK_SMP_CTRL_EN then p
  else match p.groupPort g with
    | none => p.dropCapture
    | some port =>
      if (p.capture g).isSome then p.dropCapture
      else
        let ev := getBits (p.reg (selAddr g k)) 0 10
        p.setCapture g (some { counter := k, line := (p.params.pev.getD port []).findIdx? (fun x => x == some ev) })

/-- A domain cycle of group `g` brings `slots` to counter `k`, which held `before` (R107, R108, R113): it adds, and at a wrap OVF is set and,
in sampling mode, the counter takes RELOAD plus the increments beyond the wrap and its interrupt arms a capture. -/
def groupCycle (p : Potik) (g k before : Nat) (slots : List PevSlot) : Potik :=
  let v := before % 2 ^ 48 + p.increment g k slots
  let f : Fld := ⟨cntAddr g k, 0, 48, 0⟩
  if v < 2 ^ 48 then p.setFld f v
  else
    let p := (p.setStatusBit F.PTK_PG_STATUS_OVF g k).noteWrap (.group g k)
    if getBits (p.reg (selAddr g k)) 12 1 = 1 then
      (p.setFld f ((getBits (p.reg (reloadAddr g k)) 0 48 + (v - 2 ^ 48)) % 2 ^ 48)).armCapture g k
    else p.setFld f (v - 2 ^ 48)

/-- Unit `u` is wired. -/
def wiredUnit (p : Potik) (u : Nat) : Bool := decide (u < p.params.units) || (u == 2047 && p.params.dieUnit)

/-- A census counter is wired (R97). -/
def wired (p : Potik) (u c : Nat) : Bool := p.wiredUnit u && !p.params.unwired.contains (u, c)

/-- A counter wraps (R108): a census counter from all ones to 0, or a counter of a group in the domain cycle that brings it there. -/
def counterWrap (p : Potik) (c : PCounter) (before : Nat) (slots : List PevSlot) : Potik :=
  match c with
  | .census u k =>
    if p.wired u k && !p.halted (p.unitDomain u) then
      let i := u * 16 + k
      ((p.setFld (F.PTK_CEN_DATA_VALUE.at i) 0).setFld (F.PTK_CEN_DATA_OVF.at i) 1).noteWrap c
    else p
  | .group g k => if g < p.params.groups ∧ k < 8 ∧ p.halted (p.groupDomain g) = false then p.groupCycle g k before slots else p

/-- Header flags that the quality of a reading calls for (R85). -/
def qualityFlags (q : Nat) : Nat := b2n (bit q 4) * 2 ^ flagHalted + b2n (bit q 3) * 2 ^ flagStretch

/-- The stored entries leave in a Sample buffer record (R116, R155). -/
def drainSamples (p : Potik) : Potik :=
  if p.samples.isEmpty || !p.armed then p
  else
    let es := p.samples
    let flags := es.foldl (fun f e => f ||| qualityFlags (bytesAt e 30 2)) 0
    let p := p.send 0x04 flags (le 2 es.length ++ le 4 (min 0xFFFFFFFF p.dropCount) ++ zeros 2 ++ es.flatten)
    { p with samples := [], dropCount := 0, readPhase := 0 }

/-- An instruction retires on the port of group `g` while a capture is armed (R113 to R115); `pev` are its precise-event bits and `skid` the
domain cycles since the wrap. -/
def sampleCapture (p : Potik) (g : Nat) (addr insn lat priv src pev skid : Nat) : Potik :=
  match p.capture g with
  | none => p
  | some a =>
    if (match a.line with | some j => !bit pev j | none => false) then p
    else
      let p := p.setCapture g none
      if 4096 ≤ p.samples.length then p.dropCapture
      else
        let e := le 8 addr ++ le 8 insn ++ le 3 lat ++ le 1 (priv % 4 + 4 * b2n a.line.isNone + 8 * b2n p.dropPending) ++
          le 2 (src % 4096 + (p.groupPort g).getD 0 % 16 * 4096) ++ le 1 (g % 64) ++ le 1 (a.counter % 8 + min 31 skid * 8) ++ le 4 p.stamp ++
          le 2 (p.epoch % 2 ^ 16) ++ le 2 (p.domainQuality (p.groupDomain g))
        let p := { p with samples := p.samples ++ [e], dropPending := false }
        if !p.sampleLocal && decide (2048 ≤ p.samples.length) then p.drainSamples else p

/-- No qualifying instruction within 4,096 domain cycles (R114). -/
def sampleAbandon (p : Potik) (g : Nat) : Potik := if (p.capture g).isSome then (p.setCapture g none).dropCapture else p

/-- The buffer drained in export mode (R116). -/
def sampleDrain (p : Potik) : Potik := if p.sampleLocal then p else p.drainSamples

/-- Eight bytes of the oldest entry read; the fourth read removes it (R116). -/
def sampleRead (p : Potik) : Word × Potik :=
  match p.samples with
  | [] => (0, p)
  | e :: rest =>
    (BitVec.ofNat 64 (bytesAt e (8 * p.readPhase) 8),
     if 3 ≤ p.readPhase then { p with samples := rest, readPhase := 0 } else { p with readPhase := p.readPhase + 1 })

/-! ### Context (R121 to R124) -/

/-- Thresholds TH1 to TH7, signed. -/
def tempThresholds (p : Potik) : List Int :=
  [F.PTK_CTX_TTH_TH1, F.PTK_CTX_TTH_TH2, F.PTK_CTX_TTH_TH3, F.PTK_CTX_TTH_TH4, F.PTK_CTX_TTH2_TH5, F.PTK_CTX_TTH2_TH6, F.PTK_CTX_TTH2_TH7].map p.sfld

/-- The band after a code (R122). -/
def nextBand (th : List Int) (hyst : Int) (b : Nat) (code : Int) : Nat :=
  let n := (th.filter (fun t => decide (t ≤ code))).length
  if b < n then n
  else if n < b ∧ code < th.getD (b - 1) 0 - hyst then n
  else b

/-- A health round ends (R122). -/
def roundEnd (p : Potik) : Potik :=
  match p.roundMax with
  | none => p
  | some c =>
    let p := p.setFld F.PTK_CTX_STATUS_TEMP_CODE (toField 16 c)
    { p with band := nextBand p.tempThresholds (p.fld F.PTK_CTX_CFG_HYST) p.band c, ctxValid := true, roundMax := none }

/-- Units wired, in sweep order. -/
def wiredUnits (p : Potik) : List Nat := List.range p.params.units ++ (if p.params.dieUnit then [2047] else [])

/-- LOAD_CLASS of a sum of activities over `n` units (R124). -/
def loadClass (p : Potik) (sum n : Nat) : Nat :=
  ([F.PTK_CTX_LTH_LT1, F.PTK_CTX_LTH_LT2, F.PTK_CTX_LTH_LT3, F.PTK_CTX_LTH_LT4, F.PTK_CTX_LTH_LT5, F.PTK_CTX_LTH_LT6, F.PTK_CTX_LTH_LT7].filter
    (fun f => decide (p.fld f * n * p.actDen ≤ 256 * sum))).length

/-- The load class of a unit's neighbourhood, or of the die (R124). -/
def loadOf (p : Potik) (unit : Option Nat) : Nat :=
  let sumOf := fun (us : List Nat) => (us.map (p.act.get zero)).sum
  match unit with
  | none => p.loadClass (sumOf p.wiredUnits) p.wiredUnits.length
  | some u =>
    let sh := 2 ^ p.fld F.PTK_CTX_CFG_NB_SHIFT
    let others := p.wiredUnits.filter (fun v => v / sh == u / sh && v != u)
    if others.isEmpty then p.loadClass (p.act.get zero u) 1 else p.loadClass (sumOf others) others.length

/-- The context tag of R121. -/
def tag (p : Potik) (unit : Option Nat) : Nat :=
  p.band % 8 + p.vf.point % 16 * 8 + p.loadOf unit * 128 + b2n p.ctxValid * 1024 + b2n p.vf.busy * 2048

/-- ACT_CTR read of every wired unit, `dt` ns after the last read (R124): a unit's activity needs two reads of the same counter. -/
def activityRead (p : Potik) (dt : Nat) (values : List Nat) : Potik :=
  let ctr := p.fld F.PTK_CTX_CFG_ACT_CTR
  let same := ctr == p.actCtr
  let us := p.wiredUnits.zip values
  let act := us.foldl (fun (t : Tab Nat) e =>
    match (if same then p.actRaw.get none' e.1 else none) with
    | some x => Tab.put zero t e.1 ((e.2 + 2 ^ 32 - x) % 2 ^ 32 * p.nominal (p.unitDomain e.1))
    | none => t) (if same then [] else p.act)
  let ready := same && us.any (fun e => (p.actRaw.get none' e.1).isSome)
  { p with act := if ready then act else p.act, actDen := if ready then max 1 (dt * 1000) else p.actDen, actCtr := ctr,
           actRaw := us.foldl (fun (t : Tab (Option Nat)) e => Tab.put none' t e.1 (some e.2)) [] }

/-! ### Health sensors (R117, R118) -/

/-- The next sensor of the round is requested, or the round ends. -/
def nextSensor (p : Potik) : Potik :=
  match p.round with
  | i :: _ => p.emit (.sensorReq p.die i)
  | [] => p.roundEnd

/-- A round of the enabled sensors starts at tick + `k` × 100 µs, unless the instant lies less than 80 µs before the next tick (R117). -/
def healthRound (p : Potik) (k : Nat) : Potik :=
  match p.sched with
  | some c =>
    if p.open_ && decide (k * 100000 + 80000 ≤ c.p) then
      ({ p with round := (List.range p.params.sensors).filter (fun i => p.flag (F.PTK_HS_CFG_EN.at i)), roundMax := none }).nextSensor
    else p
  | none => p

/-- The sensor is one of the selected temperature sensors (R122). -/
def selectedTemp (p : Potik) (i : Nat) : Bool :=
  i != 255 && ([0, 1, 2, 3].any (fun j => p.fld F.PTK_CTX_CFG_TEMP_SENSOR / 256 ^ j % 256 == i))

/-- A valid sample of sensor `i`. -/
def takeSample (p : Potik) (i : Nat) (c : Int) : Potik :=
  let p := p.setFld (F.PTK_HS_CFG_LAST.at i) (toField 16 c)
  let p := { p with sensors := p.sensors.mod (fun _ => {}) i (fun x =>
    { n := x.n + 1, sum := x.sum + c, lo := if x.n = 0 then c else min x.lo c, hi := if x.n = 0 then c else max x.hi c }) }
  if p.selectedTemp i then { p with roundMax := some (match p.roundMax with | some m => max m c | none => c) } else p

/-- The requested sensor acknowledges (R117). -/
def healthAck (p : Potik) (err : Bool) (code : Nat) : Potik :=
  match p.round with
  | [] => p
  | i :: rest =>
    let p := if err then p.incFld (F.PTK_HS_CFG_ERRORS.at i) else p.takeSample i (asSigned 16 code)
    ({ p with round := rest }).nextSensor

/-- A mean rounded to the nearest code, ties away from zero (R118). -/
def roundMean (sum : Int) (n : Nat) : Int :=
  let q : Int := ((2 * sum.natAbs + n) / (2 * n) : Nat)
  if sum < 0 then -q else q

/-- At a tick: PTK_HS_DATA of every sensor over the epoch that closes (R118). -/
def healthRoll (p : Potik) : Potik :=
  let p := (List.range p.params.sensors).foldl (fun p i =>
    let x := p.sensors.get (fun _ => {}) i
    let v := if x.n = 0 then 2 ^ 62 else
      toField 16 (roundMean x.sum x.n) + toField 16 x.lo * 2 ^ 16 + toField 16 x.hi * 2 ^ 32 + min 0x3FFF x.n * 2 ^ 48
    p.setReg (F.PTK_HS_DATA_MEAN.at i).addr (BitVec.ofNat 64 v)) p
  { p with sensors := [] }

/-- The Health record of epoch `e` (R118, R158). -/
def healthRecord (p : Potik) (e : Nat) : Potik :=
  let entry := fun i =>
    if p.flag (F.PTK_HS_CFG_EN.at i) then
      let w := (p.reg (F.PTK_HS_DATA_MEAN.at i).addr).toNat
      le 6 (w % 2 ^ 48) ++ le 2 (w / 2 ^ 48 % 2 ^ 15)
    else zeros 6 ++ le 2 (2 ^ 15)
  let (r, p) := p.mkRec 0x03 0 (le 2 p.params.sensors ++ zeros 6 ++ ((List.range p.params.sensors).map entry).flatten)
  p.enqueue { r := { r with epoch := e, offset := 0 } }

/-! ### The March sweep (R100 to R104, R156, R157) -/

/-- A reading's quality: the servo state at s0, and its domain up to the latch cycle (R101). -/
def latchQuality (p : Potik) (d : Nat) (s0 : Int) (i : Nat) (l : Latch) : Nat :=
  let x := p.dom d
  let m := period x l.n l.first l.last (s0 + ((i : Int) + 2) * nsUnit)
  ({ p with time := s0 }).eventQuality d m (decide (4 ≤ x.quiet) && l.n == 0)

/-- The wrap bit of a counter at the capture instant `t`, and the Potik that has reported it (R104). -/
def takeWrap (p : Potik) (c : PCounter) (t : Int) : Bool × Potik :=
  match (p.wraps.get (fun _ => {}) (wrapKey c)).at_ with
  | some w => if w ≤ t then (true, { p with wraps := p.wraps.mod (fun _ => {}) (wrapKey c) (fun x => { x with at_ := none }) }) else (false, p)
  | none => (false, p)

/-- The census entry of sweep index `i`, unit `u` (R156), and its quality. -/
def censusEntry (p : Potik) (key : Bool) (s0 : Int) (i u : Nat) (l : Latch) : Bytes × Nat × Potik :=
  let q := p.latchQuality (p.unitDomain u) s0 i l
  let t := s0 + (i : Int) * nsUnit
  let (wraps, p) := (List.range 16).foldl (fun (a : Nat × Potik) c =>
    let (w, p) := a.2.takeWrap (.census u c) t
    (a.1 + b2n w * 2 ^ c, p)) (0, p)
  let (vals, p) := (List.range 16).foldl (fun (a : Bytes × Potik) c =>
    let k := u * 16 + c
    let raw := (l.values.getD c (a.2.fld (F.PTK_CEN_DATA_VALUE.at k))) % 2 ^ 32
    let v := if key then raw else if bit q 4 then 0 else (raw + 2 ^ 32 - a.2.raws.get zero k) % 2 ^ 32
    let p := a.2.setFld (F.PTK_CEN_DATA_VALUE.at k) raw
    (a.1 ++ le 4 v, { p with raws := p.raws.put zero k raw })) ([], p)
  (le 2 u ++ le 2 q ++ le 2 wraps ++ zeros 2 ++ vals, q, p)

/-- The entry of group `g` at sweep index `i` (R157), and its quality. -/
def groupEntry (p : Potik) (s0 : Int) (i g : Nat) (l : Latch) : Bytes × Nat × Potik :=
  let q := p.latchQuality (p.groupDomain g) s0 i l
  let t := s0 + (i : Int) * nsUnit
  let cyc := if l.values.isEmpty then p.fld (F.PTK_PG_CYC_CYCLES.at g) else l.cycles
  let (wraps, p) := (List.range 8).foldl (fun (a : Nat × Potik) k =>
    let (w, p) := a.2.takeWrap (.group g k) t
    (a.1 + b2n w * 2 ^ k, p)) (0, p.setFld (F.PTK_PG_CYC_CYCLES.at g) cyc)
  let (vals, p) := (List.range 8).foldl (fun (a : Bytes × Potik) k =>
    let raw := (l.values.getD k (getBits (a.2.reg (cntAddr g k)) 0 48)) % 2 ^ 48
    (a.1 ++ le 8 raw, a.2.setFld ⟨cntAddr g k, 0, 48, 0⟩ raw)) ([], p)
  (le 2 i ++ le 1 g ++ le 1 wraps ++ le 2 q ++ zeros 2 ++ le 8 cyc ++ vals, q, p)

/-- Entries of a part of the sweep, with the flags of their qualities (R85) and the quality of the first. -/
def sweepEntries (f : Potik → Nat → Nat → Bytes × Nat × Potik) (i0 : Nat) (p : Potik) (us : List Nat) : Bytes × Nat × Option Nat × Potik :=
  (us.zipIdx i0).foldl (fun (a : Bytes × Nat × Option Nat × Potik) e =>
    let (b, q, p) := f a.2.2.2 e.2 e.1
    (a.1 ++ b, a.2.1 ||| qualityFlags q, some (a.2.2.1.getD q), p)) ([], 0, none, p)

/-- The sweep that began at s0, and the Health record of the epoch before, handed to the shaper (R104, R118). -/
def sweepHandoff (p : Potik) (s0 : Int) (elems : List Latch) : Potik :=
  if !p.armed || !p.sweepDue then p
  else
    let at_ := fun i => elems.getD i { values := [] }
    let n := p.wiredUnits.length
    let e := p.epoch
    let off := min 0xFFFFFFFF (p.rawStamp s0)
    let key := p.keyNext || e % max 1 (p.fld F.PTK_REC_CFG_KEY_INTERVAL) == 0
    let ref := p.rawEpoch
    let (cen, cf, q0, p) := sweepEntries (fun p i u => p.censusEntry key s0 i u (at_ i)) 0 p p.wiredUnits
    let (grp, gf, q1, p) := sweepEntries (fun p i g => p.groupEntry s0 i g (at_ i)) n p (List.range p.params.groups)
    let q := q0.getD (q1.getD p.quality)
    let p := ({ p with keyNext := false, sweepDue := false, rawEpoch := e }).setFld F.PTK_CEN_STATUS_LAST_LEN (n + p.params.groups)
    let p := p.setFld F.PTK_CEN_STATUS_SWEEPING 0
    let (r, p) := p.mkRec 0x01 (cf ||| qualityFlags q) (le 2 n ++ le 1 (b2n (!key)) ++ zeros 1 ++ le 6 (if key then 0 else ref) ++ zeros 6 ++ cen)
    let p := p.enqueue { r := { r with epoch := e, offset := off, quality := q } }
    let (r, p) := p.mkRec 0x02 (gf ||| qualityFlags q) (le 2 p.params.groups ++ zeros 14 ++ grp)
    let p := p.enqueue { r := { r with epoch := e, offset := off, quality := q } }
    match p.healthDue with
    | some h => ({ p with healthDue := none }).healthRecord h
    | none => p

/-- The earliest wrap among those of the census, and the number of counters that wrapped. -/
def censusWraps (p : Potik) : Option (Nat × PWrap) × Nat :=
  let ws := p.wraps.filter (fun e => decide (e.1 < 2 ^ 20) && decide (0 < e.2.count))
  (ws.foldl (fun a e => match a with | some x => if e.2.first < x.2.first then some e else a | none => some e) none, ws.length)

/-- At a tick, the wrap Events of R109: each carries the epoch and stamp of the first wrap it reports. -/
def wrapEvents (p : Potik) : Potik :=
  let ws := p.wraps
  let (first, n) := p.censusWraps
  let p := { p with wraps := (ws.map (fun e => (e.1, ({ at_ := e.2.at_ } : PWrap)))).filter (fun e => e.2.at_.isSome) }
  let sendAt := fun (p : Potik) (w : PWrap) (body : Bytes) =>
    let (r, p) := p.mkRec 0x0A 0 body
    p.enqueue { r := { r with epoch := w.epoch, offset := w.stamp } }
  if !p.armed then p
  else
    let p := match first with
      | some (k, w) =>
        if p.flag F.PTK_CEN_CTRL_WRAP_EVT then sendAt p w (eventBody 0x0001 (p.addr / 2048 * 2048 + k / 16) n (le 1 (k % 16))) else p
      | none => p
    (ws.filter (fun e => decide (2 ^ 20 ≤ e.1) && decide (0 < e.2.count))).foldl (fun p e =>
      let g := (e.1 - 2 ^ 20) / 8
      let k := e.1 % 8
      if getBits (p.reg (selAddr g k)) 11 1 = 1 then sendAt p e.2 (eventBody 0x0002 p.addr e.2.count (le 2 (g + k * 256))) else p) p

end Potik

/-- SWEEP_HANDOFF (R104). -/
def execSweepHandoff (die : Nat) (s0 : Int) (elems : List Latch) (s : State) : Host.Outcome State Fault Refusal :=
  s.run (fun s => s.onPtk die (fun p => p.sweepHandoff s0 elems))

/-- COUNTER_WRAP (R108). -/
def execCounterWrap (die : Nat) (c : PCounter) (before : Nat) (slots : List PevSlot) (now : Int) (s : State) : Host.Outcome State Fault Refusal :=
  s.run (fun s => s.onPtk die (fun p => (p.atTime now).counterWrap c before slots))

/-- SAMPLE_ARM (R113). -/
def execSampleArm (die g k before : Nat) (slots : List PevSlot) (now : Int) (s : State) : Host.Outcome State Fault Refusal :=
  s.run (fun s => s.onPtk die (fun p => (p.atTime now).counterWrap (.group g k) before slots))

/-- SAMPLE_CAPTURE (R113). -/
def execSampleCapture (die g addr insn lat priv src pev skid : Nat) (now : Int) (s : State) : Host.Outcome State Fault Refusal :=
  s.run (fun s => s.onPtk die (fun p => (p.atTime now).sampleCapture g addr insn lat priv src pev skid))

/-- SAMPLE_ABANDON (R114). -/
def execSampleAbandon (die g : Nat) (s : State) : Host.Outcome State Fault Refusal := s.run (fun s => s.onPtk die (fun p => p.sampleAbandon g))

/-- SAMPLE_DRAIN (R116). -/
def execSampleDrain (die : Nat) (now : Int) (s : State) : Host.Outcome State Fault Refusal := s.run (fun s => s.onPtk die (fun p => (p.atTime now).sampleDrain))

/-- HEALTH_ROUND (R117). -/
def execHealthRound (die k : Nat) (s : State) : Host.Outcome State Fault Refusal := s.run (fun s => s.onPtk die (fun p => p.healthRound k))

/-- HEALTH_ACK (R117). -/
def execHealthAck (die : Nat) (err : Bool) (code : Nat) (s : State) : Host.Outcome State Fault Refusal :=
  s.run (fun s => s.onPtk die (fun p => p.healthAck err code))

/-- HEALTH_ACK_TIMEOUT (R117). -/
def execHealthAckTimeout (die : Nat) (s : State) : Host.Outcome State Fault Refusal := s.run (fun s => s.onPtk die (fun p => p.healthAck true 0))

/-- ACTIVITY_READ (R124). -/
def execActivityRead (die dt : Nat) (values : List Nat) (s : State) : Host.Outcome State Fault Refusal :=
  s.run (fun s => s.onPtk die (fun p => p.activityRead dt values))

end Sys2Proof.Machine
end

