-- ==== Sys2Proof/Machine/PotikCapture.lean ====
section
/-! DEFINITION. Potik's captures: tensor watch, tiles, digests, tests, trace and snapshot (05, R159, R160, R411). -/

namespace Sys2Proof.Machine

/-! ### Tensor watch (R126 to R130) -/

/-- Bits set among the low `n` of a mask. -/
def popcount (n v : Nat) : Nat := ((List.range n).filter (fun i => bit v i)).length

/-- Bytes of an element of ptk_ws_fmt; E2M1 has two elements in a byte. -/
def fmtBytes (fmt : Nat) : Nat := match fmt with | 0 => 4 | 1 => 2 | _ => 1

/-- The elements of a beat in ascending byte position, none for one whose bytes are not all enabled; a reserved format has none. -/
def beatElements (b : WBeat) : List (Option Nat) :=
  if 4 < b.fmt then []
  else
    let w := fmtBytes b.fmt
    ((List.range (64 / w)).map (fun i =>
      let on := (List.range w).all (fun j => bit b.be (w * i + j))
      let v := bytesAt b.data (w * i) w
      if b.fmt = 4 then (if on then [some (v % 16), some (v / 16)] else [none]) else [if on then some v else none])).flatten

/-- The enabled bytes of a beat. -/
def beatBytes (b : WBeat) : Bytes := ((b.data.zipIdx).filter (fun e => bit b.be e.2)).map (fun e => e.1)

/-- Flags of R130. -/
abbrev wUnordered : Nat := 0
abbrev wPartial : Nat := 1
abbrev wSat : Nat := 2
abbrev wPoison : Nat := 3
abbrev wCut : Nat := 4
abbrev wTimeout : Nat := 5

/-- A flag of an instance set when `c` holds. -/
def WInst.flagIf (x : WInst) (c : Bool) (i : Nat) : WInst := if c then { x with flags := x.flags ||| 2 ^ i } else x

/-- The histogram bin of a value (R128). -/
def watchBin (base : Int) (step : Nat) (m : Nat) (e : Int) : Nat :=
  if m = 0 then 0
  else
    let x := (Nat.log2 m : Int) + e
    if x < base then 1 else min 15 (2 + (x - base).toNat / max 1 step)

/-- A saturating 32-bit count raised. -/
def sat32 (v n : Nat) : Nat := min 0xFFFFFFFF (v + n)

/-- One element added to the statistics (R128). -/
def WInst.element (cfg : Word) (fmt : Nat) (x : WInst) (v : Nat) : WInst :=
  let x := { x with count := x.count + 1 }
  match decodeFmt fmt v with
  | .nan => { x with nan := sat32 x.nan 1 }
  | .inf _ => { x with inf := sat32 x.inf 1 }
  | .fin neg m e =>
    let f := Fp.toFp32 (.fin neg m e)
    let sum := addFp32 x.sum f
    let sq := addFp32 x.sumsq (mulFp32 f f)
    let b := watchBin (asSigned 8 (getBits cfg 8 8)) (getBits cfg 16 4) m e
    let h := x.hist.getD b 0
    ({ x with absMax := max x.absMax (f % 2 ^ 31), sum := sum, sumsq := sq, hist := x.hist.set b (sat32 h 1) }).flagIf
      (sum % 2 ^ 31 == 0x7F800000 || sq % 2 ^ 31 == 0x7F800000 || h == 0xFFFFFFFF) wSat

/-- A matched beat added to an instance (R128). -/
def WInst.beat (cfg : Word) (x : WInst) (w : WEntry) : WInst :=
  let b := w.beat
  let es := beatElements b
  let skipped := (es.filter Option.isNone).length * fmtBytes b.fmt
  let x := if b.poison then x.flagIf true wPoison else (es.filterMap id).foldl (WInst.element cfg b.fmt) x
  { x with dropped := sat32 x.dropped skipped, digest := crc64From x.digest (beatBytes b), prevAddr := b.addr, offset := w.offset
           quality := w.quality, context := w.context }

/-- The statistics entry of a closed instance (R130). -/
def WInst.entry (slot mode : Nat) (x : WInst) : Bytes :=
  le 1 (slot % 16 + x.fmt % 8 * 16 + mode * 128) ++ le 1 (x.flags % 64) ++ le 2 x.tag ++ le 2 x.context ++ zeros 2 ++ le 8 x.count ++ le 4 x.nan ++
  le 4 x.inf ++ le 4 x.absMax ++ le 4 x.sum ++ le 4 x.sumsq ++ le 4 x.dropped ++ le 8 x.digest.toNat ++ (x.hist.map (le 4)).flatten ++
  le 4 x.offset ++ le 2 x.quality ++ zeros 2 ++ le 8 (x.firstAddr * 64)

namespace Potik

/-- A watch slot. -/
def watch (p : Potik) (k : Nat) : Watch := p.watches.get (fun _ => {}) k

/-- A watch slot set. -/
def setWatch (p : Potik) (k : Nat) (w : Watch) : Potik := { p with watches := p.watches.put (fun _ => {}) k w }

/-- Potik sees the die's voltage and frequency pins (R123). -/
def withVf (p : Potik) (v : Vf) : Potik := { p with vf := v }

/-- A beat on the tap (R126): into the FIFO, or lost, its enabled bytes counted in every open instance. -/
def wsArrive (p : Potik) (b : WBeat) : Potik :=
  if p.fifo.length < 32 then
    { p with fifo := p.fifo ++ [{ beat := b, offset := p.stamp, quality := p.domainQuality p.params.wsDomain, context := p.tag (some b.unit) }] }
  else
    (List.range 16).foldl (fun p k =>
      let w := p.watch k
      match w.inst with
      | none => p
      | some x => p.setWatch k { w with inst := some ({ x with dropped := sat32 x.dropped (popcount 64 b.be) }.flagIf true wPartial) }) p

/-- The slot takes a beat (R127). -/
def watchMatches (w : Watch) (b : WBeat) : Bool :=
  getBits w.cfg 0 1 == 1 &&
  (if getBits w.cfg 1 1 = 1 then b.tag == getBits w.cfg 32 16 else decide (getBits w.base 6 58 ≤ b.addr) && decide (b.addr ≤ getBits w.limit 6 58))

/-- The open instance of slot `k` closes (R127, R130): reported, or counted in SKIPPED beyond MAX_INST. -/
def closeInst (p : Potik) (k : Nat) (flags : WInst → WInst) : Potik :=
  let w := p.watch k
  match w.inst with
  | none => p
  | some x =>
    if w.entries.length ≤ getBits w.cfg 2 6 then
      p.setWatch k { w with inst := none, entries := w.entries ++ [(flags x).entry k (getBits w.cfg 1 1)] }
    else (p.setWatch k { w with inst := none }).incFld (F.PTK_TW_CFG_SKIPPED.at k)

/-- A beat retired into slot `k` (R127). -/
def watchBeat (p : Potik) (w : WEntry) (k : Nat) : Potik :=
  let s := p.watch k
  if !watchMatches s w.beat then p
  else
    let x := match s.inst with
      | some x => x.flagIf (decide (w.beat.addr ≤ x.prevAddr)) wUnordered
      | none => { fmt := w.beat.fmt, tag := w.beat.tag, firstAddr := w.beat.addr }
    let p := p.setWatch k { s with inst := some (x.beat s.cfg w), matched := true }
    if getBits s.cfg 1 1 = 1 ∧ w.beat.last = true then p.closeInst k id else p

/-- The oldest beat of the FIFO retired into every slot that matches (R126, R127). -/
def wsBeat (p : Potik) : Potik :=
  match p.fifo with
  | [] => p
  | w :: rest => (List.range 16).foldl (fun p k => p.watchBeat w k) { p with fifo := rest }

/-- PTK_TW_CFG without SKIPPED, which no write changes. -/
def watchCfg (p : Potik) (k : Nat) : Word := setBits (p.reg (F.PTK_TW_CFG_EN.at k).addr) 48 16 0

/-- At a tick, slot `k`: its instance closes where R127 says so, and a change of the slot takes effect. -/
def watchTick (p : Potik) (k : Nat) : Potik :=
  let w := p.watch k
  let cfg := p.watchCfg k
  let base := p.reg (F.PTK_TW_BASE_ADDR.at k).addr
  let limit := p.reg (F.PTK_TW_LIMIT_ADDR.at k).addr
  let changed := w.cfg != cfg || w.base != base || w.limit != limit
  let tagMode := getBits w.cfg 1 1 == 1
  let p := if changed || !tagMode || !w.matched then
      p.closeInst k (fun x => (x.flagIf changed wCut).flagIf (tagMode && !w.matched) wTimeout)
    else p
  let w := p.watch k
  p.setWatch k { w with cfg := cfg, base := base, limit := limit, matched := false }

/-- The entries of the closing epoch in a Tensor watch record, and the slots emptied (R130). -/
def sendWatch (p : Potik) : Potik :=
  let es := ((List.range 16).map (fun k => (p.watch k).entries)).flatten
  let p := (List.range 16).foldl (fun p k => p.setWatch k { p.watch k with entries := [] }) p
  if es.isEmpty then p
  else
    let flags := es.foldl (fun f e => f ||| qualityFlags (bytesAt e 116 2) ||| (b2n (bit (bytesAt e 1 1) wSat) * 2 ^ flagSat) |||
      (b2n (bit (bytesAt e 1 1) wPoison) * 2 ^ flagPoison)) 0
    p.send 0x05 flags (le 2 es.length ++ zeros 6 ++ es.flatten)

/-- What a tick does to the tensor watch: instances close, and their entries leave. -/
def watchesTick (p : Potik) : Potik := ((List.range 16).foldl watchTick p).sendWatch

/-! ### Tiles (R131 to R134) -/

end Potik

namespace Potik

/-- The die offers a tile (R131). -/
def tileOffer (p : Potik) (desc id unit bytes : Nat) : Potik :=
  if !p.flag F.PTK_TILE_CFG_EN || !p.armed then p.emit (.tileTake p.die false)
  else
    let p := { p with lfsr := lfsrStep p.lfsr }
    let tag := p.tag (some unit)
    let i := tag % 1024
    let forced := decide (p.fld (F.PTK_TILE_QUOTA_DATA_COUNT.at i) < p.fld (F.PTK_TILE_QUOTA_DATA_QUOTA.at i))
    let can := p.tile.isNone && desc % 65536 != 0 && decide (bytes ≤ 262112)
    if can && (forced || p.lfsr.toNat % 2 ^ p.fld F.PTK_TILE_CFG_SHIFT == 0) then
      let t : PTile := { desc := desc, id := id, unit := unit, bytes := bytes, forced := forced, context := tag,
                         quality := p.domainQuality p.params.tileDomain, offset := p.stamp, epoch := p.epoch }
      let p := ((p.incFld F.PTK_TILE_STATUS_TAKEN).incFld (F.PTK_TILE_QUOTA_DATA_COUNT.at i)).setFld F.PTK_TILE_STATUS_BUSY 1
      ({ p with tile := some t }).emit (.tileTake p.die true)
    else (if forced then p.incFld F.PTK_TILE_STATUS_MISSED_QUOTA else p).emit (.tileTake p.die false)

/-- The descriptor of R134. -/
def tileDescriptor (t : PTile) (poison : Bool) : Bytes :=
  le 8 t.desc ++ le 4 t.id ++ le 2 t.context ++ le 2 t.quality ++ le 4 t.offset ++ le 4 t.bytes ++ le 1 (b2n t.forced + 2 * b2n poison) ++
  le 2 (t.unit % 2048) ++ zeros 5

/-- A taken tile's stream ends (R133): a Tile record, or the tile is discarded for its length. -/
def tileEnd (p : Potik) (data : Bytes) (poison : Bool) : Potik :=
  match p.tile with
  | none => p
  | some t =>
    let p := ({ p with tile := none }).setFld F.PTK_TILE_STATUS_BUSY 0
    if data.length ≠ t.bytes then p.incFld F.PTK_TILE_STATUS_BAD_LEN
    else if !p.armed then p
    else
      let (r, p) := p.mkRec 0x08 (qualityFlags t.quality + b2n poison * 2 ^ flagPoison) (tileDescriptor t poison ++ data)
      p.enqueue { r := { r with epoch := t.epoch, offset := t.offset, quality := t.quality } }

/-- At a tick: a quota window of WINDOW epochs ends (R131). -/
def tileWindow (p : Potik) : Potik :=
  if max 1 (p.fld F.PTK_TILE_CFG_WINDOW) ≤ p.window + 1 then
    let p := { p with window := 0 }
    (List.range 1024).foldl (fun p i => if p.fld (F.PTK_TILE_QUOTA_DATA_COUNT.at i) = 0 then p else p.setFld (F.PTK_TILE_QUOTA_DATA_COUNT.at i) 0) p
  else { p with window := p.window + 1 }

/-! ### Digests (R136, R137) -/

/-- The trailer of a chunk (R136). -/
def chunkTrailer (p : Potik) (round seq : Nat) (payload : Bytes) (retain poison : Bool) : Bytes :=
  let b := le 8 (crc64 payload).toNat ++ le 4 p.addr ++ le 4 seq ++ le 2 round ++ le 1 (b2n retain + 2 * b2n poison) ++ le 1 1 ++
    le 4 payload.length ++ zeros 4
  b ++ le 4 (crc32c b).toNat

/-- The key of a pair of round and sequence. -/
def chunkKey (round seq : Nat) : Nat := round % 2 ^ 16 * 2 ^ 32 + seq % 2 ^ 32

/-- A chunk ends on a lane (R136). -/
def chunkEnd (p : Potik) (lane round seq : Nat) (payload : Bytes) (retain poison : Bool) : Potik :=
  if p.params.csLanes ≤ lane then p
  else
    let p := (p.incFld F.PTK_CSD_STATUS_CHUNKS).emit (.trailer p.die lane (p.chunkTrailer round seq payload retain poison))
    { p with sent := p.sent.put none' (chunkKey round seq) (some (crc64 payload)), lanes := p.lanes.put (fun _ => (0, 0)) lane (round, seq) }

/-- A Digest report (R137, R160); `free` stands for the digest of a pair that Potik never sent (log entry 21). -/
def digestReport (p : Potik) (free : Word) (x : PRedigest) (outcome : Nat) (recomputed : Word) : Potik :=
  let sent := (p.sent.get none' (chunkKey x.round x.seq)).getD free
  p.send 0x07 0 (le 8 sent.toNat ++ le 8 recomputed.toNat ++ le 2 x.round ++ le 1 outcome ++ zeros 1 ++ le 4 x.seq ++ le 2 x.context ++ zeros 6)

/-- The request at the head asked of the die. -/
def askRedigest (p : Potik) : Potik :=
  match p.redigests with
  | x :: _ => p.emit (.redigest p.die x.round x.seq)
  | [] => p

/-- A re-digest request (R137): held, or answered BUSY; discarded while unarmed (R482). -/
def redigestRequest (p : Potik) (free : Word) (value : Nat) : Potik :=
  if !p.armed then p
  else
    let x : PRedigest := { round := value % 2 ^ 16, seq := value / 2 ^ 16 % 2 ^ 32, context := p.tag none }
    if 4 ≤ p.redigests.length then p.digestReport free x 4 0
    else
      let first := p.redigests.isEmpty
      let p := { p with redigests := p.redigests ++ [x] }
      if first then p.askRedigest else p

/-- The request at the head ends with an answer: the payload, a miss, or none within 10 ms (R137). -/
def redigestDone (p : Potik) (free : Word) (answer : Option (Option Bytes)) : Potik :=
  match p.redigests with
  | [] => p
  | x :: rest =>
    let p := { p with redigests := rest }
    let sent := (p.sent.get none' (chunkKey x.round x.seq)).getD free
    let p := match answer with
      | none => p.digestReport free x 3 0
      | some none => p.digestReport free x 2 0
      | some (some b) => p.digestReport free x (if crc64 b = sent then 0 else 1) (crc64 b)
    p.askRedigest

/-! ### Tests (R138 to R140) -/

/-- The second smallest of a core's last 16 waits, in ns (R139). -/
def predictedWait (p : Potik) (core : Nat) : Option Nat :=
  let ws := p.waits.get nil core
  if ws.length < 16 then none else ((ws.map (fun (n : Nat) => (n : Int))).foldr insertAsc [])[1]?.map Int.toNat

/-- DUE bit of a core in a slot. -/
def dueField (slot core : Nat) : Fld := ⟨0x718 + core / 64 * 8 + slot * 0x4000000, core % 64, 1, 0⟩

/-- The lowest slot whose package may start on a core (R139). -/
def startable (p : Potik) (core : Nat) : Option Nat :=
  match p.predictedWait core with
  | none => none
  | some w => (List.range 16).find? (fun k =>
      p.fld (F.PTK_TST_SLOT_DESC_PACKAGE.at k) != 0 && p.flag (dueField k core) &&
      decide (p.fld (F.PTK_TST_SLOT_DESC_LENGTH_NS.at k) + p.params.abortNs ≤ w) &&
      (!p.flag (F.PTK_TST_SLOT_DESC_BAND_REQ.at k) || p.fld (F.PTK_TST_SLOT_DESC_BAND.at k) == p.band))

/-- ptk_tst_wait of a core rises (R139). -/
def waitRise (p : Potik) (core : Nat) : Potik :=
  if p.params.testCores ≤ core then p
  else
    let p := { p with waiting := p.waiting.put none' core (some p.time) }
    if p.test.isSome || !p.armed then p
    else match p.startable core with
      | none => p
      | some k =>
        let t : PTest := { core := core, slot := k, package := p.fld (F.PTK_TST_SLOT_DESC_PACKAGE.at k), start := p.time, context := p.tag (some core),
                           quality := p.domainQuality (p.unitDomain core), offset := p.stamp, epoch := p.epoch }
        let p := ({ p with test := some t }).emit (.testRun p.die core k true)
        ((p.setFld F.PTK_TST_STATUS_RUNNING 1).setFld F.PTK_TST_STATUS_CORE core).setFld F.PTK_TST_STATUS_SLOT k

/-- The running test ends (R140): its Test result, and the package no longer due after PASS or FAIL. -/
def endTest (p : Potik) (outcome sig : Nat) : Potik :=
  match p.test with
  | none => p
  | some t =>
    let p := ({ p with test := none }).emit (.testRun p.die t.core t.slot false)
    let p := (p.setFld F.PTK_TST_STATUS_RUNNING 0).setFld F.PTK_TST_STATUS_LAST_OUTCOME outcome
    let p := if outcome = 2 then p.incFld F.PTK_TST_STATUS_ABORTS else p
    let p := if outcome < 2 then p.setFld (dueField t.slot t.core) 0 else p
    let ns := ((p.time - t.start) / nsUnit).toNat
    let (r, p) := p.mkRec 0x09 (qualityFlags t.quality) (le 8 sig ++ le 4 t.package ++ zeros 4 ++ le 2 (t.core % 2048) ++ le 1 outcome ++ le 1 (t.slot % 16) ++
      le 4 (min 0xFFFFFFFF ns) ++ le 2 t.context ++ zeros 6)
    p.enqueue { r := { r with epoch := t.epoch, offset := t.offset, quality := t.quality } }

/-- ptk_tst_wait of a core falls (R139, R140): the wait is recorded, and a test running on the core is aborted. -/
def waitFall (p : Potik) (core sig : Nat) : Potik :=
  let p := match p.waiting.get none' core with
    | some t0 =>
      let w := ((p.time - t0) / nsUnit).toNat
      { p with waiting := p.waiting.put none' core none, waits := p.waits.put nil core ((w :: p.waits.get nil core).take 16) }
    | none => p
  match p.test with
  | some t => if t.core = core then p.endTest 2 sig else p
  | none => p

/-- ptk_tst_done (R140). -/
def testDone (p : Potik) (pass : Bool) (sig : Nat) : Potik := p.endTest (if pass then 0 else 1) sig

/-- No ptk_tst_done within 2 × LENGTH_NS (R140). -/
def testNoAnswer (p : Potik) (sig : Nat) : Potik := p.endTest 3 sig

/-! ### Trace (R141, R142, R144) -/

end Potik

/-- A beat as the 24-byte entry of R159 lays it out: the data takes the place of the code, number and payload of the block's own entries. -/
def PBeat.entry (b : PBeat) : TrcEntry :=
  { source := b.source, sync := b.sync, code := bytesAt b.data 0 2, iseq := bytesAt b.data 2 2, payload := (b.data ++ zeros 16).drop 4 |>.take 12,
    epoch := b.epoch, offset := b.offset, quality := 0 }

namespace Potik

/-- Beats discarded (R142). -/
def loseBeats (p : Potik) (bs : List PBeat) : Potik :=
  let p := p.addFld F.PTK_TRC_CTRL_LOST bs.length
  { p with trcLoss := bs.foldl (fun l b => l.add 0 b.epoch b.offset) p.trcLoss }

/-- Beats of one epoch sent in a Trace record (R141, R159), coded where PTK_COD_CFG names the type (R365); beats that find no room are
discarded. -/
def sendBeats (p : Potik) (mode : Nat) (triggered : Bool) (bs : List PBeat) : Potik :=
  match bs with
  | [] => p
  | b :: _ =>
    let last := (bs.getLast?.map (fun x => x.offset)).getD 0
    let raw := ((bs.map (fun x => (PBeat.entry x).beat))).flatten
    let coded := bit (p.fld F.PTK_COD_CFG_TYPES) 6
    let body := if coded then traceBody mode triggered b.offset last bs.length raw
      else le 1 (mode % 4 + 4 * b2n triggered) ++ zeros 3 ++ le 4 bs.length ++ le 4 b.offset ++ le 4 last ++ raw
    let (r, p') := p.mkRec 0x06 0 body
    let r := { r with comp := if coded then traceComp body else 0, epoch := b.epoch, offset := b.offset, quality := b.quality }
    if p.armed && decide (p.queued + r.size ≤ frameMemory) then p'.enqueue { r := r } else p.loseBeats bs

/-- The live block ends (R371). -/
def flushLive (p : Potik) : Potik := ({ p with live := [] }).sendBeats 1 false p.live

/-- Beats of the ring that one record takes: of one epoch. -/
def sameEpoch : List PBeat → List PBeat
  | [] => []
  | b :: rest => b :: rest.takeWhile (fun x => x.epoch == b.epoch)

/-- The frozen ring sent, record by record; `fuel` bounds them. -/
def sendRing : Nat → List PBeat → Potik → Potik
  | 0, _, p => p
  | fuel + 1, bs, p =>
    if bs.isEmpty then p
    else
      let g := sameEpoch bs
      sendRing fuel (bs.drop g.length) (p.sendBeats 2 true g)

/-- The ring freezes and is sent (R141). -/
def freezeRing (p : Potik) : Potik :=
  let p := ({ p with post := none }).setFld F.PTK_TRC_CTRL_FROZEN 1
  sendRing (p.ring.length + 1) p.ring p

/-- Beats that the 64 KiB ring holds, 24 bytes each. -/
abbrev ringBeats : Nat := 2730

/-- A trace beat (R141). -/
def traceBeat (p : Potik) (source : Nat) (sync : Bool) (data : Bytes) : Potik :=
  let b : PBeat := { source := source, sync := sync, data := data, epoch := p.epoch, offset := p.stamp, quality := p.quality }
  match p.trcMode with
  | 1 =>
    let all := p.live ++ [b]
    if (blockBeats 4096 21842 TrcEntry.beat all.length [] (all.map PBeat.entry)).length = all.length then { p with live := all }
    else { p.flushLive with live := [b] }
  | 2 =>
    if p.flag F.PTK_TRC_CTRL_FROZEN then p
    else
      let all := p.ring ++ [b]
      let p := { p with ring := all.drop (all.length - ringBeats) }
      match p.post with
      | none => p
      | some n => if n ≤ 1 then p.freezeRing else { p with post := some (n - 1) }
  | _ => p

/-- A trigger (R142, R144). -/
def triggerTrace (p : Potik) : Potik :=
  match p.trcMode with
  | 1 => { p with hold := p.fld F.PTK_TRC_CTRL_TRIG_HOLD }
  | 2 =>
    if p.flag F.PTK_TRC_CTRL_FROZEN then { p with trigIgnored := p.trigIgnored + 1 }
    else if p.post.isSome then p
    else if p.fld F.PTK_TRC_CTRL_POST = 0 then p.freezeRing
    else { p with post := some (p.fld F.PTK_TRC_CTRL_POST) }
  | _ => p

/-- A record of the frozen ring is still queued. -/
def ringQueued (p : Potik) : Bool := (p.level 5).any (fun i => bytesAt i.r.body 0 1 % 4 == 2)

/-- The frozen ring has been sent: it resumes (R141). -/
def ringSent (p : Potik) : Potik :=
  if p.flag F.PTK_TRC_CTRL_FROZEN && !p.ringQueued then ({ p with ring := [], post := none }).setFld F.PTK_TRC_CTRL_FROZEN 0 else p

/-- MODE as it acts: 0b11 is off. -/
def traceModeOf (v : Nat) : Nat := if v % 4 = 3 then 0 else v % 4

/-- At a tick: the live block ends, a mode change takes effect and empties the ring, and the raised priority runs on (R141, R142, R144). -/
def traceTick (p : Potik) : Potik :=
  let p := { p.flushLive with hold := p.hold - 1 }
  let m := traceModeOf (p.fld F.PTK_TRC_CTRL_MODE)
  if m = p.trcMode then p else ({ p with trcMode := m, ring := [], post := none }).setFld F.PTK_TRC_CTRL_FROZEN 0

/-! ### Snapshot (R411) -/

/-- An item of Potik's snapshot. -/
def snapItem (p : Potik) (code : Nat) (payload : Bytes) : TrcEntry :=
  { source := 127, code := code, payload := payload, epoch := p.epoch, offset := p.stamp, quality := p.quality }

/-- The queue of a level as a snapshot shows it: raised Trace records stand in level 5. -/
def snapLevel (p : Potik) (l : Nat) : List PItem := if l = 5 then p.level 6 ++ p.level 5 else p.level l

/-- The SHAPER item of a level. -/
def shaperItem (p : Potik) (l : Nat) : TrcEntry :=
  let q := p.snapLevel l
  let bucket : Int := ((p.bucketDepth : Int) - (p.deficit : Int)) / 8000
  p.snapItem 0x21 (le 1 l ++ zeros 1 ++ le 4 ((q.map (fun i => i.r.size)).sum) ++ le 1 ((q.head?.map (fun i => i.r.type)).getD 0) ++
    le 4 ((q.head?.map (fun i => i.r.seq)).getD 0) ++ le 3 (toField 24 (clampSigned 24 bucket)))

/-- The requested snapshot is latched at s0 and sent (R411): `beats` are the beats since the eop of each lane, `waits` the four words of
ptk_tst_wait, then the ns that a test has run, the bytes a tile has received, and the µs each re-digest has been held. -/
def snapshot (p : Potik) (beats waits : List Nat) (testNs tileBytes : Nat) (held : List Nat) : Potik :=
  if !p.armed || !p.flag F.PTK_SNAP_CTRL_REQ || decide (p.epoch < p.fld F.PTK_SNAP_CTRL_EPOCH) then p
  else
    let missed := decide (p.fld F.PTK_SNAP_CTRL_EPOCH < p.epoch)
    let p := p.setFld F.PTK_SNAP_CTRL_REQ 0
    let p := if missed then p.setFld F.PTK_SNAP_CTRL_MISSED 1 else p
    let lanes := (List.range p.params.csLanes).map (fun l =>
      let x := p.lanes.get (fun _ => (0, 0)) l
      p.snapItem 0x22 (le 1 l ++ zeros 1 ++ le 2 x.1 ++ le 4 x.2 ++ le 4 (beats.getD l 0)))
    let words := (List.range 4).map (fun w => p.snapItem 0x23 (le 1 w ++ zeros 1 ++ le 8 (waits.getD w 0)))
    let test := p.snapItem 0x24 (le 1 (p.fld F.PTK_TST_STATUS_RUNNING) ++ le 1 (p.fld F.PTK_TST_STATUS_CORE) ++ le 1 (p.fld F.PTK_TST_STATUS_SLOT) ++
      zeros 1 ++ le 4 testNs)
    let tile := p.snapItem 0x25 (le 1 (b2n p.tile.isSome) ++ zeros 1 ++ le 4 tileBytes ++ le 4 ((p.tile.map (fun t => t.bytes)).getD 0))
    let reds := (p.redigests.zipIdx).map (fun e => p.snapItem 0x26 (le 1 e.2 ++ zeros 1 ++ le 2 e.1.round ++ le 4 e.1.seq ++ le 4 (held.getD e.2 0)))
    let state := p.snapItem 0x27 (le 1 p.servo.st ++ le 1 (p.fld F.PTK_CEN_STATUS_SWEEPING) ++ le 6 p.epoch)
    let es := (List.range 6).map p.shaperItem ++ lanes ++ words ++ [test, tile] ++ reds ++ [state]
    let raw := (es.map TrcEntry.item).flatten
    let coded := bit (p.fld F.PTK_COD_CFG_TYPES) 6
    let body := if coded then traceBody 3 false p.stamp p.stamp es.length raw
      else le 1 3 ++ zeros 3 ++ le 4 es.length ++ le 4 p.stamp ++ le 4 p.stamp ++ raw
    let (r, p) := p.mkRec 0x06 0 body
    p.enqueue { r := { r with comp := if coded then traceComp body else 0 }, raised := true }

end Potik

/-- WS_BEAT_ARRIVAL (R126). -/
def execWsBeatArrival (die : Nat) (b : WBeat) (vf : Vf) (now : Int) (s : State) : Host.Outcome State Fault Refusal :=
  s.run (fun s => s.onPtk die (fun p => ((p.atTime now).withVf vf).wsArrive b))

/-- WS_BEAT (R127). -/
def execWsBeat (die : Nat) (s : State) : Host.Outcome State Fault Refusal := s.run (fun s => s.onPtk die (fun p => p.wsBeat))

/-- TILE_OFFER (R131). -/
def execTileOffer (die desc id unit bytes : Nat) (vf : Vf) (now : Int) (s : State) : Host.Outcome State Fault Refusal :=
  s.run (fun s => s.onPtk die (fun p => ((p.atTime now).withVf vf).tileOffer desc id unit bytes))

/-- TILE_STREAM_END (R133). -/
def execTileStreamEnd (die : Nat) (data : Bytes) (poison : Bool) (s : State) : Host.Outcome State Fault Refusal :=
  s.run (fun s => s.onPtk die (fun p => p.tileEnd data poison))

/-- CS_CHUNK_END (R136). -/
def execCsChunkEnd (die lane round seq : Nat) (payload : Bytes) (retain poison : Bool) (s : State) : Host.Outcome State Fault Refusal :=
  s.run (fun s => s.onPtk die (fun p => p.chunkEnd lane round seq payload retain poison))

/-- REDIGEST_REQUEST (R137). -/
def execRedigestRequest (die value : Nat) (vf : Vf) (now : Int) (s : State) : Host.Outcome State Fault Refusal :=
  s.run (fun s => s.draw.2.onPtk die (fun p => ((p.atTime now).withVf vf).redigestRequest s.draw.1 value))

/-- REDIGEST_ANSWER (R137). -/
def execRedigestAnswer (die : Nat) (payload : Option Bytes) (now : Int) (s : State) : Host.Outcome State Fault Refusal :=
  s.run (fun s => s.draw.2.onPtk die (fun p => (p.atTime now).redigestDone s.draw.1 (some payload)))

/-- REDIGEST_TIMEOUT (R137). -/
def execRedigestTimeout (die : Nat) (now : Int) (s : State) : Host.Outcome State Fault Refusal :=
  s.run (fun s => s.draw.2.onPtk die (fun p => (p.atTime now).redigestDone s.draw.1 none))

/-- TEST_WAIT_RISE (R139). -/
def execTestWaitRise (die core : Nat) (vf : Vf) (now : Int) (s : State) : Host.Outcome State Fault Refusal :=
  s.run (fun s => s.onPtk die (fun p => ((p.atTime now).withVf vf).waitRise core))

/-- TEST_WAIT_FALL (R140). -/
def execTestWaitFall (die core sig : Nat) (now : Int) (s : State) : Host.Outcome State Fault Refusal :=
  s.run (fun s => s.onPtk die (fun p => (p.atTime now).waitFall core sig))

/-- TEST_DONE (R140). -/
def execTestDone (die : Nat) (pass : Bool) (sig : Nat) (now : Int) (s : State) : Host.Outcome State Fault Refusal :=
  s.run (fun s => s.onPtk die (fun p => (p.atTime now).testDone pass sig))

/-- TEST_NO_ANSWER (R140). -/
def execTestNoAnswer (die sig : Nat) (now : Int) (s : State) : Host.Outcome State Fault Refusal :=
  s.run (fun s => s.onPtk die (fun p => (p.atTime now).testNoAnswer sig))

/-- TRACE_BEAT (R141). -/
def execTraceBeat (die source : Nat) (sync : Bool) (data : Bytes) (now : Int) (s : State) : Host.Outcome State Fault Refusal :=
  s.run (fun s => s.onPtk die (fun p => (p.atTime now).traceBeat source sync data))

/-- PTK_TRACE_TRIGGER (R142). -/
def execPtkTraceTrigger (die : Nat) (s : State) : Host.Outcome State Fault Refusal := s.run (fun s => s.onPtk die (fun p => p.triggerTrace))

/-- PTK_RING_SENT (R141). -/
def execPtkRingSent (die : Nat) (s : State) : Host.Outcome State Fault Refusal := s.run (fun s => s.onPtk die (fun p => p.ringSent))

/-- PTK_RECORD_ENQUEUE (R145). -/
def execPtkRecordEnqueue (die : Nat) (r : Rec) (s : State) : Host.Outcome State Fault Refusal :=
  s.run (fun s => s.onPtk die (fun p => if p.armed then p.enqueue { r := r } else p))

/-- PTK_FRAME_START (R145). -/
def execPtkFrameStart (die dt : Nat) (s : State) : Host.Outcome State Fault Refusal := s.run (fun s => s.onPtk die (fun p => p.frameStart dt))

/-- PTK_SNAPSHOT (R411). -/
def execPtkSnapshot (die : Nat) (s0 : Int) (beats waits : List Nat) (testNs tileBytes : Nat) (held : List Nat) (s : State) :
    Host.Outcome State Fault Refusal :=
  s.run (fun s => s.onPtk die (fun p => (p.atTime s0).snapshot beats waits testNs tileBytes held))

/-- LIVE_FLUSH (R371): an explicit flush of a live coder. -/
def execLiveFlush (coder : LiveCoder) (s : State) : Host.Outcome State Fault Refusal :=
  s.run (fun s => match coder with
    | .potik die => s.onPtk die (fun p => p.flushLive)
    | c => s.flushCoder c)

end Sys2Proof.Machine
end

