-- ==== Sys2Proof/Machine/PotikControl.lean ====
section
/-! DEFINITION. Potik's register window (R119, R498), Control requests (R163, R164), identity, arming and reset (R482, R483, R490, R491). -/

namespace Sys2Proof.Machine
namespace Potik

/-! ### The window (R119, R497, R498) -/

/-- The row of an offset in the window: its registers, or a counter group's. -/
def row (p : Potik) (off : Nat) : Option RegRow :=
  if off < 0x1000 then findRow potikRows off
  else if off < 0x1000 + p.params.groups * 0x100 then findRow groupRows off
  else none

/-- The selected entry is defined (R497). -/
def entryDefined (p : Potik) (off idx : Nat) : Bool :=
  if off = 0x108 then decide (idx < p.params.domains)
  else if off = 0x218 then p.wiredUnit (idx / 16)
  else if off = 0x508 ∨ off = 0x510 then decide (idx < p.params.sensors)
  else if off = 0x7D0 then (idx % 4 == 0 && decide (idx / 4 < 6)) || ((idx % 4 == 1 || idx % 4 == 2) && decide (idx / 4 < 12))
  else true

/-- Census counters whose OVF is set. -/
def ovfCount (p : Potik) : Nat :=
  (p.regs.filter (fun e => e.1 % 0x4000000 == 0x218 && getBits e.2 32 1 == 1)).length

/-- The register at `off`, entry address `a`, with the fields that follow the integration parameters and the live state. -/
def view (p : Potik) (off a idx : Nat) : Word :=
  let w := p.reg a
  let ps := p.params
  if off = 0x0 then
    BitVec.ofNat 64 (ps.units % 4096 + b2n ps.dieUnit * 2 ^ 12 + ps.groups * 2 ^ 16 + ps.sensors * 2 ^ 24 + ps.domains * 2 ^ 33 + ps.retPorts * 2 ^ 40 +
      ps.version * 2 ^ 48)
  else if off = 0x208 then setBits w 32 16 p.ovfCount
  else if off = 0x218 then
    setBits (setBits (setBits w 33 1 (b2n (p.wired (idx / 16) (idx % 16)))) 34 6 (p.unitDomain (idx / 16))) 40 1 (b2n (p.halted (p.unitDomain (idx / 16))))
  else if off = 0x308 then setBits (setBits w 0 13 p.samples.length) 13 1 (b2n (p.samples.length == 4096))
  else if off = 0x310 then p.sampleRead.1
  else if off = 0x600 then
    BitVec.ofNat 64 (ps.csLanes + ps.testCores * 2 ^ 4 + ps.abortNs * 2 ^ 16 + ps.wsDomain * 2 ^ 33 + ps.csDomain * 2 ^ 39 + ps.tileDomain * 2 ^ 45)
  else if off = 0x628 then setBits w 0 16 (p.tag none)
  else if off = 0x6C0 then setBits w 32 3 p.redigests.length
  else if off = 0x788 then setBits w 0 19 p.queued
  else if 0x1000 ≤ off ∧ off % 0x100 = 0 then
    let g := (off - 0x1000) / 0x100
    BitVec.ofNat 64 (p.groupDomain g + (match p.groupPort g with | some x => x | none => 31) * 2 ^ 8)
  else if 0x1000 ≤ off ∧ off % 0x100 = 8 then setBits w 16 1 (b2n (p.halted (p.groupDomain ((off - 0x1000) / 0x100))))
  else w

/-- What a read returns, without its side effects. -/
def peek (p : Potik) (off : Nat) : Word :=
  match p.row off with
  | none => 0
  | some r =>
    let i := r.index p.reg
    if p.entryDefined off i then readReg r.flds (p.view off (entryAddr off i) i) else 0

/-- PTK_ID_INDEX advances (R483, R497). -/
def nextIdWord (p : Potik) : Potik := p.setFld F.PTK_ID_INDEX_WORD (p.fld F.PTK_ID_INDEX_WORD + 1)

/-- The side effects of a read: RC fields clear, and the sampler and the identity index move on. -/
def touch (p : Potik) (off : Nat) : Potik :=
  if off = 0x310 then p.sampleRead.2
  else if off = 0x7D0 then p.nextIdWord
  else match p.row off with
    | none => p
    | some r =>
      let i := r.index p.reg
      if p.entryDefined off i then p.setReg (entryAddr off i) (afterRead r.flds (p.reg (entryAddr off i))) else p

/-- An offset of a programmable counter, select or RELOAD register: its group and counter (R111). -/
def counterOf (p : Potik) (off : Nat) : Option (Nat × Nat) :=
  let g := (off - 0x1000) / 0x100
  let o := off % 0x100
  if off < 0x1000 ∨ p.params.groups ≤ g then none
  else if 0x18 ≤ o ∧ o < 0x58 then some (g, (o - 0x18) / 8)
  else if 0x58 ≤ o ∧ o < 0x98 then some (g, (o - 0x58) / 8)
  else if 0x98 ≤ o ∧ o < 0xD8 then some (g, (o - 0x98) / 8)
  else none

/-- A register stored by its access codes. -/
def store (p : Potik) (off : Nat) (h : Half) (v : Word) : Potik :=
  match p.row off with
  | none => p
  | some r =>
    let i := r.index p.reg
    if p.entryDefined off i then p.setReg (entryAddr off i) (writeHalf h r.flds (p.reg (entryAddr off i)) v) else p

/-- A counter, select or RELOAD register written (R111): discarded with WR_DROP while its domain is stopped. -/
def counterWrite (p : Potik) (off g k : Nat) (h : Half) (v : Word) : Potik :=
  if p.halted (p.groupDomain g) then p.setStatusBit F.PTK_PG_STATUS_WR_DROP g k else p.store off h v

/-- PTK_TILE_CFG written; a write of SEED reseeds the LFSR (R132). -/
def tileCfgWrite (p : Potik) (h : Half) (v : Word) : Potik :=
  let p := p.store 0x680 h v
  if h = some false then p else { p with lfsr := lfsrSeed (getBits v 32 32) }

/-- PTK_TST_SLOT_DESC written: PACKAGE 0 empties the slot and clears its due bits. -/
def slotWrite (p : Potik) (h : Half) (v : Word) : Potik :=
  let p := p.store 0x710 h v
  let k := p.fld F.PTK_TST_SLOT_INDEX_SLOT
  if p.fld (F.PTK_TST_SLOT_DESC_PACKAGE.at k) = 0 then
    [0, 1, 2, 3].foldl (fun p n => p.setReg (0x718 + 8 * n + k * 0x4000000) 0) (p.setReg (entryAddr 0x710 k) 0)
  else p

/-- PTK_ID_DATA written (R483): buffer 0 alone is writable. -/
def idWrite (p : Potik) (h : Half) (v : Word) : Potik :=
  (if p.fld F.PTK_ID_INDEX_BUF = 0 then p.store 0x7D0 h v else p).nextIdWord

/-- SIGN (R483). -/
def sign (p : Potik) : Potik :=
  let p := (p.setFld F.PTK_ID_CTRL_DONE 0).setFld F.PTK_ID_CTRL_FAIL 0
  if p.flag F.PTK_IDENT_KEY_LOADED then { p with signing := true } else ({ p with signing := false }).setFld F.PTK_ID_CTRL_FAIL 1

/-- An identity buffer of `n` words as bytes. -/
def idBuffer (p : Potik) (b n : Nat) : Bytes := ((List.range n).map (fun w => le 8 (p.reg (entryAddr 0x7D0 (b + 4 * w))).toNat)).flatten

/-- An identity buffer filled. -/
def setIdBuffer (p : Potik) (b n : Nat) (bs : Bytes) : Potik :=
  (List.range n).foldl (fun p w => p.setReg (entryAddr 0x7D0 (b + 4 * w)) (BitVec.ofNat 64 (bytesAt bs (8 * w) 8))) p

/-- The signature is ready (R483), or the key has been erased meanwhile (R490). -/
def signDone (p : Potik) : Potik :=
  if !p.signing then p
  else
    let p := { p with signing := false }
    match p.flag F.PTK_IDENT_KEY_LOADED, p.ident with
    | true, some (eui, pub) =>
      (p.setIdBuffer 1 12 (Config.ecdsaSign pub (Config.sha384 (p.idBuffer 0 6 ++ le 8 eui ++ le 4 p.addr)))).setFld F.PTK_ID_CTRL_DONE 1
    | _, _ => p.setFld F.PTK_ID_CTRL_FAIL 1

/-- A write to the register at `off`, of the whole or of a half. -/
def write (p : Potik) (free : Word) (off : Nat) (h : Half) (v : Word) : Potik :=
  match p.counterOf off with
  | some (g, k) => p.counterWrite off g k h v
  | none =>
    if off = 0x680 then p.tileCfgWrite h v
    else if off = 0x6C8 then p.redigestRequest free v.toNat
    else if off = 0x710 then p.slotWrite h v
    else if off = 0x740 then
      let p := p.store off h v
      if getBits v 2 1 = 1 ∧ h ≠ some true then p.triggerTrace else p
    else if off = 0x7D0 then p.idWrite h v
    else if off = 0x7D8 then (if getBits v 0 1 = 1 ∧ h ≠ some true then p.sign else p)
    else p.store off h v

/-- A counter or RELOAD register: a 32-bit write of its low half is held (R119). -/
def holdsLow (p : Potik) (off : Nat) : Bool :=
  (p.counterOf off).isSome && !(decide (0x58 ≤ off % 0x100) && decide (off % 0x100 < 0x98))

/-- A 64-bit or 32-bit write in die space (R9, R119). -/
def access (p : Potik) (free : Word) (off bytes : Nat) (v : Nat) : Potik :=
  let a := off / 8 * 8
  if bytes = 8 then p.write free a none (BitVec.ofNat 64 v)
  else if off % 8 = 0 then
    if p.holdsLow a then { p with lowHeld := p.lowHeld.put none' a (some (v % 2 ^ 32)) }
    else p.write free a (some false) (BitVec.ofNat 64 (v % 2 ^ 32))
  else if p.holdsLow a then
    let lo := (p.lowHeld.get none' a).getD (getBits (p.reg a) 0 32)
    ({ p with lowHeld := p.lowHeld.put none' a none }).write free a none (BitVec.ofNat 64 (lo + v % 2 ^ 32 * 2 ^ 32))
  else p.write free a (some true) (BitVec.ofNat 64 (v % 2 ^ 32 * 2 ^ 32))

/-- A 64-bit or 32-bit read in die space (R9, R119): a read of the low half latches the high half, which a read of the high half returns. -/
def read (p : Potik) (off bytes : Nat) : Nat × Potik :=
  let a := off / 8 * 8
  if bytes = 8 then ((p.peek a).toNat, p.touch a)
  else if off % 8 = 0 then
    let w := (p.peek a).toNat
    (w % 2 ^ 32, { p.touch a with latched := p.latched.put zero a (w / 2 ^ 32) })
  else (p.latched.get zero a, p)

/-! ### Control requests (R163, R164) -/

/-- A Control response (R164): numbered from the record counter by an armed Potik, with SEQ 0 by an unarmed one. -/
def respond (p : Potik) (q : PReq) (op count status : Nat) (values : List Nat) : Potik :=
  let (r, p') := p.mkRec 0x0D 0 (le 1 op ++ le 1 count ++ le 2 q.tag ++ le 1 status ++ zeros 3 ++ (values.map (le 8)).flatten)
  let (r, p) := if p.armed then (r, p') else ({ r with seq := 0 }, p)
  let p := if status = 2 then p else { p with answered := ((q.tag, r) :: p.answered).take 8 }
  if p.armed then p.enqueue { r := r } else p.enqueue { r := r, etherType := some q.etherType, dest := some q.smac }

/-- A stored response sent again. -/
def resend (p : Potik) (q : PReq) (r : Rec) : Potik :=
  if p.armed then p.enqueue { r := r } else p.enqueue { r := r, etherType := some q.etherType, dest := some q.smac }

end Potik

/-- The entries of a register batch. -/
def batchEntries (n : Nat) (b : Bytes) : List CtrlEntry :=
  (List.range n).map (fun i => { offset := bytesAt b (8 + 16 * i) 2, write := bit (bytesAt b (10 + 16 * i) 1) 0, value := bytesAt b (16 + 16 * i) 8 })

namespace Potik

/-- Next byte expected of a slot's package body: parts passed on and parts held. -/
def nextPart (p : Potik) (slot : Nat) : Nat :=
  p.held.foldl (fun n q => match q.body with
    | .part k last off bs => if k = slot then (if last then 0 else off + bs.length) else n
    | _ => n) (p.loaded.get zero slot)

/-- A request that has passed the checks of R163 is held, or answered at once (R164). -/
def takeRequest (p : Potik) (q : PReq) (op count : Nat) (values : List Nat) : Potik :=
  match p.answered.find? (fun e => e.1 == q.tag) with
  | some e => p.resend q e.2
  | none =>
    if 4 ≤ p.held.length then p.respond q op count 2 values
    else match q.body with
      | .batch _ => { p with held := p.held ++ [q] }
      | .part slot _ off _ =>
        if (match p.test with | some t => t.slot == slot | none => false) || off != p.nextPart slot then p.respond q 2 0 3 []
        else { p with held := p.held ++ [q] }

/-- A frame with a Control request (R163): its EtherType, source address and payload. -/
def controlRequest (p : Potik) (etherType smac : Nat) (frame : Bytes) : Potik :=
  let b := frame.drop 16
  let n := bytesAt b 4 2 * 8
  let b := if n < 32 then b else b.take n
  let r := Rec.parse b
  let op := bytesAt r.body 0 1
  let count := bytesAt r.body 1 1 % 128
  let part := r.body.drop 16
  let q : PReq := { tag := bytesAt r.body 2 2, etherType := etherType, smac := smac, body :=
    if op = 2 then .part (bytesAt r.body 4 1 % 16) (bit (bytesAt r.body 1 1) 7) (bytesAt r.body 8 4) part else .batch (batchEntries count r.body) }
  if frame.length < 16 || (crc32c (frame.take 12)).toNat != bytesAt frame 12 4 || bytesAt frame 0 1 % 16 != 1 || bytesAt frame 1 1 % 4 != 3 ||
     (p.armed && etherType != p.fld F.PTK_REC_CFG_ETHERTYPE) || recReason b false != 0 || r.type != 0x0C then p
  else if op = 1 then
    if count = 0 ∨ 64 < count ∨ r.body.length ≠ 8 + 16 * count then p else p.takeRequest q 1 count (List.replicate count 0)
  else if op = 2 then
    if count ≠ 0 ∨ part.length = 0 ∨ part.length % 64 ≠ 0 ∨ 1408 < part.length then p else p.takeRequest q 2 0 []
  else match p.answered.find? (fun e => e.1 == q.tag) with
    | some e => p.resend q e.2
    | none => p.respond q op count (if 4 ≤ p.held.length then 2 else 4) []

/-- The entries of a batch in order: the values of the response, whether every offset was a multiple of 8, and the Potik after them (R164). -/
def runBatch (free : Nat → Word) : Nat → List CtrlEntry → Potik → List Nat × Bool × Potik
  | _, [], p => ([], true, p)
  | i, e :: es, p =>
    if e.offset % 8 ≠ 0 then (List.replicate (es.length + 1) 0, false, p)
    else
      let (v, p) :=
        if e.write then
          let before := p.fld F.PTK_ID_INDEX_WORD
          let p := p.write (free i) e.offset none (BitVec.ofNat 64 e.value)
          let seen := if e.offset = 0x7D0 then p.setFld F.PTK_ID_INDEX_WORD before else p
          ((seen.peek e.offset).toNat, p)
        else ((p.peek e.offset).toNat, p.touch e.offset)
      let r := runBatch free (i + 1) es p
      (v :: r.1, r.2)

/-- The oldest held request, a register batch, executed and answered (R164). -/
def registerBatch (p : Potik) (free : Nat → Word) : Potik :=
  match p.held with
  | q :: rest =>
    match q.body with
    | .batch es =>
      let (vs, ok, p) := runBatch free 0 es { p with held := rest }
      p.respond q 1 es.length (if ok then 0 else 1) vs
    | _ => p
  | [] => p

/-- The oldest held request, package data, passed to the load channel and answered (R164). -/
def packageData (p : Potik) : Potik :=
  match p.held with
  | q :: rest =>
    match q.body with
    | .part slot last off bs =>
      let p := { p with held := rest, loaded := p.loaded.put zero slot (if last then 0 else off + bs.length) }
      (p.emit (.packageData p.die slot last bs)).respond q 2 0 0 []
    | _ => p
  | [] => p

/-! ### Identity and reset (R482, R490, R491) -/

/-- ptk_tamper_n falls (R146, R490): the working key is erased. -/
def tamper (p : Potik) : Potik := (p.setFld F.PTK_IDENT_TAMPER 1).setFld F.PTK_IDENT_KEY_LOADED 0

/-- The usable copy of the identity generation (R485, R491). -/
def usableCopy (a b : PIdCopy) : Option (Nat × Bytes) :=
  if a.intact && b.intact then (if a.eui = b.eui ∧ a.publicKey = b.publicKey then some (a.eui, a.publicKey) else none)
  else if a.intact then some (a.eui, a.publicKey)
  else if b.intact then some (b.eui, b.publicKey)
  else none

/-- ptk_rst_n released (R482, R491): the identity field is read; the key is loaded unless ptk_tamper_n is low. -/
def release (p : Potik) (a b : PIdCopy) (tamperHigh : Bool) : Potik :=
  let p := { atReset p.params p.addr with ident := usableCopy a b }
  match p.ident with
  | some (_, pub) => (p.setIdBuffer 2 12 pub).setFld F.PTK_IDENT_KEY_LOADED (b2n tamperHigh)
  | none => p

end Potik

namespace State

/-- The free values that the next draws give, and the state after `n` of them. -/
def draws (s : State) (n : Nat) : (Nat → Word) × State := (fun i => Config.freeValue (s.fresh + i), { s with fresh := s.fresh + n })

/-- Potik of die slot `d` replaced, in reset or not. -/
def setPtk (s : State) (d : Nat) (p : Potik) : State := { s with potiks := s.potiks.put (fun _ => Potik.fresh) d p }

/-- ptk_rst_n falls (R482): everything in the Potik is lost. -/
def ptkReset (s : State) (d : Nat) : State := s.setPtk d { Potik.atReset (s.ptk d).params (s.dieAddr d) with inReset := true }

/-- ptk_rst_n rises. -/
def ptkRelease (s : State) (d : Nat) (a b : PIdCopy) (tamperHigh : Bool) : State :=
  s.setPtk d (({ s.ptk d with addr := s.dieAddr d, inReset := false }).release a b tamperHigh)

/-- Requests answered by a batch: at most 64 entries draw free values. -/
def ptkBatch (s : State) (d : Nat) : State :=
  let (free, s) := s.draws 64
  s.onPtk d (fun p => p.registerBatch free)

end State

/-- CONTROL_REQUEST (R163). -/
def execControlRequest (die etherType smac : Nat) (frame : Bytes) (now : Int) (s : State) : Host.Outcome State Fault Refusal :=
  s.run (fun s => s.onPtk die (fun p => (p.atTime now).controlRequest etherType smac frame))

/-- REGISTER_BATCH (R164). -/
def execRegisterBatch (die : Nat) (now : Int) (s : State) : Host.Outcome State Fault Refusal :=
  s.run (fun s => (s.onPtk die (fun p => p.atTime now)).ptkBatch die)

/-- PACKAGE_DATA (R164). -/
def execPackageData (die : Nat) (now : Int) (s : State) : Host.Outcome State Fault Refusal :=
  s.run (fun s => s.onPtk die (fun p => (p.atTime now).packageData))

/-- PTK_COUNTER_WRITE (R111). -/
def execPtkCounterWrite (die off value : Nat) (s : State) : Host.Outcome State Fault Refusal :=
  s.run (fun s => s.onPtk die (fun p => match p.counterOf off with
    | some (g, k) => p.counterWrite off g k none (BitVec.ofNat 64 value)
    | none => p))

/-- TILE_SEED_WRITE (R132). -/
def execTileSeedWrite (die value : Nat) (s : State) : Host.Outcome State Fault Refusal :=
  s.run (fun s => s.onPtk die (fun p => p.tileCfgWrite none (BitVec.ofNat 64 value)))

/-- SMP_READ (R116). -/
def execSmpRead (die : Nat) (s : State) : Host.Outcome State Fault Refusal :=
  s.run (fun s => s.onPtk die (fun p => p.sampleRead.2.emit (.dieResp p.die p.sampleRead.1.toNat)))

/-- PTK_ARM_WRITE (R483): ARM acts at the next tick. -/
def execPtkArmWrite (die value : Nat) (s : State) : Host.Outcome State Fault Refusal :=
  s.run (fun s => s.onPtk die (fun p => p.store 0x80 none (BitVec.ofNat 64 value)))

/-- PTK_SIGN (R483). -/
def execPtkSign (die : Nat) (s : State) : Host.Outcome State Fault Refusal := s.run (fun s => s.onPtk die (fun p => p.sign))

/-- PTK_SIGN_DONE (R483). -/
def execPtkSignDone (die : Nat) (s : State) : Host.Outcome State Fault Refusal := s.run (fun s => s.onPtk die (fun p => p.signDone))

/-- PTK_TAMPER (R146). -/
def execPtkTamper (die : Nat) (s : State) : Host.Outcome State Fault Refusal := s.run (fun s => s.onPtk die (fun p => p.tamper))

/-- PTK_RESET (R482). -/
def execPtkReset (die : Nat) (s : State) : Host.Outcome State Fault Refusal := s.run (fun s => s.ptkReset die)

/-- PTK_RESET_RELEASE (R482). -/
def execPtkResetRelease (die : Nat) (a b : PIdCopy) (tamperHigh : Bool) (s : State) : Host.Outcome State Fault Refusal :=
  s.run (fun s => s.ptkRelease die a b tamperHigh)

end Sys2Proof.Machine
end

