-- ==== Sys2Proof/Machine/Evidence.lean ====
section
/-! DEFINITION. Integrity evidence (12, 13): trials and failures per die and stratum, and failing outcomes on their way to VRD. -/

namespace Sys2Proof.Machine
namespace State

/-- EVID_MIN, 0 treated as 1. -/
def evidMin (s : State) : Nat := max 1 (s.fld F.VRD_EVID_EVID_MIN)

/-- Trials and failures counted for a die in a stratum in the open epoch (R305, R342). -/
def addEvid (s : State) (die stratum trials fails : Nat) : State :=
  let hit := fun (e : Evid) => e.die == die && e.stratum == stratum && e.epoch == s.epoch
  let l := if s.vrd.evid.any hit then
      s.vrd.evid.map (fun e => if hit e then { e with trials := e.trials + trials, fails := e.fails + fails } else e)
    else s.vrd.evid ++ [{ die := die, stratum := stratum, epoch := s.epoch, trials := trials, fails := fails }]
  { s with vrd := { s.vrd with evid := l } }

/-- Entries older than EVID_WINDOW dropped. -/
def pruneEvid (s : State) : State :=
  let w := s.fld F.VRD_EVID_EVID_WINDOW
  { s with vrd := { s.vrd with evid := s.vrd.evid.filter (fun e => decide (s.epoch < e.epoch + w)) } }

/-- Failures of a die in a stratum within the window (R305). -/
def failsIn (s : State) (die stratum : Nat) : Nat :=
  ((s.vrd.evid.filter (fun e => e.die == die && e.stratum == stratum && decide (s.epoch < e.epoch + s.fld F.VRD_EVID_EVID_WINDOW))).map
    (fun e => e.fails)).sum

/-- Trials of a die in a stratum within the window (R342). -/
def trialsIn (s : State) (die stratum : Nat) : Nat :=
  ((s.vrd.evid.filter (fun e => e.die == die && e.stratum == stratum && decide (s.epoch < e.epoch + s.fld F.VRD_EVID_EVID_WINDOW))).map
    (fun e => e.trials)).sum

/-- Strata of a die with a failure in the window, ascending. -/
def failStrata (s : State) (die : Nat) : List Nat := (List.range 1024).filter (fun x => decide (0 < s.failsIn die x))

/-- The stratum of a context tag (R121). -/
def stratumOf (ctx : Nat) : Nat := ctx % 1024

/-- VRD counts a failing outcome that island `src` reports (R305, R333): WEIGHT_MINORITY adds EVID_MIN failures, every other kind its COUNT. A fenced
VRD receives nothing (R54). -/
def countOutcome (s : State) (src kind die count ctx : Nat) : State :=
  if !s.works 7 then s.routeDrop src 7 6 0
  else s.addEvid die (stratumOf ctx) 0 (if kind = 3 then s.evidMin else count)

/-- A trial that the dispatcher counts (R341). -/
def countTrial (s : State) (die ctx : Nat) : State :=
  let s := s.incFld F.STW_REPLAY_CNT_REPLAYED
  if !s.works 7 then s.routeDrop 14 7 6 0 else s.addEvid die (stratumOf ctx) 1 0

/-- PARAM of an INTEGRITY_OUTCOME Event (R332). -/
def outcomeParam (kind ctx ord replica : Nat) : Bytes := le 1 kind ++ zeros 1 ++ le 2 ctx ++ le 4 ord ++ le 2 replica ++ zeros 2

/-- A failing outcome found at this block (R333): the Event exported, and counted here or sent to the node aggregator of the die. -/
def failingOutcome (s : State) (src kind die count ctx ord replica : Nat) : State :=
  let p := outcomeParam kind ctx ord replica
  let node := nodeAddr (die / 2 ^ 24) (die / 2 ^ 18 % 64)
  if node = s.myNode then (s.event 14 0x8002 die count p).countOutcome src kind die count ctx
  else s.sendTo 14 [node] 0x0A 10 s.myNode 0 (eventBody 0x8002 die count p)

end State

end Sys2Proof.Machine
end

