-- ==== Sys2Proof/Machine/Narrow.lean ====
section
/-! DEFINITION. Narrow arithmetic (10): blocks and their elements, block integers and exact groups, the accumulation models, and the quantiser. -/

namespace Sys2Proof.Machine

/-! ### Formats (R249 to R255) -/

/-- An MX format or TRN2: elements with a block scale. -/
def isMx (fmt : Nat) : Bool := 2 ≤ fmt && fmt ≤ 5

/-- Trit `i` of a TRN2 block, as a digit 0 to 2 (R252). -/
def tritDigit (data : Bytes) (i : Nat) : Nat := bytesAt data (i / 5) 1 / 3 ^ (i % 5) % 3

/-- A TRN2 format error (R255): a byte above 242, or a padding trit other than 0. -/
def trn2Bad (data : Bytes) : Bool :=
  (List.range 7).any (fun j => decide (242 < bytesAt data j 1)) || [32, 33, 34].any (fun i => tritDigit data i != 1)

/-- The E8M0 scale of a block; 127 for formats without one. -/
def Blk.e8m0 (b : Blk) : Nat := if b.fmt = 5 then bytesAt b.data 7 1 else if isMx b.fmt then b.scale else 127

/-- A format error of the block (R255). -/
def Blk.bad (b : Blk) : Bool := b.fmt == 5 && trn2Bad b.data

/-- A value with a significand and exponent field, 0 when the field is 0 and subnormals are flushed (R274, FTZ). -/
def flushed (ftz : Bool) (expField : Nat) (v : Fp) : Fp :=
  match v with
  | .fin neg m e => if ftz && expField == 0 then .fin neg 0 e else .fin neg m e
  | v => v

/-- Element `i` of a block without its scale. -/
def Blk.elem (ftz : Bool) (b : Blk) (i : Nat) : Fp :=
  match b.fmt with
  | 0 => let x := bytesAt b.data (4 * i) 4; flushed ftz (x / 2 ^ 23 % 256) (decodeIeee 8 23 x)
  | 1 => let x := bytesAt b.data (2 * i) 2; flushed ftz (x / 2 ^ 7 % 256) (decodeIeee 8 7 x)
  | 2 => let x := bytesAt b.data i 1; flushed ftz (x / 8 % 16) (decodeE4m3 x)
  | 3 => let x := bytesAt b.data i 1; flushed ftz (x / 4 % 32) (decodeIeee 5 2 x)
  | 4 => let x := bytesAt b.data (i / 2) 1 / 16 ^ (i % 2) % 16; flushed ftz (x / 2 % 4) (decodeE2m1 x)
  | _ => let t := tritDigit b.data i; .fin (t == 0) (if t = 1 then 0 else 1) 0

/-- The 32 elements of a block, all NaN under a NaN scale or a format error (R251, R255). -/
def Blk.elems (ftz : Bool) (b : Blk) : List Fp :=
  if (isMx b.fmt && b.e8m0 == 255) || b.bad then List.replicate 32 .nan
  else (List.range 32).map (b.elem ftz)

/-- The scale's exponent. -/
def Blk.exp (b : Blk) : Int := (b.e8m0 : Int) - 127

/-- The exponent of a format's unit (R256). -/
def unitExp (fmt : Nat) : Int := match fmt with | 2 => -9 | 3 => -16 | 4 => -1 | _ => 0

/-- W of R257: the width of R256 less the sign bit. -/
def pairWidth (fa fb : Nat) : Nat :=
  match fa, fb with
  | 5, 4 => 9 | 4, 5 => 9
  | 4, 4 => 13
  | 5, 2 => 23 | 2, 5 => 23
  | 4, 2 => 27 | 2, 4 => 27
  | 5, 3 => 37 | 3, 5 => 37
  | 2, 2 => 41
  | 4, 3 => 41 | 3, 4 => 41
  | 2, 3 => 55 | 3, 2 => 55
  | 3, 3 => 69
  | _, _ => 16

/-! ### Exact values -/

/-- A product of two elements (R259). -/
def mulFp (a b : Fp) : Fp :=
  match a, b with
  | .nan, _ => .nan
  | _, .nan => .nan
  | .inf n, .inf k => .inf (n != k)
  | .inf n, .fin k m _ => if m = 0 then .nan else .inf (n != k)
  | .fin k m _, .inf n => if m = 0 then .nan else .inf (n != k)
  | .fin n1 m1 e1, .fin n2 m2 e2 => .fin (n1 != n2) (m1 * m2) (e1 + e2)

/-- A finite value as v × 2^e; 0 for the others. -/
def Fp.dyad : Fp → Int × Int
  | .fin neg m e => (if neg then -(m : Int) else m, e)
  | _ => (0, 0)

/-- An exact sum of v × 2^e. -/
def addDyad (x y : Int × Int) : Int × Int :=
  let e := min x.2 y.2
  (x.1 * 2 ^ (x.2 - e).toNat + y.1 * 2 ^ (y.2 - e).toNat, e)

/-- x ≤ y. -/
def leDyad (x y : Int × Int) : Bool := decide ((addDyad x (-y.1, y.2)).1 ≤ 0)

/-- What non-finite terms make of a sum (R259): none when all are finite. -/
def nonfinite (vs : List Fp) : Option Fp :=
  if vs.contains .nan || (vs.contains (.inf true) && vs.contains (.inf false)) then some .nan
  else if vs.contains (.inf true) then some (.inf true)
  else if vs.contains (.inf false) then some (.inf false)
  else none

/-! ### Rounding (R258, R274) -/

/-- m / 2^k rounded: 0 to nearest with ties to even, 1 toward zero, 2 stochastic, which way being open (log entry 27). -/
def roundMode (mode m k : Nat) : Nat :=
  if mode = 1 then m / 2 ^ k
  else if mode = 2 then m / 2 ^ k + b2n (m % 2 ^ k != 0 && Config.stochasticUp m k)
  else roundShift m k

/-- ± m × 2^e in a format with `eb` exponent and `mb` fraction bits and the largest finite code `top`: the code without its sign, and whether the
rounded value lies beyond `top`. -/
def narrowCode (mode eb mb top m : Nat) (e : Int) : Nat × Bool :=
  if m = 0 then (0, false)
  else
    let bias : Int := (2 ^ (eb - 1) - 1 : Nat)
    let quantum : Int := max ((Nat.log2 m : Int) + e) (1 - bias) - (mb : Int)
    let sig := if quantum ≤ e then m * 2 ^ (e - quantum).toNat else roundMode mode m (quantum - e).toNat
    let code := if sig < 2 ^ mb then sig else (quantum + (mb : Int) + bias).toNat * 2 ^ mb + (sig - 2 ^ mb)
    (code, decide (top < code))

/-- v × 2^e rounded to FP32 under a profile: the code, and whether it saturated. An overflow saturates, or gives infinity; toward zero it
gives the largest finite value. FTZ takes a subnormal result as zero. -/
def roundFp32 (p : Profile) (mode : Nat) (v : Int × Int) : Nat × Bool :=
  let sign := b2n (decide (v.1 < 0)) * 2 ^ 31
  let (c, ovf) := narrowCode mode 8 23 0x7F7FFFFF v.1.natAbs v.2
  if ovf then (sign + (if p.ovfSat || mode == 1 then 0x7F7FFFFF else 0x7F800000), p.ovfSat)
  else if p.ftz && decide (c < 2 ^ 23) then (sign, false)
  else (sign + c, false)

/-- s plus an exact term, rounded once (R258); s follows IEEE 754 when it or the term is not finite (R259). -/
def accumulate (p : Profile) (mode s : Nat) (t : Fp) : Nat × Bool :=
  let sv := decodeIeee 8 23 s
  match nonfinite [sv, t] with
  | some v => (v.toFp32, false)
  | none =>
    let r := addDyad sv.dyad t.dyad
    if r.1 = 0 then (if s = 2 ^ 31 && t == .fin true 0 0 then s else 0, false) else roundFp32 p mode r

/-- A sum of an exact value given as v × 2^e. -/
def accumulateD (p : Profile) (mode s : Nat) (t : Int × Int) : Nat × Bool := accumulate p mode s (.fin (decide (t.1 < 0)) t.1.natAbs t.2)

/-! ### Groups (R256 to R259) -/

/-- What an output element's sum meets on its way: saturations of s, truncated blocks and non-finite blocks. -/
structure SumCount where
  satAcc : Nat := 0
  spread : Nat := 0
  nonfinite : Nat := 0
deriving DecidableEq, Repr

/-- The products of a block pair, without the scales. -/
def products (p : Profile) (a b : Blk) : List Fp := ((a.elems p.ftz).zip (b.elems p.ftz)).map (fun e => mulFp e.1 e.2)

/-- The terms of a block pair in a group (R256, R257), as I and e: one block integer, or, with a BF16 operand, each product on its own. -/
def terms (a b : Blk) (ps : List Fp) : List (Int × Int) :=
  let e := a.exp + b.exp
  if a.fmt = 1 ∨ b.fmt = 1 then ps.map (fun x => (x.dyad.1, x.dyad.2 + e))
  else
    let u := unitExp a.fmt + unitExp b.fmt
    [((ps.map (fun x => x.dyad.1 * 2 ^ (x.dyad.2 - u).toNat)).sum, e + u)]

/-- The largest of a list of exponents. -/
def maxExp (l : List Int) : Int := match l with | [] => 0 | x :: xs => xs.foldl max x

/-- A term in units of 2^(H − 126) (R257), bits below removed toward zero. -/
def windowed (h : Int) (t : Int × Int) : Int :=
  if h - 126 ≤ t.2 then t.1 * 2 ^ (t.2 - (h - 126)).toNat
  else
    let q : Int := (t.1.natAbs / 2 ^ (h - 126 - t.2).toNat : Nat)
    if t.1 < 0 then -q else q

/-- The value of a group, its truncated blocks and its non-finite blocks (R257, R259). -/
def groupValue (p : Profile) (pairs : List (Blk × Blk)) : Fp × Nat × Nat :=
  let all := pairs.map (fun x => (x.1, x.2, products p x.1 x.2))
  let bad := (all.filter (fun x => (nonfinite x.2.2).isSome)).length
  match nonfinite ((all.map (fun x => x.2.2)).flatten) with
  | some v => (v, 0, bad)
  | none =>
    let ts := all.map (fun x => (pairWidth x.1.fmt x.2.1.fmt, terms x.1 x.2.1 x.2.2))
    let h := maxExp ((ts.map (fun t => t.2.map (fun y => y.2 + (t.1 : Int) - 1))).flatten)
    let acc := ((ts.map (fun t => t.2.map (windowed h))).flatten).sum
    let cut := (ts.filter (fun t => t.2.any (fun y => decide (y.2 < h - 126)))).length
    (.fin (decide (acc < 0)) acc.natAbs (h - 126), cut, 0)

/-- A list cut into groups of `n`; `fuel` bounds them. -/
def groupsOf {α : Type} (n : Nat) : Nat → List α → List (List α)
  | 0, _ => []
  | fuel + 1, l => if l.isEmpty then [] else l.take n :: groupsOf n fuel (l.drop n)

/-! ### Accumulation models (R258, R275) -/

/-- Additions to s, one after another, with their saturations. -/
def chain (p : Profile) (mode s : Nat) (ts : List Fp) : Nat × Nat :=
  ts.foldl (fun x t => let (v, sat) := accumulate p mode x.1 t; (v, x.2 + b2n sat)) (s, 0)

/-- The exact products along K with their scales. -/
def allProducts (p : Profile) (pairs : List (Blk × Blk)) : List Fp :=
  (pairs.map (fun x => (products p x.1 x.2).map (fun v => match v with
    | .fin neg m e => .fin neg m (e + x.1.exp + x.2.exp)
    | v => v))).flatten

/-- A sum of exact terms, as a value. -/
def exactSum (ts : List Fp) : Fp :=
  match nonfinite ts with
  | some v => v
  | none => let d := ts.foldl (fun a t => addDyad a t.dyad) (0, 0); .fin (decide (d.1 < 0)) d.1.natAbs d.2

/-- Adjacent pairs added (R275, PAIRWISE), `n` times over. -/
def pairwise (p : Profile) (mode : Nat) : Nat → List Nat → Nat × Nat
  | 0, l => (l.headD 0, 0)
  | n + 1, l =>
    let rows := groupsOf 2 l.length l
    let sums := rows.map (fun r => accumulate p mode (r.headD 0) (decodeIeee 8 23 (r.getD 1 0)))
    let (v, k) := pairwise p mode n (sums.map (fun x => x.1))
    (v, k + (sums.filter (fun x => x.2)).length)

/-- Least n with K ≤ 2^n. -/
def ceilLog2 (k : Nat) : Nat := if k ≤ 1 then 0 else Nat.log2 (k - 1) + 1

/-- The FP32 result of an output element before its conversion, under a profile's model (R258, R275): model 0 with an FP32 operand runs on the vector
path, one fused multiply-add per product (R264); an OPEN sum is a free value (log entry 27). -/
def elementSum (p : Profile) (pairs : List (Blk × Blk)) (c : Option Nat) : Nat × SumCount :=
  let fp32 := pairs.any (fun x => x.1.fmt == 0 || x.2.fmt == 0)
  let s0 := if p.cLast then 0 else c.getD 0
  let cs : List Fp := match c with | some x => if p.cLast then [decodeIeee 8 23 x] else [] | none => []
  let ps := allProducts p pairs
  let bad := (pairs.filter (fun x => (nonfinite (products p x.1 x.2)).isSome)).length
  if p.model = 0 ∧ !fp32 then
    let gs := (groupsOf (max 1 p.group) pairs.length pairs).map (groupValue p)
    let (s, sat) := chain p 0 s0 (gs.map (fun g => g.1) ++ cs)
    (s, { satAcc := sat, spread := (gs.map (fun g => g.2.1)).sum, nonfinite := bad })
  else if p.model ≤ 1 then
    let (s, sat) := chain p p.round s0 (ps ++ cs)
    (s, { satAcc := sat, nonfinite := bad })
  else if p.model = 2 then
    let n := ceilLog2 ps.length
    let first := ps.map (fun t => accumulate p p.round 0 t)
    let l := first.map (fun x => x.1) ++ List.replicate (2 ^ n - ps.length) 0
    let (t, k) := pairwise p p.round n l
    let (s, sat) := match c with | some x => accumulate p p.round x (decodeIeee 8 23 t) | none => (t, false)
    (s, { satAcc := k + b2n sat + (first.filter (fun x => x.2)).length, nonfinite := bad })
  else if p.model = 3 then
    let bs := pairs.map (fun x => accumulate p p.round 0 (exactSum (allProducts p [x])))
    let (s, sat) := chain p p.round s0 (bs.map (fun x => decodeIeee 8 23 x.1) ++ cs)
    (s, { satAcc := sat + (bs.filter (fun x => x.2)).length, nonfinite := bad })
  else
    let ts := ps ++ (match c with | some x => [decodeIeee 8 23 x] | none => [])
    (match nonfinite ts with
     | some v => v.toFp32
     | none => Config.openSum p.id (ts.map Fp.dyad), { nonfinite := bad })

/-! ### Output conversion and the quantiser (R258, R260, R261) -/

/-- Fraction bits, exponent bits, largest finite code and emax of a narrow format. -/
def formatShape (fmt : Nat) : Nat × Nat × Nat × Int :=
  match fmt with
  | 2 => (3, 4, 0x7E, 8)
  | 3 => (2, 5, 0x7B, 15)
  | _ => (1, 2, 7, 2)

/-- floor(log2 |v|) of a non-zero finite value. -/
def floorLog2 (v : Fp) : Int := match v with | .fin _ m e => (Nat.log2 m : Int) + e | _ => 0

/-- What the quantiser meets in a block: saturations, a non-finite block, an escalation. -/
structure QCount where
  satOut : Nat := 0
  nonfinite : Nat := 0
  esc : Nat := 0
deriving DecidableEq, Repr

/-- Element codes as stored bytes: one byte each, or two E2M1 codes per byte (R250). -/
def packCodes (fmt : Nat) (cs : List Nat) : Bytes :=
  if fmt = 4 then (groupsOf 2 cs.length cs).map (fun r => BitVec.ofNat 8 (r.headD 0 + 16 * r.getD 1 0)) else cs.map (BitVec.ofNat 8)

/-- One element v / 2^x in a format (R260): its code with sign, and whether it saturated. -/
def quantElem (mode fmt : Nat) (x : Int) (v : Fp) : Nat × Bool :=
  let (mb, eb, top, _) := formatShape fmt
  match v with
  | .fin neg m e =>
    let (c, ovf) := narrowCode mode eb mb top m (e - x)
    ((if ovf then top else c) + b2n neg * 2 ^ (eb + mb), ovf)
  | _ => (0, false)

/-- A block of FP32 values in an MX format (R260). -/
def quantBlock (mode fmt : Nat) (vs : List Nat) : Blk × QCount :=
  let fs := vs.map (decodeIeee 8 23)
  let zero := packCodes fmt (List.replicate vs.length 0)
  if (nonfinite fs).isSome then ({ fmt := fmt, scale := 255, data := zero }, { nonfinite := 1 })
  else
    let nz := fs.filter (fun v => v.dyad.1 != 0)
    if nz.isEmpty then ({ fmt := fmt, scale := 0, data := zero }, {})
    else
      let (_, _, _, emax) := formatShape fmt
      let x0 := maxExp (nz.map floorLog2) - emax
      let x := max (-127) (min 127 x0)
      let es := fs.map (quantElem mode fmt x)
      ({ fmt := fmt, scale := (x + 127).toNat, data := packCodes fmt (es.map (fun e => e.1)) },
       { satOut := b2n (decide (127 < x0)) + (es.filter (fun e => e.2)).length })

/-- The quantiser's settings (R261): FLUSH_MAX, SPREAD_MAX, ESC_EN. -/
structure EscCfg where
  flushMax : Nat := 3
  spreadMax : Nat := 3
  en : Bool := true
deriving DecidableEq, Repr

/-- A block of an MXFP4 output, escalated to E4M3 where R261 says so. -/
def quantEsc (cfg : EscCfg) (mode : Nat) (vs : List Nat) : Blk × QCount :=
  let (b, q) := quantBlock mode 4 vs
  let nz := (vs.map (decodeIeee 8 23)).filter (fun v => v.dyad.1 != 0)
  if !cfg.en || q.nonfinite != 0 || nz.isEmpty then (b, q)
  else
    let x : Int := (b.scale : Int) - 127
    let f := (nz.filter (fun v => (quantElem mode 4 x v).1 % 8 == 0)).length
    let logs := nz.map floorLog2
    let d := maxExp logs + maxExp (logs.map (fun l => -l))
    if cfg.flushMax < f ∨ (cfg.spreadMax : Int) < d then
      let (b, q) := quantBlock mode 2 vs
      (b, { q with esc := 1 })
    else (b, q)

/-- A row of FP32 values converted to an output format: its blocks of 32, the last padded with zeros; FP32 and BF16 rows keep their length. -/
def convertRow (p : Profile) (cfg : EscCfg) (escape : Bool) (fmt : Nat) (vs : List Nat) : List (Blk × QCount) :=
  match fmt with
  | 0 => [({ fmt := 0, data := (vs.map (le 4)).flatten }, {})]
  | 1 =>
    let one := fun (v : Nat) => match decodeIeee 8 23 v with
      | .fin neg m e =>
        let (c, ovf) := narrowCode p.round 8 7 0x7F7F m e
        let c := if ovf then (if p.ovfSat || p.round == 1 then 0x7F7F else 0x7F80) else if p.ftz && decide (c < 128) then 0 else c
        (c + b2n neg * 2 ^ 15, ovf && p.ovfSat)
      | .inf neg => (0x7F80 + b2n neg * 2 ^ 15, false)
      | .nan => (0x7FC0, false)
    let cs := vs.map one
    [({ fmt := 1, data := (cs.map (fun c => le 2 c.1)).flatten }, { satOut := (cs.filter (fun c => c.2)).length })]
  | _ =>
    (groupsOf 32 vs.length (vs ++ List.replicate ((32 - vs.length % 32) % 32) 0)).map (fun r =>
      if fmt = 4 ∧ escape then quantEsc cfg p.round r else quantBlock p.round fmt r)

/-! ### A whole tile (R246, R269, R270) -/

/-- Flags of R269. -/
abbrev tfSatAcc : Nat := 0
abbrev tfSatOut : Nat := 1
abbrev tfSpread : Nat := 2
abbrev tfNonfinite : Nat := 3
abbrev tfEsc : Nat := 4
abbrev tfPoison : Nat := 5

/-- A tile's result: FP32 rows before conversion, which elements are poisoned, the output blocks by row, the flags and the census counts. -/
structure TileOut where
  sums : List (List Nat)
  poison : List (List Bool)
  out : List (List Blk)
  flags : Nat := 0
  satAcc : Nat := 0
  satOut : Nat := 0
  spread : Nat := 0
  nonfinite : Nat := 0
  esc : Nat := 0
  poisonOut : Nat := 0
  formatErr : Nat := 0
deriving DecidableEq, Repr

/-- A bit of flags from a count. -/
def flagOf (n i : Nat) : Nat := if n = 0 then 0 else 2 ^ i

/-- A tile's result from its FP32 sums (R258, R260, R269, R270). -/
def tileConvert (p : Profile) (cfg : EscCfg) (t : Tile) (sums : List (List Nat)) (cnt : SumCount) : TileOut :=
  let bad := fun (bs : List Blk) => bs.map (fun b => b.poison)
  let poison := t.a.map (fun ra => t.b.map (fun cb => (((bad ra).zip (bad cb)).any (fun x => x.1 || x.2))))
  let rows := (sums.zip poison).map (fun r =>
    let vs := (r.1.zip r.2).map (fun e => if e.2 then 0 else e.1)
    (convertRow p cfg true t.out vs).zip ((groupsOf 32 r.2.length r.2).map (fun g => g.any id)))
  let qs := ((rows.map (fun r => r.map (fun e => e.1.2))).flatten)
  let whole := fun (r : List ((Blk × QCount) × Bool)) =>
    if t.out < 2 then (r.map (fun e => { e.1.1 with poison := (r.any (fun e => e.2)) })) else r.map (fun e => { e.1.1 with poison := e.2 })
  let satOut := (qs.map (fun q => q.satOut)).sum
  let nonf := cnt.nonfinite + (qs.map (fun q => q.nonfinite)).sum
  let esc := (qs.map (fun q => q.esc)).sum
  let ops := (t.a ++ t.b).flatten
  let pois := (ops.filter (fun b => b.poison)).length
  { sums := sums, poison := poison, out := rows.map whole
    flags := t.flags ||| flagOf cnt.satAcc tfSatAcc ||| flagOf satOut tfSatOut ||| flagOf cnt.spread tfSpread |||
      flagOf nonf tfNonfinite ||| flagOf esc tfEsc ||| flagOf pois tfPoison
    satAcc := cnt.satAcc, satOut := satOut, spread := cnt.spread, nonfinite := nonf, esc := esc, poisonOut := pois
    formatErr := (ops.filter (fun b => !b.poison && b.bad)).length }

/-- The sums of a tile by row, with their counts; a poisoned block pair enters none (R270). -/
def tileSums (p : Profile) (t : Tile) : List (List Nat) × SumCount :=
  let rows := (List.range t.a.length).map (fun i => (List.range t.b.length).map (fun j =>
    let pairs := ((t.a.getD i []).zip (t.b.getD j [])).filter (fun x => !x.1.poison && !x.2.poison)
    elementSum p pairs (t.c.map (fun c => (c.getD i []).getD j 0))))
  let all := (rows.flatten).map (fun e => e.2)
  (rows.map (fun r => r.map (fun e => e.1)),
   { satAcc := (all.map (fun c => c.satAcc)).sum, spread := (all.map (fun c => c.spread)).sum,
     nonfinite := (all.map (fun c => c.nonfinite)).sum })

/-- A tile computed without an error. -/
def tileResult (p : Profile) (cfg : EscCfg) (t : Tile) : TileOut :=
  let (sums, cnt) := tileSums p t
  tileConvert p cfg t sums cnt

/-! ### Canaries (R273) and judging (R280) -/

/-- The square root of a sum of squares, in FP32, in ascending order (log entry 25). -/
def rootSum (xs : List Nat) : Nat := sqrtFp32 (sumFp32 (xs.map (fun x => mulFp32 x x)))

/-- d of R273. -/
def canaryD (y4 y8 : List Nat) : Nat :=
  let n := rootSum ((y4.zip y8).map (fun e => subFp32 e.1 e.2))
  let d := rootSum y8
  if absFp32 d = 0 then (if absFp32 n = 0 then 0 else 0x3F800000) else divFp32 n d

/-- ulp of an exact value in a format (R280): the spacing at its binade, not below the smallest subnormal of FP32 and BF16. -/
def ulpOf (fmt : Nat) (y : Int × Int) : Int × Int :=
  let lg : Int := if y.1 = 0 then -126 else (Nat.log2 y.1.natAbs : Int) + y.2
  match fmt with
  | 0 => (1, max lg (-126) - 23)
  | 1 => (1, max lg (-126) - 7)
  | f => (1, lg - ((formatShape f).1 : Int))

/-- τ of R280 for an element. -/
def tolerance (p : Profile) (exact : Int × Int) (mags : List (Int × Int)) : Int × Int :=
  let u := ulpOf p.fmtC exact
  let s := mags.foldl (fun a t => addDyad a (t.1.natAbs, t.2)) (0, 0)
  addDyad (u.1 * (p.ulpTol : Int), u.2) (if p.relLog2 = 0 then (0, 0) else (s.1, s.2 - (p.relLog2 : Int)))

/-- |a − b| ≤ n × τ; a value that is not finite agrees only with one of its kind. -/
def within (a b : Fp) (n : Int) (tau : Int × Int) : Bool :=
  match a, b with
  | .fin .., .fin .. =>
    let d := addDyad a.dyad (-b.dyad.1, b.dyad.2)
    leDyad (d.1.natAbs, d.2) (n * tau.1, tau.2)
  | _, _ => a == b

/-- The values of a row's blocks, with their scales. -/
def rowValues (n : Nat) (bs : List Blk) : List Fp :=
  ((bs.map (fun b =>
    if b.fmt = 0 then (List.range (b.data.length / 4)).map (b.elem false)
    else if b.fmt = 1 then (List.range (b.data.length / 2)).map (b.elem false)
    else (b.elems false).map (fun v => match v with | .fin k m e => .fin k m (e + b.exp) | v => v))).flatten).take n

end Sys2Proof.Machine
end

