-- ==== Sys2Proof/Machine/Tensor.lean ====
section
/-! DEFINITION. The tensor dispatcher, canaries, residue disputes, replays and ARB (10, 13). -/

namespace Sys2Proof.Machine

/-! ### Captured tiles (R133, R134, R274, R279) -/

/-- A Tile record's content. -/
def Captured.ofRec (r : Rec) : Captured :=
  let b := r.body
  { die := senderOf r.src, context := bytesAt b 12 2, forced := bit (bytesAt b 24 1) 0, fmtA := bytesAt b 6 1 % 16,
    fmtB := bytesAt b 6 1 / 16, fmtC := bytesAt b 7 1 % 16, cIn := bit (bytesAt b 7 1) 4, m := bytesAt b 2 1 + 1, n := bytesAt b 3 1 + 1,
    k := bytesAt b 4 2, profile := bytesAt b 0 2, data := b.drop 32 }

/-- The descriptor carries POISON. -/
def tilePoison (r : Rec) : Bool := bit (bytesAt r.body 24 1) 1

/-- Bytes of a block of a format. -/
def blkBytes (fmt : Nat) : Nat := match fmt with | 0 => 128 | 1 => 64 | 4 => 16 | 5 => 8 | _ => 32

/-- Bytes of an operand's elements, and of its scales: `r` rows of `k` elements. -/
def partBytes (fmt r k : Nat) : Nat := if fmt = 0 then 4 * r * k else if fmt = 1 then 2 * r * k else r * ((k + 31) / 32) * blkBytes fmt
def scaleBytes (fmt r k : Nat) : Nat := if 2 ≤ fmt ∧ fmt ≤ 4 then r * ((k + 31) / 32) else 0

/-- A length padded to 64 bytes. -/
def pad64 (n : Nat) : Nat := (n + 63) / 64 * 64

/-- Row `i` of an operand of `r` rows and `k` elements, contiguous along K or across rows, as blocks along K. -/
def operandRow (fmt r k : Nat) (major : Bool) (els scales : Bytes) (i : Nat) : List Blk :=
  let kb := (k + 31) / 32
  (List.range kb).map (fun j =>
    if fmt < 2 then
      let w := if fmt = 0 then 4 else 2
      { fmt := fmt, data := ((List.range 32).map (fun e =>
          let x := 32 * j + e
          if x < k then (els.drop (w * (if major then i * k + x else x * r + i))).take w else zeros w)).flatten }
    else
      let at_ := if major then i * kb + j else j * r + i
      { fmt := fmt, scale := bytesAt scales at_ 1, data := (els.drop (at_ * blkBytes fmt)).take (blkBytes fmt) })

/-- The values of an M × N matrix by row: elements, or MX blocks along its rows followed by their scales. -/
def matrixRows (fmt m n : Nat) (rowMajor : Bool) (part : Bytes) : List (List Fp) :=
  (List.range m).map (fun i =>
    if fmt < 2 then
      let w := if fmt = 0 then 4 else 2
      (List.range n).map (fun j =>
        let x := bytesAt part (w * (if rowMajor then i * n + j else j * m + i)) w
        if fmt = 0 then decodeIeee 8 23 x else decodeIeee 8 7 x)
    else rowValues n (operandRow fmt m n rowMajor part (part.drop (partBytes fmt m n)) i))

/-- Bytes of such a matrix. -/
def matrixBytes (fmt m n : Nat) : Nat := partBytes fmt m n + scaleBytes fmt m n

/-- A captured tile under its profile: the tile, and the accelerator's output by row (R133, R274). -/
def Captured.tile (c : Captured) (p : Profile) : Tile × List (List Fp) :=
  let la := pad64 (partBytes c.fmtA c.m c.k)
  let las := pad64 (scaleBytes c.fmtA c.m c.k)
  let lb := pad64 (partBytes c.fmtB c.n c.k)
  let lbs := pad64 (scaleBytes c.fmtB c.n c.k)
  let lc := if c.cIn then pad64 (matrixBytes c.fmtC c.m c.n) else 0
  let at_ := fun (o : Nat) => c.data.drop o
  let a := (List.range c.m).map (operandRow c.fmtA c.m c.k p.aKMajor (at_ 0) (at_ la))
  let b := (List.range c.n).map (operandRow c.fmtB c.n c.k p.bKMajor (at_ (la + las)) (at_ (la + las + lb)))
  let o := la + las + lb + lbs
  let cs := if c.cIn then some ((matrixRows c.fmtC c.m c.n p.cRowMajor (at_ o)).map (fun r => r.map Fp.toFp32)) else none
  ({ id := 0, profile := c.profile, a := a, b := b, c := cs, out := c.fmtC }, matrixRows c.fmtC c.m c.n p.cRowMajor (at_ (o + lc)))

/-- The sub-tile from a row and column on, at most 128 × 128 (R279). -/
def Tile.sub (t : Tile) (row col : Nat) : Tile :=
  { t with a := (t.a.drop row).take 128, b := (t.b.drop col).take 128
           c := t.c.map (fun c => ((c.drop row).take 128).map (fun r => (r.drop col).take 128)) }

/-- First rows and columns of the sub-tiles. -/
def cuts (m n : Nat) : List (Nat × Nat) :=
  ((List.range ((m + 127) / 128)).map (fun i => (List.range ((n + 127) / 128)).map (fun j => (128 * i, 128 * j)))).flatten

/-- A profile's two-core rule (R279). -/
def Profile.paired (p : Profile) : Bool := p.model != 0 || decide (p.fmtA < 2) || decide (p.fmtB < 2) || decide (p.fmtC < 2)

/-- A tile runs under the residue check (R264, R268). -/
def Profile.checked (p : Profile) : Bool := p.model == 0 && p.fmtA != 0 && p.fmtB != 0

namespace State

/-- The quantiser's settings as of the last tick (R261). -/
def escCfg (s : State) : EscCfg :=
  { flushMax := getBits s.tdsp.cfg 0 6, spreadMax := getBits s.tdsp.cfg 8 4, en := getBits s.tdsp.cfg 12 1 == 1 }

/-- The profile of an identifier. -/
def profileOf (s : State) (id : Nat) : Option Profile := s.image.profiles.find? (fun p => p.id == id)

/-- The profile that a tile of the block's own runs under. -/
def ownProfile (s : State) (t : Tile) : Profile := (s.profileOf t.profile).getD { id := t.profile, fmtA := 5, fmtB := 4, fmtC := t.out }

/-- The saturation census of a core (R269). -/
def census (s : State) (c : Nat) (o : TileOut) : State :=
  let s := (s.addFld (F.Tnn_CENSUS0_SAT_ACC.at c) o.satAcc).addFld (F.Tnn_CENSUS0_SAT_OUT.at c) o.satOut
  let s := (s.addFld (F.Tnn_CENSUS0_SPREAD.at c) o.spread).addFld (F.Tnn_CENSUS0_NONFINITE.at c) o.nonfinite
  let s := (s.addFld (F.Tnn_CENSUS1_ESC_BLOCKS.at c) o.esc).addFld (F.Tnn_CENSUS1_POISON_OUT.at c) o.poisonOut
  s.addFld (F.Tnn_CENSUS2_FORMAT_ERR.at c) o.formatErr

/-! ### Dispatch (R247, R272) -/

/-- Operand B of a canary run: the E4M3 copies in place of the MXFP4 blocks of the canary sources among its tiles (R272). -/
def canaryB (s : State) (t : Tile) : List (List Blk) :=
  (List.range t.b.length).map (fun j =>
    (t.sources.foldl (fun (acc : List Blk × List Blk) src =>
      let own := acc.2.take src.2
      let part := match s.tdsp.canaryBuf.get none' src.1 with | some rows => rows.getD j own | none => own
      (acc.1 ++ part, acc.2.drop src.2)) ([], t.b.getD j [])).1)

/-- A tile that consumes a canary source. -/
def consumesCanary (s : State) (t : Tile) : Bool := t.sources.any (fun x => (s.tdsp.canaryBuf.get none' x.1).isSome)

/-- A tile given to the first pool core at or after `home`; a tile that consumes a canary source runs a second time on the next pool core. -/
def dispatchTile (s : State) (home : Nat) (t : Tile) : State :=
  match s.poolFrom home with
  | none => s.emit (.tileMissing t.id)
  | some c =>
    let canary := s.consumesCanary t
    let tb := { t with b := s.canaryB t }
    let s := s.give c { tile := t, why := .main }
    if canary then
      let ps : List CanaryPair := s.tdsp.pairs.filter (fun (x : CanaryPair) => x.id != t.id) ++ [{ id := t.id, layer := t.layer }]
      let s := { s with tdsp := { s.tdsp with pairs := ps } }
      s.giveFrom (c + 1) { tile := tb, why := .canary }
    else s

/-! ### Releasing results (R269 to R273) -/

/-- A canary pair's outputs noted; with both, d enters the layer's mean (R273). -/
def noteCanary (s : State) (id : Nat) (main : Bool) (y : List Nat) : State :=
  match s.tdsp.pairs.find? (fun x => x.id == id) with
  | none => s
  | some x =>
    let x := if main then { x with y4 := some y } else { x with y8 := some y }
    let rest := s.tdsp.pairs.filter (fun z => z.id != id)
    match x.y4, x.y8 with
    | some a, some b =>
      let sums := s.tdsp.canarySum.mod (fun _ => (0, 0)) x.layer (fun e => (e.1 + 1, addFp32 e.2 (canaryD a b)))
      { s with tdsp := { s.tdsp with pairs := rest, canarySum := sums } }
    | _, _ => { s with tdsp := { s.tdsp with pairs := rest ++ [x] } }

/-- A core's draw for an output tile that it quantises to MXFP4; whether the tile is a canary source (R272). -/
def drawCanary (s : State) (c : Nat) : Bool × State :=
  let k := { s.core c with lfsr := lfsrStep (s.core c).lfsr }
  let t : Tdsp := { s.tdsp with cores := Tab.put (fun _ => {}) s.tdsp.cores c k }
  let n := getBits s.tdsp.cfg 16 5
  (n != 31 && k.lfsr.toNat % 2 ^ n == 0, { s with tdsp := t })

/-- The canary buffer's entry of a tile written (R272). -/
def putCanary (s : State) (id : Nat) (rows : Option (List (List Blk))) : State :=
  let t : Tdsp := { s.tdsp with canaryBuf := Tab.put none' s.tdsp.canaryBuf id rows }
  { s with tdsp := t }

/-- A main tile's outputs released. -/
def releaseMain (s : State) (c : Nat) (p : Profile) (t : Tile) (o : TileOut) : State :=
  let s := s.noteCanary t.id true o.sums.flatten
  let s := if t.out = 4 then
      let (src, s) := s.drawCanary c
      s.putCanary t.id (if src then some (o.sums.map (fun r => (convertRow p s.escCfg false 2 r).map (fun e => e.1))) else none)
    else s
  s.emit (.tileOut t.id o.flags o.out o.poison)

/-- A tile's outputs released as poison (R278). -/
def releasePoison (s : State) (t : Tile) : State :=
  s.emit (.tileOut t.id (t.flags ||| 2 ^ tfPoison) (t.a.map (fun _ => [])) (t.a.map (fun _ => t.b.map (fun _ => true))))

/-! ### Replays (R279, R280, R341) -/

/-- The replay with a number changed. -/
def modReplay (s : State) (no : Nat) (f : Replay → Replay) : State :=
  { s with tdsp := { s.tdsp with replays := s.tdsp.replays.map (fun r => if r.no = no then f r else r) } }

/-- The replay with a number ended. -/
def dropReplay (s : State) (no : Nat) : State :=
  { s with tdsp := { s.tdsp with replays := s.tdsp.replays.filter (fun r => r.no != no) } }

/-- An ARB job queued (R281): disputes before replays before checker disputes, each in order of arrival; false when the queue is full. -/
def arbQueue (s : State) (j : ArbJob) : Bool × State :=
  if 16 ≤ s.tdsp.arbQ.length then (false, s)
  else
    let q := s.tdsp.arbQ.filter (fun x => decide (x.kind ≤ j.kind)) ++ [j] ++ s.tdsp.arbQ.filter (fun x => decide (j.kind < x.kind))
    (true, ({ s with tdsp := { s.tdsp with arbQ := q } }).showArb)

/-- A replay ends without a result (R281, R341). -/
def noResult (s : State) (no : Nat) : State := (s.dropReplay no).incFld F.ARB_CNT_NO_RESULT

end State

/-- The joined FP32 results of a replay (R279). -/
def Replay.joined (r : Replay) : List (List Nat) :=
  (List.range r.src.m).map (fun i => (List.range r.src.n).map (fun j =>
    match r.subs.find? (fun x => x.row / 128 == i / 128 && x.col / 128 == j / 128) with
    | some x => (((x.done.getD []).getD (i % 128) []).getD (j % 128) 0)
    | none => 0))

/-- FP32 rows as values of FMT_C under a profile. -/
def finalRows (p : Profile) (n : Nat) (rows : List (List Nat)) : List (List Fp) :=
  rows.map (fun r => rowValues n ((convertRow p {} false p.fmtC r).map (fun e => e.1)))

/-- Where a party's output lies outside (R280): of the exact reference, or, with `against`, of another party's output at twice the tolerance. -/
def outside (p : Profile) (t : Tile) (got : List (List Fp)) (against : Option (List (List Fp))) : List (Nat × Nat) :=
  let ref := match against with
    | some r => r
    | none => if p.repro then finalRows p t.b.length (tileSums p t).1 else []
  (((List.range t.a.length).map (fun i => (List.range t.b.length).map (fun j => (i, j)))).flatten).filter (fun ij =>
    let g := (got.getD ij.1 []).getD ij.2 .nan
    if p.repro then g != (ref.getD ij.1 []).getD ij.2 .nan
    else
      let terms := allProducts p ((t.a.getD ij.1 []).zip (t.b.getD ij.2 [])) ++
        (match t.c with | some c => [decodeIeee 8 23 ((c.getD ij.1 []).getD ij.2 0)] | none => [])
      let y := exactSum terms
      let tau := tolerance p y.dyad (terms.map Fp.dyad)
      match against with
      | some r => !within g ((r.getD ij.1 []).getD ij.2 .nan) 2 tau
      | none => !within g y 1 tau)

namespace State

/-- A replay whose sub-tiles are all done is judged (R280): PASS, or to ARB. -/
def judge (s : State) (no : Nat) : State :=
  match s.tdsp.replays.find? (fun r => r.no == no) with
  | none => s
  | some r =>
    if r.subs.any (fun x => x.done.isNone) then s
    else match s.profileOf r.src.profile with
    | none => s.noResult no
    | some p =>
      let (t, d) := r.src.tile p
      if (outside p t (finalRows p r.src.n r.joined) (some d)).isEmpty then (s.countTrial r.src.die r.src.context).dropReplay no
      else
        let (ok, s) := s.arbQueue { kind := 1, ref := no }
        if ok then s else s.noResult no

/-- A sub-tile's result. -/
def subDone (s : State) (no sub : Nat) (v : List (List Nat)) : State :=
  (s.modReplay no (fun r => { r with subs := r.subs.modify sub (fun x => { x with done := some v }) })).judge no

/-- Cores held under R277, or back in the pool. -/
def holdCore (s : State) (c : Nat) (on : Bool) : State := s.setFld (F.Tnn_TILE_HELD.at c) (b2n on)

/-- OPEN of STB_STW_TDSP_DISPUTE. -/
def showOpen (s : State) : State := s.setFld F.STW_TDSP_DISPUTE_OPEN (min 4 s.tdsp.disputes.length)

/-- A dispute opened; the register names it. -/
def openDispute (s : State) (d : Dispute) : State :=
  let s := { s with tdsp := { s.tdsp with disputes := s.tdsp.disputes ++ [d] } }
  ((s.setFld F.STW_TDSP_DISPUTE_CORE (16 + d.x)).setFld F.STW_TDSP_DISPUTE_RERUN_CORE (16 + d.y)).showOpen

/-- A core's RESIDUE error forces Winter state (R461, R463): its record shows it, in place of an error that did not. -/
def residueWinter (s : State) (c : Nat) : State :=
  let n := 16 + c
  let s := s.holdCore c false
  let s :=
    if s.flag (F.ERR_FIRST_WINTER.at n) || !s.flag (F.ERR_FIRST_VALID.at n) then s
    else if s.fld (F.ERR_FIRST_DETECTOR.at n) = 0x10 then s.setFld (F.ERR_FIRST_WINTER.at n) 1
    else
      let old := s.fld (F.ERR_FIRST_DETECTOR.at n)
      (s.writeFirst n 0x10 3 0 false true false).setFld (F.ERR_MERGED_LAST_DETECTOR.at n) old
  if s.works n then s.enterWinter n else s

/-- A dispute closed with an outcome (R277), with the dispatcher's DISPUTE message (R399). -/
def closeDispute (s : State) (d : Dispute) (outcome : Nat) : State :=
  let s := { s with tdsp := { s.tdsp with disputes := s.tdsp.disputes.filter (fun x => x != d) } }
  let s := (s.setFld F.STW_TDSP_DISPUTE_CORE (16 + d.x)).setFld F.STW_TDSP_DISPUTE_OUTCOME outcome
  let s := ((s.incFld F.STW_TDSP_DISPUTE_COUNT).showOpen).trace 14 9 (le 1 0 ++ le 1 outcome ++ le 1 d.x ++ le 1 d.y)
  if outcome = 3 then s.incFld F.STW_TDSP_DISPUTE_UNRESOLVED else s

/-- A job's result released, none as poison: a replay's result goes to its replay. -/
def release (s : State) (c : Nat) (j : CoreJob) (sums : Option (List (List Nat))) : State :=
  let p := s.ownProfile j.tile
  match j.why, sums with
  | .main, some v => s.releaseMain c p j.tile (tileConvert p s.escCfg j.tile v {})
  | .main, none => s.releasePoison j.tile
  | .canary, some v => s.noteCanary j.tile.id false v.flatten
  | .canary, none => s
  | .rerun _, _ => s
  | .replay no sub _, some v => s.subDone no sub v
  | .replay no _ _, none => s.noResult no

/-- A dispute without a way to decide (R278): poison, X fenced. -/
def unresolved (s : State) (d : Dispute) : State :=
  let s := (s.release d.x d.job none).closeDispute d 3
  let s := if d.arb && !s.tdsp.disputes.any (fun z => z.x == d.y) then s.holdCore d.y false else s
  s.residueWinter d.x

/-- A core's finished job leaves its queue; a core out of the pool hands its further tiles on. -/
def popJob (s : State) (c : Nat) : State :=
  let s := s.setJobs c ((s.core c).jobs.drop 1)
  if s.inPool c then s else s.reissue c

/-- A residue mismatch on core X (R277, R278): the tile's outputs held, the core out of the pool, the error recorded, and the tile given to core Y. -/
def mismatch (s : State) (x : Nat) (j : CoreJob) (rx : List (List Nat)) (loc : Nat) (inj : Bool) : State :=
  let s := (s.incFld (F.Tnn_CENSUS1_RES_ERR.at x)).recordError (16 + x) 0x10 3 loc inj
  let s := (s.holdCore x true).popJob x
  match s.poolAfter x with
  | some y =>
    let d : Dispute := { x := x, job := j, rx := rx, y := y }
    if 4 ≤ s.tdsp.disputes.length then
      ((s.release x j none).closeDispute d 3).residueWinter x
    else (s.openDispute d).give y { tile := j.tile, why := .rerun x }
  | none =>
    let s := (s.release x j none).closeDispute { x := x, job := j, rx := rx, y := x } 3
    (s.setFld F.STW_TDSP_DISPUTE_RERUN_CORE 0x7F).residueWinter x

/-- Sums of a job as its core computes them; `wrong` is what a faulty core produced instead. -/
def jobSums (s : State) (j : CoreJob) (wrong : Option (List (List Nat))) : List (List Nat) × SumCount :=
  match wrong with
  | some v => (v, {})
  | none => tileSums (s.ownProfile j.tile) j.tile

/-- Duplicate results of a replay's sub-tile (R279): equal ones are its result; different ones are a dispute of outcome 2. -/
def duplicates (s : State) (no sub : Nat) (t : Tile) : State :=
  match s.tdsp.replays.find? (fun r => r.no == no) with
  | none => s
  | some r =>
    match r.subs[sub]? with
    | none => s
    | some x =>
      match x.first, x.second with
      | some a, some b =>
        if a = b then s.subDone no sub a
        else
          let cx := x.cores.getD 0 0
          let cy := x.cores.getD 1 0
          let d : Dispute := { x := cx, job := { tile := t, why := .replay no sub false }, rx := a, y := cy, ry := some b, arb := true }
          let s := ((s.holdCore cx true).holdCore cy true).openDispute d
          let (ok, s) := s.arbQueue { kind := 0, ref := cx }
          if ok then s else (s.incFld F.ARB_CNT_NO_RESULT).unresolved d
      | _, _ => s

/-- A core finishes its running tile (R263, R269 to R273, R279): counts, draws and release. A mismatch of an injected residue follows R277. Nothing
ends while a fast shed holds the tiles (R58). -/
def tileComplete (s : State) (c : Nat) (wrong : Option (List (List Nat))) : State :=
  match (s.core c).jobs with
  | [] => s
  | j :: _ =>
    if !s.works (16 + c) || s.flag F.MGT_PWR_STATUS_FAST_HOLD then s
    else match j.why with
    | .rerun _ => s
    | why =>
      let p := s.ownProfile j.tile
      let (sums, cnt) := s.jobSums j wrong
      let s := s.census c (tileConvert p s.escCfg j.tile sums cnt)
      if s.injectArmed (16 + c) 4 && p.checked then (s.fireInject (16 + c)).mismatch c j sums 0 true
      else
        let s := s.setFld (F.Tnn_TILE_TILES.at c) (s.fld (F.Tnn_TILE_TILES.at c) + 1)
        let s := (s.popJob c).perf 14 0x100 1
        match why with
        | .main => s.releaseMain c p j.tile (tileConvert p s.escCfg j.tile sums cnt)
        | .replay no sub second =>
          let s := if j.tile.out = 4 then (s.drawCanary c).2 else s
          let paired := s.tdsp.replays.any (fun r => r.no == no && (r.subs[sub]?).any (fun x => x.paired))
          if paired then
            let s := s.modReplay no (fun r => { r with subs := r.subs.modify sub (fun x =>
              if second then { x with second := some sums, cores := x.cores.set 1 c } else { x with first := some sums, cores := x.cores.set 0 c }) })
            s.duplicates no sub j.tile
          else (s.modReplay no (fun r => { r with subs := r.subs.modify sub (fun x => { x with cores := [c] }) })).subDone no sub sums
        | _ => s.release c j (some sums)

/-- The rerun on core Y ends (R277): Y clean or with a residue error of its own, its result (none: the arithmetic's), and whether R_Y agrees with X's
predicted residues. -/
def rerunDone (s : State) (x : Nat) (clean : Bool) (ry : Option (List (List Nat))) (agrees : Bool) (loc : Nat) : State :=
  match s.tdsp.disputes.find? (fun d => d.x == x && !d.arb) with
  | none => s
  | some d =>
    if s.flag F.MGT_PWR_STATUS_FAST_HOLD then s
    else
      let (vy, _) := s.jobSums d.job ry
      let mine := fun (j : CoreJob) => j.why == .rerun x
      let y := ((List.range 84).find? (fun c => ((s.core c).jobs.head?).any mine)).getD d.y
      let s := s.setJobs y ((s.core y).jobs.filter (fun j => !mine j))
      let s := if clean then s
        else
          let s := (s.incFld (F.Tnn_CENSUS1_RES_ERR.at y)).recordError (16 + y) 0x10 3 loc false
          (s.holdCore y true).reissue y
      if clean && vy == d.rx then ((s.release x d.job (some d.rx)).closeDispute d 0).residueWinter x
      else if clean && agrees then ((s.release y d.job (some vy)).closeDispute d 1).residueWinter x
      else
        let d' := { d with y := y, ry := some vy, arb := true }
        let s := { s with tdsp := { s.tdsp with disputes := s.tdsp.disputes.map (fun z => if z = d then d' else z) } }
        let (ok, s) := s.arbQueue { kind := 0, ref := x }
        if ok then s else (s.incFld F.ARB_CNT_NO_RESULT).unresolved d'

/-! ### The replay queue (R340, R341) -/

/-- A Tile record joins the replay queue, or is dropped (R340); a poisoned tile is not replayed (R341). -/
def replayEnqueue (s : State) (r : Rec) : State :=
  let c := Captured.ofRec r
  let limit := min 256 (max 1 (s.fld F.STW_REPLAY_CFG_REPLAY_Q))
  let q := s.tdsp.replayQ
  let put := fun (s : State) (l : List Captured) => { s with tdsp := { s.tdsp with replayQ := l } }
  if tilePoison r then s.incFld F.STW_REPLAY_CNT_POISONED
  else if q.length < limit then put s (q ++ [c])
  else
    let s := s.incFld F.STW_REPLAY_CNT_DROPPED
    match q.reverse.findIdx? (fun x => !x.forced) with
    | some i => if c.forced then put s (q.eraseIdx (q.length - 1 - i) ++ [c]) else s
    | none => s

/-- Pool cores without a tile, the longest idle first. -/
def idlePool (s : State) : List Nat := s.tdsp.idle.filter (fun c => s.inPool c && (s.core c).jobs.isEmpty)

/-- The first queued tile replayed (R279): each sub-tile on its own core, or pair of cores, by longest idleness. It waits while the pool has too few idle
cores, and while disputes and replays pause. -/
def replayDispatch (s : State) : State :=
  match s.tdsp.replayQ with
  | [] => s
  | c :: rest =>
    if !s.works 14 || s.flag F.MGT_PWR_STATUS_FAST_HOLD then s
    else
      let gone := { s with tdsp := { s.tdsp with replayQ := rest } }
      match s.profileOf c.profile with
      | none => (gone.incFld F.STW_REPLAY_CNT_BAD_PROFILE).incFld F.ARB_CNT_NO_RESULT
      | some p =>
        if p.fmtA ≠ c.fmtA ∨ p.fmtB ≠ c.fmtB ∨ p.fmtC ≠ c.fmtC then (gone.incFld F.STW_REPLAY_CNT_BAD_PROFILE).incFld F.ARB_CNT_NO_RESULT
        else
          let per := if p.paired then 2 else 1
          let at_ := cuts c.m c.n
          let cores := s.idlePool
          if cores.length < per * at_.length then s
          else
            let no := s.tdsp.nextReplay
            let (t, _) := c.tile p
            let subs := (List.range at_.length).map (fun i =>
              let rc := at_.getD i (0, 0)
              ({ row := rc.1, col := rc.2, cores := (cores.drop (per * i)).take per, paired := p.paired } : SubTile))
            let rs : List Replay := gone.tdsp.replays ++ [{ no := no, src := c, subs := subs }]
            let s := { gone with tdsp := { gone.tdsp with replays := rs, nextReplay := no + 1 } }
            ((List.range subs.length).foldl (fun (s : State) i =>
              match subs[i]? with
              | none => s
              | some x => (List.range per).foldl (fun (s : State) k =>
                  s.give (x.cores.getD k 0) { tile := t.sub x.row x.col, why := .replay no i (k == 1) }) s) s).perf 14 0x101 1

/-! ### ARB (R280, R281, R460) -/

/-- ARB's decision of a dispute (R277, outcome 2): each core whose result differs is fenced, the others return to the pool, ARB's result is released. -/
def arbDispute (s : State) (x : Nat) : State :=
  match s.tdsp.disputes.find? (fun d => d.x == x && d.arb) with
  | none => s
  | some d =>
    let (v, _) := tileSums (s.ownProfile d.job.tile) d.job.tile
    let s := (s.release x d.job (some v)).closeDispute d 2
    let parties := [(d.x, some d.rx), (d.y, d.ry)]
    parties.foldl (fun s q =>
      if q.2 != some v then (s.residueWinter q.1).incFld F.ARB_CNT_CORE_WRONG else s.holdCore q.1 false) s

/-- ARB's judgement of a replay (R280, R341). -/
def arbReplay (s : State) (no : Nat) : State :=
  match s.tdsp.replays.find? (fun r => r.no == no) with
  | none => s
  | some r =>
    match s.profileOf r.src.profile with
    | none => s.noResult no
    | some p =>
      let (t, d) := r.src.tile p
      let badD := !(outside p t d none).isEmpty
      let badP := outside p t (finalRows p r.src.n r.joined) none
      let s := s.dropReplay no
      let s := if badD then
          let s := (s.incFld F.ARB_CNT_DIE_WRONG).countTrial r.src.die r.src.context
          s.failingOutcome 11 1 r.src.die 1 r.src.context 0 0
        else s
      if badP.isEmpty then (if badD then s else s.countTrial r.src.die r.src.context)
      else
        let wrong := r.subs.filter (fun x => badP.any (fun e => e.1 / 128 == x.row / 128 && e.2 / 128 == x.col / 128))
        let s := ((wrong.map (fun x => x.cores)).flatten.eraseDups).foldl (fun s c => if s.works (16 + c) then s.enterWinter (16 + c) else s)
          (s.incFld F.ARB_CNT_CORE_WRONG)
        if badD then s else { s with tdsp := { s.tdsp with replayQ := r.src :: s.tdsp.replayQ } }

/-- Products of a job's tile. -/
def arbProducts (s : State) (j : ArbJob) : Nat :=
  match j.kind with
  | 0 => match s.tdsp.disputes.find? (fun d => d.x == j.ref) with
    | some d => d.job.tile.a.length * d.job.tile.b.length * ((d.job.tile.a.headD []).length * 32)
    | none => 0
  | 1 => match s.tdsp.replays.find? (fun r => r.no == j.ref) with | some r => r.src.m * r.src.n * r.src.k | none => 0
  | _ => 0

/-- ARB begins its next job (R281); a checker dispute has the node aggregator ask the sender's Potik (R330). -/
def arbStart (s : State) : State :=
  if !s.works 11 || s.tdsp.arb.isSome || s.flag F.MGT_PWR_STATUS_FAST_HOLD then s
  else match s.tdsp.arbQ with
  | [] => s
  | j :: rest =>
    let s := ({ s with tdsp := { s.tdsp with arb := some j, arbQ := rest } }).showArb
    if j.kind = 2 then s.ctrlWrite (slotOf j.ref) [(0x6C8, j.round % 2 ^ 16 + j.seq % 2 ^ 32 * 2 ^ 16)] .plain else s

/-- ARB has no job in progress any more. -/
def arbClear (s : State) : State := ({ s with tdsp := { s.tdsp with arb := none } }).showArb

/-- ARB's residue check fails (R460): the job returns to the head of the queue, and the error is FATAL. -/
def arbResidue (s : State) (loc : Nat) (inj : Bool) : State :=
  if s.tdsp.arb.isNone then s else s.arbToHead.recordError 11 0x11 3 loc inj

/-- ARB finishes a dispute or replay with its exact result (R280, R281). A checker dispute ends with its Digest report. -/
def arbDone (s : State) : State :=
  match s.tdsp.arb with
  | none => s
  | some j =>
    if !s.works 11 || j.kind = 2 || s.flag F.MGT_PWR_STATUS_FAST_HOLD then s
    else if s.injectArmed 11 4 then (s.fireInject 11).arbResidue 0 true
    else
      let s := (s.arbClear.incFld F.ARB_CNT_JOBS).perf 11 0x100 (s.arbProducts j)
      if j.kind = 0 then s.arbDispute j.ref else s.arbReplay j.ref

end State

/-! ### Meanings -/

/-- TILE_DISPATCH (R247): `home` is the core that holds the tile's position (R290, R291). In Winter state the dispatcher issues no tile. -/
def execTileDispatch (home : Nat) (tile : Tile) (s : State) : Host.Outcome State Fault Refusal :=
  s.run (fun s => if s.works 14 then s.dispatchTile home tile else s)

/-- TILE_COMPLETE (R263): `wrong` is the result of a core whose fault no check sees. -/
def execTileComplete (core : Nat) (wrong : Option (List (List Nat))) (s : State) : Host.Outcome State Fault Refusal :=
  s.run (fun s => s.tileComplete core wrong)

/-- RESIDUE_MISMATCH (R277). -/
def execResidueMismatch (core loc : Nat) (rx : Option (List (List Nat))) (s : State) : Host.Outcome State Fault Refusal :=
  s.run (fun s => match (s.core core).jobs with
    | [] => s
    | j :: _ =>
      match j.why with
      | .rerun _ => s
      | _ => if s.works (16 + core) then s.mismatch core j (s.jobSums j rx).1 loc false else s)

/-- DISPUTE_RERUN_DONE (R277). -/
def execDisputeRerunDone (core : Nat) (clean : Bool) (ry : Option (List (List Nat))) (agrees : Bool) (loc : Nat) (s : State) :
    Host.Outcome State Fault Refusal := s.run (fun s => s.rerunDone core clean ry agrees loc)

/-- WEIGHT_RELOAD (R271). -/
def execWeightReload (core : Nat) (s : State) : Host.Outcome State Fault Refusal :=
  s.run (fun s => if core < 84 && s.works (16 + core) then s.incFld (F.Tnn_CENSUS2_WEIGHT_RELOAD.at core) else s)

/-- REPLAY_ENQUEUE (R340). -/
def execReplayEnqueue (r : Rec) (s : State) : Host.Outcome State Fault Refusal :=
  s.run (fun s => if s.works 14 then s.replayEnqueue r else s)

/-- REPLAY_DISPATCH (R279). -/
def execReplayDispatch (s : State) : Host.Outcome State Fault Refusal := s.run (fun s => s.replayDispatch)

/-- ARB_JOB_START (R281). -/
def execArbJobStart (s : State) : Host.Outcome State Fault Refusal := s.run (fun s => s.arbStart)

/-- ARB_JOB_DONE (R281). -/
def execArbJobDone (s : State) : Host.Outcome State Fault Refusal := s.run (fun s => s.arbDone)

/-- ARB_RESIDUE (R460). -/
def execArbResidue (loc : Nat) (s : State) : Host.Outcome State Fault Refusal := s.run (fun s => s.arbResidue loc false)

end Sys2Proof.Machine
end

