-- ==== Sys2Proof/Machine/Digest.lean ====
section
/-! DEFINITION. DIG: contribution digests, the answers of rounds, checker disputes and arrivals (13, R37 to R40, R311). -/

namespace Sys2Proof.Machine

/-! ### Trailers (R136, R325, R326) -/

/-- Fields of a trailer. -/
def trDigest (t : Bytes) : Nat := bytesAt t 0 8
def trSrc (t : Bytes) : Nat := bytesAt t 8 4
def trSeq (t : Bytes) : Nat := bytesAt t 12 4
def trRound (t : Bytes) : Nat := bytesAt t 16 2
def trRetained (t : Bytes) : Bool := bit (bytesAt t 18 1) 0
def trPoison (t : Bytes) : Bool := bit (bytesAt t 18 1) 1
def trVersion (t : Bytes) : Nat := bytesAt t 19 1
def trLen (t : Bytes) : Nat := bytesAt t 20 4

/-- A reserved bit of the trailer is 1. -/
def trReserved (t : Bytes) : Bool := bytesAt t 18 1 / 4 != 0 || bytesAt t 24 4 != 0

/-- The payload beats on the tap hold LEN bytes (R326). -/
def lenOk (t payload : Bytes) : Bool :=
  let n := (payload.length + 2047) / 2048
  decide (trLen t ≤ payload.length) && decide (2048 * n < trLen t + 2048)

/-- The level that a contributor belongs to: dies 0, trays 1, groups 2. -/
def contribLevel (a : Nat) : Nat := if !isLevelAddr a then 0 else if unitOf a = 2047 then 1 else 2

namespace State

/-- Rounds open. -/
def setRounds (s : State) (l : List DRound) : State :=
  ({ s with dig := { s.dig with rounds := l } }).setFld F.DIG_STATUS_OPEN_ROUNDS (min 64 l.length)

/-- DIG checks nothing now: Winter state or reset, or no committed image (R40). -/
def digDark (s : State) : Bool := !s.works 10 || s.img.isNone

/-- A round of which no chunk is checked. -/
def digUncheck (s : State) (round : Nat) : State :=
  if s.dig.unchecked.contains round then s else { s with dig := { s.dig with unchecked := s.dig.unchecked ++ [round] } }

/-- The check code of a chunk that DIG checks (R327): 0 when it passes all. -/
def chunkCheck (s : State) (round : Nat) (marked : Bool) (t payload : Bytes) : Nat :=
  if !marked then 1
  else if (crc32c (t.take 28)).toNat != bytesAt t 28 4 then 2
  else if (trVersion t != 1 && trVersion t != 2) || trReserved t then 3
  else if !lenOk t payload then 4
  else if trRound t != round || s.dig.answered.contains round then 5
  else if !s.image.contributors.contains (trSrc t, trVersion t) then 6
  else if !trPoison t && (crc64 (payload.take (trLen t))).toNat != trDigest t then 7
  else 0

/-- A DIGEST_OUTCOME Event (R332). -/
def digestOutcome (s : State) (src round outcome check seq : Nat) : State :=
  s.event 14 0x8003 src round (le 1 outcome ++ le 1 check ++ zeros 2 ++ le 4 seq ++ zeros 4)

/-- An outcome of R331 counted and reported. -/
def digOutcome (s : State) (src round outcome check seq : Nat) : State :=
  let f := match outcome with
    | 2 => F.DIG_DISPUTE_TRANSPORT | 3 => F.DIG_DISPUTE_UNDECIDED | 4 => F.DIG_DISPUTE_DIE_MEMORY | _ => F.DIG_DISPUTE_FRAME
  (s.incFld f).digestOutcome src round outcome check seq

/-- The count of a failed check. -/
def checkCount (check : Nat) : Fld := if check ≤ 5 then F.DIG_CNT1_FRAME_ERR else if check = 6 then F.DIG_CNT1_SOURCE_ERR else F.DIG_CNT1_DIGEST_ERR

/-- A digest failure of a retained chunk opens a checker dispute, at most one per sender and round (R330); without one it stays undecided. -/
def openCheckerDispute (s : State) (round : Nat) (t : Bytes) : State :=
  let src := trSrc t
  let had := s.dig.rounds.any (fun r => r.round == round && r.disputed.contains src)
  if !s.flag F.DIG_CFG_DISPUTE_EN || had then s.digOutcome src round 3 7 (trSeq t)
  else
    let s := s.setRounds (s.dig.rounds.map (fun r => if r.round = round then { r with disputed := r.disputed ++ [src] } else r))
    let (ok, s) := s.arbQueue { kind := 2, ref := src, round := round, seq := trSeq t }
    if ok then s else (s.incFld F.ARB_CNT_NO_RESULT).digOutcome src round 3 7 (trSeq t)

/-- What a failed check leads to (R331). -/
def checkFailed (s : State) (round check : Nat) (t : Bytes) : State :=
  let src := if check = 1 then 0 else trSrc t
  let seq := if check = 1 then 0 else trSeq t
  let s := s.incFld (checkCount check)
  let s := s.setReg F.DIG_ERR_LOC_SRC.addr (BitVec.ofNat 64 (src + round % 2 ^ 16 * 2 ^ 32 + check * 2 ^ 48))
  if check ≤ 5 then s.digOutcome src round 0 check seq
  else if check = 6 then s.digOutcome src round 1 check seq
  else if trVersion t = 2 then s.digOutcome src round 2 check seq
  else if !trRetained t then s.digOutcome src round 3 check seq
  else s.openCheckerDispute round t

/-- The last beat of a chunk passes the tap (R327, R328): its round opens, its arrival is stamped, and it is checked. -/
def chunk (s : State) (round : Nat) (marked : Bool) (t payload : Bytes) (now : Int) : State :=
  if s.digDark then s.digUncheck round
  else
    let known := s.dig.rounds.any (fun r => r.round == round)
    if !known && decide (64 ≤ s.dig.rounds.length) then s.digUncheck round
    else
      let s := if known then s else s.setRounds (s.dig.rounds ++ [{ round := round }])
      if s.dig.unchecked.contains round || !s.flag F.DIG_CFG_CHECK_EN then s
      else
        let code := s.chunkCheck round marked t payload
        let poison := code == 0 && trPoison t
        let s := (s.incFld F.DIG_CNT0_CHUNKS).perf 10 0x100 1
        let s := if poison then s.incFld F.DIG_CNT1_POISONED else s
        let s := s.setRounds (s.dig.rounds.map (fun r => if r.round = round then
          { r with stop := r.stop || poison || code != 0, chunks := r.chunks + 1
                   arrivals := if code = 1 then r.arrivals else r.arrivals.filter (fun x => x.1 != trSrc t) ++ [(trSrc t, now)] } else r))
        if code = 0 then s else s.checkFailed round code t

/-! ### Arrivals (R311) -/

/-- A contributor that arrived last: its charge and LAST count raised. -/
def stragLast (g : Strag) (a : Nat) (charge : Int) : Strag :=
  if g.charges.any (fun c => c.1 == a) then
    { g with charges := g.charges.map (fun c => if c.1 = a then (c.1, c.2.1 + charge, c.2.2 + 1) else c) }
  else { g with charges := g.charges ++ [(a, charge, 1)] }

/-- A level's straggler figures of an epoch with one more round: the contributors that arrived at L are charged L − L2, which is 0 for several. -/
def stragCharge (g : Strag) (arr : List (Nat × Int)) : Strag :=
  let g := { g with rounds := g.rounds + 1 }
  if arr.length < 2 then g
  else
    let late := (arr.map (fun x => x.2)).foldl max ((arr.headD (0, 0)).2)
    let last := arr.filter (fun x => x.2 == late)
    let rest := (arr.filter (fun x => x.2 != late)).map (fun x => x.2)
    let second := if last.length = 1 then rest.foldl max (rest.headD 0) else late
    last.foldl (fun g x => stragLast g x.1 (late - second)) g

/-- A round's arrivals charged to the open epoch, by the contributors' level (R311). -/
def chargeRound (s : State) (arr : List (Nat × Int)) : State :=
  let levels := if arr.isEmpty then [0] else ((arr.map (fun x => contribLevel x.1)).eraseDups)
  let l := levels.foldl (fun (l : List Strag) lv =>
    let mine := arr.filter (fun x => contribLevel x.1 == lv)
    if l.any (fun g => g.level == lv && g.epoch == s.epoch) then
      l.map (fun g => if g.level = lv ∧ g.epoch = s.epoch then stragCharge g mine else g)
    else l ++ [stragCharge { level := lv, epoch := s.epoch } mine]) s.dig.strag
  { s with dig := { s.dig with strag := l.filter (fun g => decide (s.epoch < g.epoch + 256)) } }

/-- The open epoch is not measured (R312). -/
def digUnmeasured (s : State) : State :=
  if s.dig.unmeasured.contains s.epoch then s
  else { s with dig := { s.dig with unmeasured := s.dig.unmeasured.filter (fun e => decide (s.epoch < e + 256)) ++ [s.epoch] } }

/-- The round-end strobe (R39, R40, R328): DIG answers the round, once. -/
def roundEnd (s : State) (round : Nat) : State :=
  let r := (s.dig.rounds.find? (fun x => x.round == round)).getD { round := round }
  let un := s.digDark || s.dig.unchecked.contains round || !s.flag F.DIG_CFG_CHECK_EN
  let ans := if un then 2 else if r.stop then 1 else 0
  let s := s.chargeRound r.arrivals
  let s := if un then
      let s := (s.incFld F.DIG_CNT0_UNCHECKED).digUnmeasured
      if s.works 10 then s else { s with dig := { s.dig with dark := s.dig.dark + 1 } }
    else s
  let s := if ans = 1 then s.incFld F.DIG_CNT0_STOPS else s
  let s := if ans = 0 then s else s.trace 10 8 (le 2 round ++ le 1 ans)
  let s := s.setRounds (s.dig.rounds.filter (fun x => x.round != round))
  let near := fun (x : Nat) => x != round && decide ((round + 2 ^ 16 - x) % 2 ^ 16 < 2 ^ 15)
  let s := { s with dig := { s.dig with unchecked := s.dig.unchecked.filter (fun x => x != round)
                                        answered := s.dig.answered.filter near ++ [round] } }
  ((s.setFld F.DIG_STATUS_LAST_ROUND round).setFld F.DIG_STATUS_LAST_ANSWER ans).emit (.digAnswer round ans)

/-- At a tick: an epoch with DIG in Winter state is not measured; at the first tick after it the rounds answered 0b10 are reported (R312, R333). -/
def digTick (s : State) : State :=
  if !s.works 10 then s.digUnmeasured
  else if s.dig.dark = 0 then s
  else
    let k := s.dig.dark
    let s := { s with dig := { s.dig with dark := 0 } }
    s.send 14 0x0A 10 s.myNode (2 ^ flagUnchecked) (eventBody 0x8003 s.myNode 0 (le 1 5 ++ zeros 7 ++ le 4 k))

/-! ### Checker disputes (R330, R331) -/

/-- A Digest report answers ARB's checker dispute (R331). -/
def digestReport (s : State) (r : Rec) : State :=
  match s.tdsp.arb with
  | none => s
  | some j =>
    if !s.works 11 || j.kind ≠ 2 || j.ref ≠ senderOf r.src || j.round ≠ bytesAt r.body 16 2 || j.seq ≠ bytesAt r.body 20 4 then s
    else
      let out := match bytesAt r.body 18 1 with | 0 => 2 | 1 => 4 | _ => 3
      let s := (s.arbClear.incFld F.ARB_CNT_JOBS).trace 11 9 (le 1 2 ++ le 1 out ++ zeros 2)
      match bytesAt r.body 18 1 with
      | 0 => s.digOutcome j.ref j.round 2 7 j.seq
      | 1 => (s.digOutcome j.ref j.round 4 7 j.seq).failingOutcome 11 2 j.ref 1 (bytesAt r.body 24 2) j.round 0
      | _ => s.digOutcome j.ref j.round 3 7 j.seq

/-- A job that is not finished in time ends without a result (R278, R281, R331). -/
def arbTimeout (s : State) (place : Nat) : State :=
  let job := if place = 0 then s.tdsp.arb else s.tdsp.arbQ[place - 1]?
  match job with
  | none => s
  | some j =>
    let s := if place = 0 then s.arbClear else ({ s with tdsp := { s.tdsp with arbQ := s.tdsp.arbQ.eraseIdx (place - 1) } }).showArb
    match j.kind with
    | 0 =>
      let s := s.incFld F.ARB_CNT_NO_RESULT
      (match s.tdsp.disputes.find? (fun d => d.x == j.ref && d.arb) with
       | some d => s.unresolved d
       | none => s)
    | 1 => s.noResult j.ref
    | _ => ((s.incFld F.ARB_CNT_NO_RESULT).trace 11 9 (le 1 2 ++ le 1 3 ++ zeros 2)).digOutcome j.ref j.round 3 7 j.seq

end State

/-- CHUNK_CHECK (R327): `round` is ctl [19:4], `marked` ctl [2] of the last beat; the payload bytes as the tap's beats hold them. -/
def execChunkCheck (round : Nat) (marked : Bool) (trailer payload : Bytes) (now : Int) (s : State) : Host.Outcome State Fault Refusal :=
  s.run (fun s => s.chunk round marked trailer payload now)

/-- ROUND_END (R328). -/
def execRoundEnd (round : Nat) (s : State) : Host.Outcome State Fault Refusal := s.run (fun s => s.roundEnd round)

/-- DIGEST_REPORT (R331). -/
def execDigestReport (r : Rec) (s : State) : Host.Outcome State Fault Refusal := s.run (fun s => s.digestReport r)

/-- ARB_TIMEOUT (R281). -/
def execArbTimeout (place : Nat) (s : State) : Host.Outcome State Fault Refusal := s.run (fun s => s.arbTimeout place)

end Sys2Proof.Machine
end

