-- ==== Sys2Proof/Machine/Replica.lean ====
section
/-! DEFINITION. Replica weight digests: ordinals, comparisons and focus (13). -/

namespace Sys2Proof.Machine
namespace State

/-! ### Who evaluates a set (R32, R334) -/

/-- The lowest level whose subtree holds every address: 0 node, 1 group, 2 system (R32). -/
def lowestLevel (members : List Nat) : Nat :=
  match members with
  | [] => 0
  | a :: rest =>
    if rest.all (fun b => b / 2 ^ 18 == a / 2 ^ 18) then 0 else if rest.all (fun b => b / 2 ^ 24 == a / 2 ^ 24) then 1 else 2

/-- The level address that evaluates a list of members. -/
def evaluatorOf (members : List Nat) : Nat :=
  let a := members.headD 0
  match lowestLevel members with
  | 0 => nodeAddr (a / 2 ^ 24) (a / 2 ^ 18 % 64)
  | 1 => groupAddr (a / 2 ^ 24)
  | _ => systemAddr

/-- This block evaluates them, in a role that STB_MGT_ROLE shows (R32). -/
def evaluates (s : State) (members : List Nat) : Bool :=
  match lowestLevel members with
  | 0 => s.flag F.MGT_ROLE_NODE_AGG && evaluatorOf members == s.myNode
  | 1 => s.masterOf .group && evaluatorOf members == s.myGroup
  | _ => s.masterOf .system

/-! ### Focus (R338) -/

/-- Strata whose image quota lies below FOCUS_QUOTA. -/
def focusStrata (s : State) : List Nat :=
  (List.range 1024).filter (fun i => decide (s.image.quotas.getD i 0 < s.fld F.STW_REPLAY_CFG_FOCUS_QUOTA))

/-- Quotas written into a Potik, at most 32 strata a request (R163, R339). -/
def writeQuotas (s : State) (die : Nat) (qs : List (Nat × Nat)) : State :=
  (groupsOf 32 qs.length qs).foldl (fun s g => s.ctrlWrite (slotOf die) ((g.map (fun q => [(0x690, q.1), (0x698, q.2)])).flatten) .plain) s

/-- A set put in focus at this block (R338). -/
def setFocus (s : State) (set : Nat) : State :=
  ({ s with stw := { s.stw with focus := s.stw.focus.filter (fun f => f != set) ++ [set] } }).setFld (F.STW_REPLICA_DATA_FOCUS.at set) 1

/-- The set's focus raises an affected member's quotas, at its node aggregator. -/
def focusMember (s : State) (set die : Nat) : State :=
  if die / 2 ^ 18 ≠ s.myNode / 2 ^ 18 then s
  else
    let s := s.setFocus set
    if s.stw.focused.contains (set, die) then s
    else
      let q := s.fld F.STW_REPLAY_CFG_FOCUS_QUOTA
      ({ s with stw := { s.stw with focused := s.stw.focused ++ [(set, die)] } }).writeQuotas die (s.focusStrata.map (fun i => (i, q)))

/-- FOCUS_EPOCHS have passed: the set leaves focus, and the image's quotas are restored for members that no other set keeps in focus. -/
def focusEnd (s : State) (set : Nat) : State :=
  if !s.stw.focus.contains set then s
  else
    let mine := s.stw.focused.filter (fun f => f.1 == set)
    let rest := s.stw.focused.filter (fun f => f.1 != set)
    let s := ({ s with stw := { s.stw with focus := s.stw.focus.filter (fun f => f != set), focused := rest } }).setFld
      (F.STW_REPLICA_DATA_FOCUS.at set) 0
    mine.foldl (fun s f => if rest.any (fun x => x.2 == f.2) then s
      else s.writeQuotas f.2 (s.focusStrata.map (fun i => (i, s.image.quotas.getD i 0)))) s

/-! ### Comparison (R336, R337) -/

/-- An ordinal of a set compared with the digests held (R336). -/
def compareSet (s : State) (set ord : Nat) : State :=
  let held := s.stw.digests.filter (fun d => d.set == set && d.ord == ord)
  let s := { s with stw := { s.stw with digests := s.stw.digests.filter (fun d => !(d.set == set && d.ord == ord)) } }
  let s := s.setFld (F.STW_REPLICA_DATA_LAST_ORDINAL.at set) ord
  let c := held.filter (fun d => d.status == 0)
  let votes := fun (v : Nat) => (c.filter (fun d => d.digest == v)).length
  let report := fun (s : State) (kind : Nat) (ds : List WDigest) =>
    ds.foldl (fun s d => s.failingOutcome 14 kind d.member 1 d.context ord set) s
  if c.length ≤ 1 then s.incFld F.STW_REPLICA_CNT_INCOMPLETE
  else if c.all (fun d => votes d.digest == c.length) then s.incFld F.STW_REPLICA_CNT_AGREE
  else match (if 3 ≤ c.length then c.find? (fun d => decide (c.length < 2 * votes d.digest)) else none) with
    | some m => report (s.incFld F.STW_REPLICA_CNT_MINORITY) 3 (c.filter (fun d => d.digest != m.digest))
    | none =>
      let s := (report (s.incFld F.STW_REPLICA_CNT_SPLIT) 4 c).setFocus set
      c.foldl (fun s d => s.focusMember set d.member) s

/-- The evaluating master takes a digest (R336): an ordinal already compared is past; all members present, it compares. -/
def takeDigest (s : State) (d : WDigest) : State :=
  match s.image.replicas[d.set]? with
  | none => s
  | some x =>
    let last := s.fld (F.STW_REPLICA_DATA_LAST_ORDINAL.at d.set)
    if !s.evaluates x.members || d.ord ≤ last || !x.members.contains d.member ||
       s.stw.digests.any (fun y => y.set == d.set && y.ord == d.ord && y.member == d.member) then s
    else
      let s := { s with stw := { s.stw with digests := s.stw.digests ++ [d] } }
      let have_ := (s.stw.digests.filter (fun y => y.set == d.set && y.ord == d.ord)).length
      if have_ = x.members.length then s.compareSet d.set d.ord else s

/-! ### Ordinals (R335) -/

/-- PARAM of a WEIGHT_DIGEST Event (R332). -/
def weightParam (d : WDigest) : Bytes := le 8 d.digest ++ le 2 (d.set % 1024 + d.status * 1024) ++ le 2 d.context

/-- A closed instance of a set's tensor on a member (R335): its ordinal, and the Event where the set compares it. -/
def instanceClosed (s : State) (set : Nat) (x : ReplicaSet) (member : Nat) (e : Bytes) : State :=
  let key := set * 2 ^ 32 + member
  let ord := s.stw.ordinals.get zero key + 1
  let fl := bytesAt e 1 1
  let cut := bit fl 4 || bit fl 5
  let s := { s with stw := { s.stw with ordinals := s.stw.ordinals.put zero key ord
                                        cut := if cut && !s.stw.cut.contains key then s.stw.cut ++ [key] else s.stw.cut } }
  if ord % max 1 x.every ≠ 0 ∧ !s.stw.focus.contains set then s
  else
    let status := if s.stw.cut.contains key || s.stw.gapped.contains member then 3 else if bit fl 3 then 2 else if bit fl 0 || bit fl 1 then 1 else 0
    let d : WDigest := { set := set, ord := ord, member := member, status := status, digest := bytesAt e 40 8, context := bytesAt e 4 2,
                         since := s.epoch }
    let s := if s.evaluates x.members then s.event 14 0x8001 member ord (weightParam d)
      else s.sendTo 14 [evaluatorOf x.members] 0x0A 10 s.myNode 0 (eventBody 0x8001 member ord (weightParam d))
    if s.evaluates x.members then s.takeDigest d else s

/-- A Tensor watch record at the node aggregator (R335). -/
def tensorWatch (s : State) (r : Rec) : State :=
  let die := senderOf r.src
  let s := if r.flag flagLoss && !s.stw.gapped.contains die then { s with stw := { s.stw with gapped := s.stw.gapped ++ [die] } } else s
  let n := bytesAt r.body 0 2
  (List.range n).foldl (fun s i =>
    let e := (r.body.drop (8 + 128 * i)).take 128
    if !bit (bytesAt e 0 1) 7 || e.length < 128 then s
    else (List.range s.image.replicas.length).foldl (fun s k =>
      match s.image.replicas[k]? with
      | some x => if x.tag == bytesAt e 2 2 && x.members.contains die then s.instanceClosed k x die e else s
      | none => s) s) s

/-- The digest that a WEIGHT_DIGEST Event carries. -/
def digestOfEvent (s : State) (r : Rec) : WDigest :=
  let b := r.body
  { set := bytesAt b 20 2 % 1024, ord := bytesAt b 8 4, member := bytesAt b 4 4, status := bytesAt b 20 2 / 1024 % 4, digest := bytesAt b 12 8,
    context := bytesAt b 22 2, since := s.epoch }

/-- Replica data begins anew at a job start (R335). -/
def replicaRestart (s : State) : State := { s with stw := { s.stw with ordinals := [], cut := [], gapped := [] } }

/-- An INTEGRITY_OUTCOME Event received (R333, R338). -/
def outcomeEvent (s : State) (r : Rec) : State :=
  let b := r.body
  let kind := bytesAt b 12 1
  let s := s.countOutcome 14 kind (bytesAt b 4 4) (bytesAt b 8 4) (bytesAt b 14 2)
  if kind = 4 ∧ s.works 14 then s.focusMember (bytesAt b 20 2) (bytesAt b 4 4) else s

end State

/-- INTEGRITY_OUTCOME (R333): an outcome that another block found, as an Event record. -/
def execIntegrityOutcome (r : Rec) (s : State) : Host.Outcome State Fault Refusal := s.run (fun s => s.outcomeEvent r)

/-- TENSOR_WATCH_RECEIVE (R335). -/
def execTensorWatchReceive (r : Rec) (s : State) : Host.Outcome State Fault Refusal :=
  s.run (fun s => if s.works 14 then s.tensorWatch r else s)

/-- WEIGHT_DIGEST_RECEIVE (R336): a WEIGHT_DIGEST Event record. -/
def execWeightDigestReceive (r : Rec) (s : State) : Host.Outcome State Fault Refusal :=
  s.run (fun s => if s.works 14 then s.takeDigest (s.digestOfEvent r) else s)

/-- REPLICA_DEADLINE (R336): DEADLINE epochs after the first digest of an ordinal arrived. -/
def execReplicaDeadline (set ordinal : Nat) (s : State) : Host.Outcome State Fault Refusal :=
  s.run (fun s => if s.works 14 && s.stw.digests.any (fun d => d.set == set && d.ord == ordinal) then s.compareSet set ordinal else s)

/-- FOCUS_END (R338). -/
def execFocusEnd (set : Nat) (s : State) : Host.Outcome State Fault Refusal := s.run (fun s => s.focusEnd set)

end Sys2Proof.Machine
end

