-- ==== Sys2Proof/Machine/Testing.lean ====
section
/-! DEFINITION. TST: pattern packages, slots, due tests and their results (13). -/

namespace Sys2Proof.Machine

/-- The bytes of a package's header as a package (R345), the body after it. -/
def Package.ofBytes (b : Bytes) (act : Nat) : Package :=
  { id := bytesAt b 0 4, version := bytesAt b 4 4, dieType := bytesAt b 8 4, lengthNs := bytesAt b 12 4, band := bytesAt b 16 1 % 8,
    bandReq := bit (bytesAt b 16 1) 3, withdraw := bit (bytesAt b 16 1) 4, classMask := bytesAt b 20 2, period := bytesAt b 24 4,
    body := b.drop 160, act := act }

/-- BODY_LEN and BODY_CRC hold (R345, R346). -/
def packageCrc (b : Bytes) : Bool :=
  decide (160 ≤ b.length) && bytesAt b 28 4 == (b.drop 160).length && (crc64 (b.drop 160)).toNat == bytesAt b 32 8

/-- The signature verifies against the package key (R345, R346). -/
def packageSigned (key b : Bytes) : Bool :=
  Config.ecdsaVerify key (Config.sha384 (b.take 64 ++ b.drop 160)) ((b.drop 64).take 96)

namespace State

/-- PACKAGES shows the packages held. -/
def setPackages (s : State) (l : List Package) : State :=
  ({ s with tst := { s.tst with packages := l } }).setFld F.TST_STATUS_PACKAGES (min 256 l.length)

/-- Entry of STB_TST_PKG_DATA (R347). -/
def packageWord (s : State) (i : Nat) : Word :=
  match s.tst.packages[i]? with
  | some p => BitVec.ofNat 64 (p.id + p.version * 2 ^ 32)
  | none => 0

/-- A package checked and kept until its activation epoch (R346, R347): false when it fails a check or finds 256 held, which BAD_SIG counts; a version not
above the one held is discarded. -/
def keepPackage (s : State) (b : Bytes) (act : Nat) : Bool × State :=
  match s.image.packageKey with
  | none => (false, s.incFld F.TST_STATUS_BAD_SIG)
  | some key =>
    if !packageCrc b || !packageSigned key b then (false, s.incFld F.TST_STATUS_BAD_SIG)
    else
      let p := Package.ofBytes b act
      if s.tst.packages.any (fun q => q.id == p.id && decide (p.version ≤ q.version)) then (true, s)
      else if 256 ≤ s.tst.packages.length then (false, s.incFld F.TST_STATUS_BAD_SIG)
      else (true, s.setPackages (s.tst.packages ++ [p]))

/-- Packages whose activation epoch has come take effect (R347): the newest version of an identifier replaces the lower ones, and a WITHDRAW package
removes them all. -/
def activatePackages (s : State) : State :=
  let act := s.tst.packages.filter (fun p => decide (p.act ≤ s.epoch))
  let best := fun (p : Package) => act.all (fun q => q.id != p.id || decide (q.version ≤ p.version))
  s.setPackages (s.tst.packages.filter (fun p => decide (s.epoch < p.act) || (best p && !p.withdraw)))

/-! ### Due tests (R348, R349) -/

/-- The unit class of a core of a die. -/
def coreClass (d : DieCfg) (c : Nat) : Nat := ((d.units.find? (fun u => decide (u.1 ≤ c) && decide (c ≤ u.2.1))).map (fun u => u.2.2)).getD 0

/-- Packages in force that match a die's type, ascending. -/
def matching (s : State) (d : DieCfg) : List Package :=
  s.tst.packages.filter (fun p => decide (p.act ≤ s.epoch) && !p.withdraw && p.dieType == d.dieType)

/-- A package is on core `c` of a die, and its period has passed since its last PASS or FAIL there (R349). -/
def isDue (s : State) (d : DieCfg) (p : Package) (c : Nat) : Bool :=
  bit p.classMask (coreClass d c) &&
  (match s.tst.done.find? (fun x => x.1 == d.slot && x.2.1 == c && x.2.2.1 == p.id) with
   | some x => decide (x.2.2.2 + (p.period : Int) * 1000000000 * 65536 ≤ s.tim.time)
   | none => true)

/-- Due tests of a die brought up to date: what has become due since joins with the open epoch; what no package in force wants is dropped. -/
def updateDue (s : State) (d : DieCfg) : State :=
  let ps := s.matching d
  let keep := s.tst.due.filter (fun x => x.die != d.slot || ps.any (fun p => p.id == x.pkg))
  let new := (ps.map (fun p => ((List.range d.testCores).filter (fun c =>
      s.isDue d p c && !keep.any (fun x => x.die == d.slot && x.core == c && x.pkg == p.id))).map (fun c =>
        ({ die := d.slot, core := c, pkg := p.id, epoch := s.epoch, time := s.tim.time } : DueCore)))).flatten
  { s with tst := { s.tst with due := keep ++ new } }

/-- When the oldest due core of a package on a die became due. -/
def oldestDue (s : State) (die pkg : Nat) : Int :=
  match (s.tst.due.filter (fun x => x.die == die && x.pkg == pkg)).map (fun x => x.time) with
  | [] => 2 ^ 100
  | t :: ts => ts.foldl min t

/-- The packages a Potik's 16 slots hold (R348): all that match, or those whose oldest due core has been waiting longest. -/
def chosen (s : State) (d : DieCfg) : List Package :=
  let ps := s.matching d
  if ps.length ≤ 16 then ps
  else
    let insert := fun (l : List Package) (p : Package) =>
      l.takeWhile (fun q => decide (s.oldestDue d.slot q.id ≤ s.oldestDue d.slot p.id)) ++ [p] ++
      l.dropWhile (fun q => decide (s.oldestDue d.slot q.id ≤ s.oldestDue d.slot p.id))
    (ps.foldl insert []).take 16

/-- A slot of a die as TST has filled it. -/
def tstSlot (s : State) (die k : Nat) : Option TstSlot := s.tst.slots.get none' (die * 16 + k)

/-- A slot set. -/
def setTstSlot (s : State) (die k : Nat) (v : Option TstSlot) : State :=
  { s with tst := { s.tst with slots := s.tst.slots.put none' (die * 16 + k) v } }

/-- A test runs from a slot (R348). -/
def slotRuns (s : State) (die k : Nat) : Bool :=
  ((s.potiks.find? (fun e => e.1 == die)).bind (fun e => e.2.test)).any (fun t => t.slot == k)

/-- A slot's descriptor written (R138, R348): the package's, or 0, which empties it. -/
def writeDesc (s : State) (die k : Nat) (p : Option Package) : State :=
  let v := match p with
    | some p => p.id + p.lengthNs % 2 ^ 28 * 2 ^ 32 + p.band * 2 ^ 60 + b2n p.bandReq * 2 ^ 63
    | none => 0
  let s := s.setTstSlot die k (p.map (fun p => { pkg := p.id, version := p.version }))
  s.ctrlWrite die [(0x708, k), (0x710, v)] (match p with | some _ => .package k | none => .plain)

/-- The next part of a slot's body, at most 1,408 bytes (R163), or its end: the slot is loaded. -/
def tstNext (s : State) (die k : Nat) : State :=
  match s.tstSlot die k with
  | none => s
  | some x =>
    match x.next, s.tst.packages.find? (fun p => p.id == x.pkg && p.version == x.version) with
    | some o, some p =>
      if p.body.length ≤ o then s.setTstSlot die k (some { x with next := none })
      else
        let part := (p.body.drop o).take 1408
        (s.setTstSlot die k (some { x with next := some (o + part.length) })).control die
          (.part k (decide (p.body.length ≤ o + part.length)) o part) (.package k)
    | _, _ => s

/-- Due tests of a die and package noted as marked in the Potik, or not. -/
def noteMarked (s : State) (die pkg : Nat) (on : Bool) : State :=
  let l : List DueCore := s.tst.due.map (fun (x : DueCore) => if x.die = die ∧ x.pkg = pkg then { x with marked := on } else x)
  { s with tst := { s.tst with due := l } }

/-- Due bits of a loaded slot set in the Potik (R349). -/
def markDue (s : State) (die k : Nat) : State :=
  match s.tstSlot die k with
  | some { pkg := id, next := none, .. } =>
    let cs := (s.tst.due.filter (fun x => x.die == die && x.pkg == id && !x.marked)).map (fun x => x.core)
    if cs.isEmpty then s
    else
      let word := fun (n : Nat) => ((cs.filter (fun c => c / 64 == n)).map (fun c => 2 ^ (c % 64))).sum
      let s := s.noteMarked die id true
      s.ctrlWrite die ([(0x708, k)] ++ (((List.range 4).filter (fun n => word n != 0)).map (fun n => (0x718 + 8 * n, word n)))) .plain
  | _ => s

/-- TST's work on one armed die at a tick (R348, R349). -/
def tstDie (s : State) (d : DieCfg) : State :=
  let s := s.updateDue d
  let want := s.chosen d
  let holds := fun (p : Package) (x : Option TstSlot) => x.any (fun y => y.pkg == p.id && y.version == p.version)
  let gone := (List.range 16).filter (fun k => match s.tstSlot d.slot k with
    | some x => !want.any (fun p => holds p (some x)) && !s.slotRuns d.slot k
    | none => false)
  let s := gone.foldl (fun s k =>
    let s := match s.tstSlot d.slot k with
      | some y => s.noteMarked d.slot y.pkg false
      | none => s
    s.writeDesc d.slot k none) s
  let s := want.foldl (fun s p =>
    if (List.range 16).any (fun k => holds p (s.tstSlot d.slot k)) then s
    else match (List.range 16).find? (fun k => (s.tstSlot d.slot k).isNone) with
      | some k => s.writeDesc d.slot k (some p)
      | none => s) s
  (List.range 16).foldl (fun s k => s.markDue d.slot k) s

/-- OVERDUE and the cores marked, as of this epoch (R350). -/
def showOverdue (s : State) : State :=
  let l := (s.tst.late.map (fun x => x.1)).eraseDups
  ({ s with tst := { s.tst with overdue := l } }).setFld F.TST_STATUS_OVERDUE (min 0xFFFF l.length)

/-- TST at a tick (R347 to R350): nothing is written to any Potik in Winter state (R466). -/
def tstTick (s : State) : State :=
  if !s.works 15 then s
  else
    let s := s.activatePackages.showOverdue
    (s.jobDies.filter (fun d => s.stw.armed.contains d.slot)).foldl tstDie s

/-! ### Results (R349, R350) -/

/-- A Test result (R349). -/
def testResult (s : State) (r : Rec) (now : Int) : State :=
  let b := r.body
  let die := slotOf r.src
  let core := bytesAt b 16 2 % 2048
  let pkg := bytesAt b 8 4
  let ctx := bytesAt b 24 2
  let addr := senderOf r.src - 2047 + core
  let mine := fun (x : Nat × Nat × Nat × Nat) => x.1 == die && x.2.1 == core && x.2.2.1 == pkg
  let noAns := s.tst.noAns.filter (fun x => !mine x)
  let s := s.perf 15 0x100 1
  match bytesAt b 18 1 with
  | 3 =>
    let k := ((s.tst.noAns.find? mine).map (fun x => x.2.2.2)).getD 0 + 1
    if k < max 1 (s.fld F.TST_CFG_NOANS_MAX) then { s with tst := { s.tst with noAns := noAns ++ [(die, core, pkg, k)] } }
    else ({ s with tst := { s.tst with noAns := noAns } }).failingOutcome 15 6 (senderOf r.src) 1 ctx pkg 0
  | 2 => { s with tst := { s.tst with noAns := noAns } }
  | o =>
    let s := { s with tst := { s.tst with
      noAns := noAns
      due := s.tst.due.filter (fun x => !(x.die == die && x.core == core && x.pkg == pkg))
      late := s.tst.late.filter (fun x => x != (addr, pkg))
      done := s.tst.done.filter (fun x => !(x.1 == die && x.2.1 == core && x.2.2.1 == pkg)) ++ [(die, core, pkg, now)] } }
    if o = 1 then s.failingOutcome 15 5 (senderOf r.src) 1 ctx pkg 0 else s

/-- A package due on a core for longer than DEFER_CEILING_S (R350): the core is marked from the next epoch on; a package with BAND_REQ is never
counted. -/
def testOverdue (s : State) (die core pkg : Nat) : State :=
  let addr := s.dieAddr die - 2047 + core
  if s.tst.due.any (fun x => x.die == die && x.core == core && x.pkg == pkg) &&
     !s.tst.packages.any (fun p => p.id == pkg && p.bandReq) && !s.tst.late.contains (addr, pkg) then
    { s with tst := { s.tst with late := s.tst.late ++ [(addr, pkg)] } }
  else s

end State

/-- TEST_RESULT_RECEIVE (R349). -/
def execTestResultReceive (r : Rec) (now : Int) (s : State) : Host.Outcome State Fault Refusal :=
  s.run (fun s => if s.works 15 then s.testResult r now else s)

/-- TEST_OVERDUE (R350). -/
def execTestOverdue (die core package : Nat) (s : State) : Host.Outcome State Fault Refusal :=
  s.run (fun s => if s.works 15 then s.testOverdue die core package else s)

end Sys2Proof.Machine
end

