-- ==== Sys2Proof/Machine/Control.lean ====
section
/-! DEFINITION. The node aggregator's Control requests and responses (R164), and the arming of Potik units (R482, R483). -/

namespace Sys2Proof.Machine
namespace State

/-! ### Job broadcasts that wait for Potik units (R446) -/

/-- A Potik of a JOB broadcast has answered or failed: once none is waited for, the block holds the broadcast. -/
def challengeDone (s : State) (die : Nat) (ok : Bool) : State :=
  if !(s.bcast 2).challenged.contains die then s
  else
    let s := s.modBcast 2 (fun b => { b with challenged := b.challenged.filter (fun d => d != die)
                                             failed := if ok then b.failed else b.failed ++ [die] })
    if (s.bcast 2).challenged.isEmpty then s.holdBcast 2 else s

/-! ### Arming (R483) -/

/-- The step in progress of a die. -/
def armingOf (s : State) (die : Nat) : Option Arming := s.stw.arming.find? (fun a => a.die == die)

/-- Its entry replaced or dropped. -/
def setArming (s : State) (die : Nat) (a : Option Arming) : State :=
  { s with stw := { s.stw with arming := s.stw.arming.filter (fun x => x.die != die) ++ a.toList } }

/-- Step 1: PTK_TIME_STATUS and PTK_IDENT are read. -/
def armStart (s : State) (die : Nat) (job : Bool) : State :=
  (s.setArming die (some { die := die, job := job })).control die (.batch [{ offset := 0x420, write := false }, { offset := 0x7C0, write := false }]) (.arm 1)

/-- A failure at any step (R483): 1 signature, 2 no response, 3 KEY_LOADED = 0, 4 servo. The Potik stays unarmed; in a job start it is a hole. -/
def armFail (s : State) (die reason : Nat) : State :=
  let s := (s.setArming die none).event 14 0x8011 (s.dieAddr die) 1 (le 1 reason ++ zeros 11)
  s.challengeDone die false

/-- A nonce of 48 bytes from the random bit generator: six free values. -/
def nonce (s : State) : Bytes × State :=
  ((List.range 6).map (fun i => le 8 (Config.freeValue (s.fresh + i)).toNat)).flatten |> fun b => (b, { s with fresh := s.fresh + 6 })

/-- Step 2: the nonce is written into Potik identity buffer 0, and SIGN set. -/
def armNonce (s : State) (die : Nat) (a : Arming) (now : Int) : State :=
  let (b, s) := s.nonce
  let ws := [(0x7C8, 0)] ++ (List.range 6).map (fun i => (0x7D0, bytesAt b (8 * i) 8)) ++ [(0x7D8, 1)]
  (s.setArming die (some { a with nonce := b, sent := now })).ctrlWrite die ws (.arm 2)

/-- Step 3: DONE, FAIL and the response in buffer 1 are read. -/
def armPoll (s : State) (die : Nat) : State :=
  s.control die (.batch ([{ offset := 0x7D8, write := false }, { offset := 0x7C8, write := true, value := 1 }] ++
    List.replicate 12 { offset := 0x7D0, write := false })) (.arm 3)

/-- The MAC address that a die's records go to (R21): its package's lead, or this block from the lead. -/
def dmacOf (s : State) (die : Nat) : Nat :=
  match s.image.packages.find? (fun c => (s.lead c.package).dies.contains die) with
  | some c => if (s.lead c.package).lead = die then s.image.nodeMac else s.dieMac (s.lead c.package).lead
  | none => s.image.nodeMac

/-- What step 4 writes (R483): the image's values, in register order, with PTK_REC_DMAC. -/
def armSettings (s : State) (die : Nat) : List (Nat × Nat) :=
  (s.image.potikRegs.filter (fun w => w.1 != 0x7A8 && w.1 != 0x80)) ++ [(0x7A8, s.dmacOf die)]

/-- Register writes in batches of at most 64 entries, the last with its purpose (R163). -/
def writeAll (s : State) (die : Nat) (ws : List (Nat × Nat)) (why : CtrlFor) : State :=
  let gs := groupsOf 64 ws.length ws
  let s := (gs.dropLast).foldl (fun s g => s.ctrlWrite die g .plain) s
  match gs.getLast? with
  | some g => s.ctrlWrite die g why
  | none => s

/-- Step 4 for a die: its settings, and ARM unless a job's tick is to set it (R446, R454). -/
def armConfigure (s : State) (die : Nat) (job : Bool) : State :=
  s.writeAll die (s.armSettings die ++ (if job then [] else [(0x80, 1)])) (.arm 4)

/-- The sequence checks of a sender restart (R171). -/
def restartSeq (s : State) (sender : Nat) : State :=
  (List.range s.image.streams.length).foldl (fun s k =>
    if ((s.image.streams[k]?).map (fun c => c.sender)) = some sender then
      { s with ing := { s.ing with streams := s.ing.streams.mod (fun _ => {}) k (fun t => { t with xSet := false, missing := 0 }) } }
    else s) s

/-- A Potik has taken its settings: it follows the block's schedule (R79), and unless a job's tick is still to come it arms. -/
def armDone (s : State) (die : Nat) (job : Bool) : State :=
  let sched := s.tim.sched
  let s := s.onPtk die (fun p => { p with sched := sched })
  if job then s.challengeDone die true
  else
    let s := s.setArming die none
    ({ s with stw := { s.stw with armed := s.stw.armed.filter (fun d => d != die) ++ [die] } }).restartSeq (s.dieAddr die)

/-- Step 3 answered: the signature is verified over the nonce, the EUI-64 and the die's address. -/
def armVerify (s : State) (die : Nat) (a : Arming) (values : List Nat) (now : Int) : State :=
  let st := values.getD 0 0
  if bit st 2 then s.armFail die 3
  else if !bit st 1 then (if a.sent + 10000000 * 65536 ≤ now then s.armFail die 2 else s.armPoll die)
  else
    let sig := ((values.drop 2).map (le 8)).flatten
    let d := (s.image.dies.find? (fun d => d.slot == die)).getD { slot := die }
    if Config.ecdsaVerify d.publicKey (Config.sha384 (a.nonce ++ le 8 d.eui ++ le 4 (s.dieAddr die))) sig then s.armConfigure die a.job
    else s.armFail die 1

/-- The response to step `n` of a die's arming. -/
def armStep (s : State) (die n : Nat) (ok : Bool) (values : List Nat) (now : Int) : State :=
  match s.armingOf die with
  | none => s
  | some a =>
    if !ok then s.armFail die 2
    else match n with
      | 1 =>
        let st := values.getD 0 0 % 8
        if st < 2 ∨ 4 < st then s.armFail die 4 else if !bit (values.getD 1 0) 0 then s.armFail die 3 else s.armNonce die a now
      | 2 => s.armPoll die
      | 3 => s.armVerify die a values now
      | _ => s.armDone die a.job

/-- A die is taken out (R454, R483): ARM is cleared. -/
def disarm (s : State) (die : Nat) : State :=
  ({ s with stw := { s.stw with armed := s.stw.armed.filter (fun d => d != die) } }).ctrlWrite die [(0x80, 0)] .disarm

/-! ### Responses and resends (R164) -/

/-- What a response does, by what its request was sent for. -/
def controlDone (s : State) (q : CtrlReq) (status : Nat) (values : List Nat) (now : Int) : State :=
  match q.purpose with
  | .arm n => s.armStep q.die n (status == 0) values now
  | .config => s.challengeDone q.die (status == 0)
  | .check =>
    if status = 0 ∧ !bit (values.getD 0 0) 1 then
      ({ s with stw := { s.stw with armed := s.stw.armed.filter (fun d => d != q.die) } }).armStart q.die false
    else s
  | .package k => if status = 0 then s.tstNext q.die k else s
  | .disarm => s
  | .plain => s

/-- A Control response arrives (R164): matched by die and TAG. A BUSY answer performed nothing, and the request is resent when its time comes. -/
def controlResponse (s : State) (r : Rec) (now : Int) : State :=
  if !s.works 14 then s.routeDrop 4 14 0 0x0D
  else
    let die := slotOf r.src
    let status := bytesAt r.body 4 1
    match s.stw.ctrl.find? (fun q => q.tag == bytesAt r.body 2 2 && s.dieAddr q.die == r.src) with
    | none => s
    | some q =>
      if status = 2 then s
      else
        let rest := s.stw.ctrl.filter (fun x => !(x.tag == q.tag && x.die == die))
        let n := (r.body.length - 8) / 8
        let values := (List.range n).map (fun i => bytesAt r.body (8 + 8 * i) 8)
        ({ s with stw := { s.stw with ctrl := rest } }).controlDone q status values now

/-- A Potik is unreachable (R164). -/
def unreachable (s : State) (q : CtrlReq) : State :=
  match q.purpose with
  | .arm _ => if (s.armingOf q.die).isSome then s.armFail q.die 2 else s
  | .config => s.challengeDone q.die false
  | .package k => s.setTstSlot q.die k none
  | .check => s
  | .disarm => s
  | .plain => s

/-- 1 ms has passed without a response (R164): the request is resent with its TAG, or after 3 resends the Potik is unreachable. -/
def controlResend (s : State) (tag : Nat) : State :=
  match s.stw.ctrl.find? (fun q => q.tag == tag) with
  | none => s
  | some q =>
    if !s.works 14 then s
    else if q.resends < 3 then
      let l := s.stw.ctrl.map (fun (x : CtrlReq) => if x.tag = tag then { x with resends := x.resends + 1 } else x)
      ({ s with stw := { s.stw with ctrl := l } }).sendControl q
    else ({ s with stw := { s.stw with ctrl := s.stw.ctrl.filter (fun x => x.tag != tag) } }).unreachable q

/-- A die of the job has sent nothing for 16 epochs (R482): PTK_CTRL is read. -/
def armedCheck (s : State) (die : Nat) : State :=
  if !s.works 14 || !s.jobDies.any (fun d => d.slot == die) || (s.armingOf die).isSome then s
  else s.control die (.batch [{ offset := 0x80, write := false }]) .check

end State

/-- CONTROL_RESPONSE (R164). -/
def execControlResponse (r : Rec) (now : Int) (s : State) : Host.Outcome State Fault Refusal := s.run (fun s => s.controlResponse r now)

/-- CONTROL_RESEND (R164). -/
def execControlResend (tag : Nat) (s : State) : Host.Outcome State Fault Refusal := s.run (fun s => s.controlResend tag)

/-- ARMED_CHECK (R482). -/
def execArmedCheck (die : Nat) (s : State) : Host.Outcome State Fault Refusal := s.run (fun s => s.armedCheck die)

end Sys2Proof.Machine
end

