-- ==== Sys2Proof/Machine/Export.lean ====
section
/-! DEFINITION. EXP: frames, token buckets, order of service, holding and coarsening of held summaries (15). -/

namespace Sys2Proof.Machine
namespace State

/-! ### Links and ports (R36, R380) -/

/-- LNK port `k` is up. -/
def portUp (s : State) (k : Nat) : Bool := bit (s.fld F.MGT_BOUNDARY_LNK_UP) k

/-- The LNK port that a link's frames use (R380): the lowest-numbered port that is up, counting upward from the link's own port, or from
port 0 for a long-haul link. -/
def portOf (s : State) (link : Nat) : Option Nat :=
  let from_ := if link < 4 then link else 0
  ((List.range 4).map (fun i => (from_ + i) % 4)).find? s.portUp

/-- Beat credits of port `k` for the telemetry class (R36). -/
def credit (s : State) (k : Nat) : Int := s.lnk.credits.get zeroI (k * 8 + s.image.telemetryTc)

/-- Those credits changed by `d`. -/
def addCredit (s : State) (k tc : Nat) (d : Int) : State :=
  { s with lnk := { s.lnk with credits := s.lnk.credits.mod zeroI (k * 8 + tc) (· + d) } }

/-! ### Token buckets (R383 to R385) -/

/-- The index of a class bucket's shaper register: link in [3:0], class in [6:4]. -/
def classIndex (link c : Nat) : Nat := link + 16 * c

/-- Bits in `k` KiB, a depth of 0 acting as 1. -/
def depthBits (k : Nat) : Int := ((max 1 k * 8192 : Nat) : Int)

/-- A bucket after one refill (R384): a bucket above its depth keeps its content. -/
def refill (content : Int) (rate depth : Nat) : Int :=
  if depthBits depth ≤ content then content else min (depthBits depth) (content + rate)

/-- Every bucket gains its rate of 1 µs (R384). -/
def bucketRefill (s : State) : State :=
  (List.range 12).foldl (fun s l =>
    let rate := s.fld (F.EXP_LINK_SHAPER_RATE_MBPS.at l)
    let b := refill (s.exp.linkBits.get zeroI l) rate (s.fld (F.EXP_LINK_SHAPER_DEPTH_KIB.at l))
    let s := { s with exp := { s.exp with linkBits := s.exp.linkBits.put zeroI l b, linkStop := s.exp.linkStop.put no l (rate == 0) } }
    (List.range 5).foldl (fun s c =>
      let i := classIndex l c
      let rate := s.fld (F.EXP_CLASS_SHAPER_RATE_MBPS.at i)
      let b := refill (s.exp.classBits.get zeroI (l * 8 + c)) rate (s.fld (F.EXP_CLASS_SHAPER_DEPTH_KIB.at i))
      { s with exp := { s.exp with classBits := s.exp.classBits.put zeroI (l * 8 + c) b
                                   classRun := s.exp.classRun.put no (l * 8 + c) (rate != 0) } }) s) s

/-- Every bucket full, and the virtual times and tags 0, at a commit tick (R383, R387). -/
def bucketsFull (s : State) : State :=
  let s := (List.range 12).foldl (fun s l =>
    let s := { s with exp := { s.exp with
        linkBits := s.exp.linkBits.put zeroI l (depthBits (s.fld (F.EXP_LINK_SHAPER_DEPTH_KIB.at l)))
        linkStop := s.exp.linkStop.put no l (s.fld (F.EXP_LINK_SHAPER_RATE_MBPS.at l) == 0) } }
    (List.range 5).foldl (fun s c =>
      { s with exp := { s.exp with
          classBits := s.exp.classBits.put zeroI (l * 8 + c) (depthBits (s.fld (F.EXP_CLASS_SHAPER_DEPTH_KIB.at (classIndex l c))))
          classRun := s.exp.classRun.put no (l * 8 + c) (s.fld (F.EXP_CLASS_SHAPER_RATE_MBPS.at (classIndex l c)) != 0) } }) s) s
  { s with exp := { s.exp with
      v := [], queues := (s.exp.queues.map (fun e => (e.1, { e.2 with s := 0, f := 0 }))).filter (fun e => decide (e.2 ≠ {})) } }

/-- A frame of class `c` may start on `link` through `port` (R385). -/
def mayStart (s : State) (link port c : Nat) : Bool :=
  let linkOk := fun l => decide (0 < s.exp.linkBits.get zeroI l) && !s.exp.linkStop.get no l
  linkOk link && (decide (link < 4) || linkOk port) &&
  decide (0 < s.exp.classBits.get zeroI (link * 8 + c)) && s.exp.classRun.get no (link * 8 + c) && decide (0 < s.credit port)

/-- The deductions of a frame whose payload is `n` bytes (R382, R383), and the beats it takes of LNK's credits. -/
def deduct (s : State) (link port c n : Nat) : State :=
  let bytes := n + 18
  let sub := fun (s : State) (l extra : Nat) =>
    { s with exp := { s.exp with linkBits := s.exp.linkBits.mod zeroI l (· - (((bytes + extra) * 8 : Nat) : Int)) } }
  let lo := s.fld F.EXP_CFG_LNK_OVERHEAD
  let lh := s.fld F.EXP_CFG_LH_OVERHEAD
  let s := if link < 4 then sub s link lo else sub (sub s link lh) port lo
  let s := { s with exp := { s.exp with classBits := s.exp.classBits.mod zeroI (link * 8 + c) (· - ((bytes * 8 : Nat) : Int)) } }
  s.addCredit port s.image.telemetryTc (-(((bytes + 191) / 192 : Nat) : Int))

/-! ### Order of service (R386, R387) -/

/-- The classes from the highest down; TRACE_BOOST lifts TRACE over RECORD. -/
def classOrder (s : State) : List Nat := if s.flag F.EXP_CFG_TRACE_BOOST then [0, 1, 3, 2, 4] else [0, 1, 2, 3, 4]

/-- The destinations whose class-`c` queue could start a frame on `port`. -/
def candidates (s : State) (port c : Nat) : List Nat :=
  (List.range s.image.dests.length).filter (fun d =>
    let link := s.fld (F.EXP_DEST_DATA_LINK.at d)
    !(s.queue d c).recs.isEmpty && !s.destHeld d && s.portOf link == some port && s.mayStart link port c)

/-- The candidate with the smallest start tag, the lowest number on a tie. -/
def leastTag (s : State) (c : Nat) (ds : List Nat) : Option Nat :=
  ds.foldl (fun best d => match best with
    | none => some d
    | some b => if tagLt (s.queue d c).s (s.queue b c).s then some d else some b) none

/-- The queue that EXP serves next on `port`: highest class first, then fair queuing. -/
def chooseQueue (s : State) (port : Nat) : Option (Nat × Nat) :=
  s.classOrder.findSome? (fun c => (s.leastTag c (s.candidates port c)).map (fun d => (d, c)))

/-- The tags after a frame of `bytes` frame bytes from a queue (R387). -/
def advanceTags (s : State) (d c link bytes : Nat) (more : Bool) : State :=
  let q := s.queue d c
  let w := max 1 (s.fld (F.EXP_DEST_DATA_WEIGHT.at d))
  let f := q.s + BitVec.ofNat 64 (bytes * 2 ^ 16 / w)
  let s := { s with exp := { s.exp with v := s.exp.v.put (fun _ => 0) (link * 8 + c) q.s } }
  s.setQueue d c { q with f := f, s := if more then f else q.s }

/-- The records that a packed frame takes: those that fit, from the head (R381). -/
def packed (max : Nat) : List Rec → List Rec
  | [] => []
  | r :: rs => if r.size ≤ max then r :: packed (max - r.size) rs else []

/-- A frame leaves on `port` with payload `p`. -/
def startFrame (s : State) (port link d c : Nat) (p : Bytes) (rs : List Rec) (more : Bool) : State :=
  let s := (s.deduct link port c p.length).advanceTags d c link (p.length + 18) more
  let s := { s with exp := { s.exp with tx := s.exp.tx.put none' port (some { link := link, dest := d, cls := c, recs := rs }) } }
  (((s.incFld (F.EXP_DEST_CNT_FRAMES.at d)).perf 12 0x100 1).perf 2 0x101 1).emit (.frame port (s.fld (F.EXP_DEST_DATA_DMAC.at d)) p)

/-- `port` can start a frame (R381 to R387): the next fragment of a record in fragments, which no other frame of the queue interrupts, or a
frame of the queue that the order of service chooses. The frame before it on the port has ended. Nothing starts in Winter state or reset of
EXP or LNK, or on a port that is down (R37, R394). -/
def exportFrameStart (s : State) (port : Nat) : State :=
  if !s.works 12 || !s.works 2 || !s.portUp port then s
  else
    match s.exp.frags.get nil port, s.exp.tx.get none' port with
    | p :: ps, some t =>
      if s.mayStart t.link port t.cls then
        let s := { s with exp := { s.exp with frags := s.exp.frags.put nil port ps } }
        s.startFrame port t.link t.dest t.cls p t.recs (!ps.isEmpty || !(s.queue t.dest t.cls).recs.isEmpty)
      else s
    | _, _ =>
      let s := { s with exp := { s.exp with tx := s.exp.tx.put none' port none } }
      match s.chooseQueue port with
      | none => s
      | some (d, c) =>
        let q := s.queue d c
        let link := s.fld (F.EXP_DEST_DATA_LINK.at d)
        let fm := clampFrameMax (s.fld F.ING_CFG_FRAME_MAX)
        match q.recs with
        | [] => s
        | r :: rest =>
          if fm < r.size + 16 then
            match fragPayloads fm r with
            | [] => s
            | p :: ps =>
              let s := s.setQueue d c { q with recs := rest }
              let s := { s with exp := { s.exp with frags := s.exp.frags.put nil port ps } }
              s.startFrame port link d c p [r] true
          else
            let rs := packed (fm - 16) q.recs
            let s := s.setQueue d c { q with recs := q.recs.drop rs.length }
            s.startFrame port link d c (packedPayload rs) rs (!(q.recs.drop rs.length).isEmpty)

/-! ### Holding (R389, R393) -/

/-- A destination on `link` is held, by the status bits. -/
def linkHeld (s : State) (link : Nat) : Bool :=
  s.flag F.EXP_STATUS_ALL_HELD || (decide (4 ≤ link) && bit (s.fld F.EXP_STATUS_LH_HELD) (link - 4))

/-- A released queue wakes (R387). -/
def wakeQueue (s : State) (d c : Nat) : State :=
  let q := s.queue d c
  if q.recs.isEmpty then s
  else
    let v := s.vtime (s.fld (F.EXP_DEST_DATA_LINK.at d)) c
    s.setQueue d c { q with s := if tagLt v q.f then q.f else v }

/-- HELD of every destination brought in line with the status bits; the queues of released ones wake (R393). -/
def refreshHolds (s : State) : State :=
  (List.range s.image.dests.length).foldl (fun s d =>
    let h := s.linkHeld (s.fld (F.EXP_DEST_DATA_LINK.at d))
    let was := s.destHeld d
    let s := s.setFld (F.EXP_DEST_DATA_HELD.at d) (b2n h)
    let s := if was != h then s.trace 12 0x0A (le 2 d ++ le 1 (b2n h)) else s
    if was && !h then (List.range 5).foldl (fun s c => s.wakeQueue d c) s else s) s

/-- A bit of LH_HELD, with the holds that follow it. -/
def setLhHeld (s : State) (i : Nat) (on : Bool) : State :=
  let v := s.fld F.EXP_STATUS_LH_HELD
  let v' := if on then v ||| 2 ^ i else if bit v i then v - 2 ^ i else v
  s.setFld F.EXP_STATUS_LH_HELD v'

/-- Frames in progress toward long-haul link 4 + `i` abandoned (R389). -/
def abandonLink (s : State) (link : Nat) : State :=
  (List.range 4).foldl (fun s p => match s.exp.tx.get none' p with
    | some t => if t.link = link then s.abandonTx p else s
    | none => s) s

/-- stb_mcs_up[i] falls (R48, R389). -/
def mcsDown (s : State) (i : Nat) : State :=
  let v := s.fld F.MGT_BOUNDARY_MCS_UP
  let s := s.setFld F.MGT_BOUNDARY_MCS_UP (if bit v i then v - 2 ^ i else v)
  let s := if s.exp.alarmWait.get zero i = 1 then { s with exp := { s.exp with alarmWait := s.exp.alarmWait.put zero i 2 } } else s
  ((s.setLhHeld i true).refreshHolds).abandonLink (4 + i)

/-- stb_mcs_up[i] rises (R389): the link is released unless it waits to be seen low after an alarm. -/
def mcsUp (s : State) (i : Nat) : State :=
  let s := s.setFld F.MGT_BOUNDARY_MCS_UP (s.fld F.MGT_BOUNDARY_MCS_UP ||| 2 ^ i)
  if s.exp.alarmWait.get zero i = 1 then s
  else
    let w := s.exp.alarmWait.put zero i 0
    let s := { s with exp := { s.exp with alarmWait := w } }
    ((s.setLhHeld i false).setFld F.EXP_STATUS_ALARM_HOLD (b2n (!w.isEmpty))).refreshHolds

/-- stb_mcs_alarm rises (R48, R59, R389): every long-haul link is held until its port has been seen low and rises. A port that is low at the
alarm has been seen low. -/
def mcsAlarm (s : State) : State :=
  let s := s.sticky F.MGT_BOUNDARY_MCS_ALARM
  let up := s.fld F.MGT_BOUNDARY_MCS_UP
  let w := (List.range 8).foldl (fun t i => t.put zero i (if bit up i then 1 else 2)) s.exp.alarmWait
  let s := { s with exp := { s.exp with alarmWait := w } }
  let s := ((s.setFld F.EXP_STATUS_LH_HELD 255).setFld F.EXP_STATUS_ALARM_HOLD 1).refreshHolds
  (List.range 8).foldl (fun s i => s.abandonLink (4 + i)) s

/-- stb_lnk_up[k] falls (R37, R389). -/
def lnkDown (s : State) (k : Nat) : State :=
  let v := s.fld F.MGT_BOUNDARY_LNK_UP
  let v := if bit v k then v - 2 ^ k else v
  let s := ((s.setFld F.MGT_BOUNDARY_LNK_UP v).trace 2 0x0D (le 1 k ++ le 1 0)).abandonTx k
  if v = 0 then (s.setFld F.EXP_STATUS_ALL_HELD 1).refreshHolds else s

/-- stb_lnk_up[k] rises (R389). -/
def lnkUp (s : State) (k : Nat) : State :=
  let s := (s.setFld F.MGT_BOUNDARY_LNK_UP (s.fld F.MGT_BOUNDARY_LNK_UP ||| 2 ^ k)).trace 2 0x0D (le 1 k ++ le 1 1)
  (s.setFld F.EXP_STATUS_ALL_HELD 0).refreshHolds

/-! ### Coarsening of held summaries (R391, R392) -/

end State

/-- floor(log2 n) for n > 0, by halving. -/
def log2Floor : Nat → Nat → Nat
  | 0, _ => 0
  | fuel + 1, n => if n < 2 then 0 else 1 + log2Floor fuel (n / 2)

/-- The resolution that an age requires (R391). -/
def requiredRes (h age : Nat) : Nat := if age < h then 0 else min 6 (log2Floor 64 (age / h) + 1)

/-- A held Summary content as a record: header of `r`, RES raised by 1. -/
def coarserRec (r : Rec) (b : SumBody) : Rec :=
  { r with flags := b.flags ||| 2 ^ flagCoarse, epoch := b.epoch, quality := b.quality, body := b.bytes }

/-- Held records with the one at place `i` raised by one step: merged with its partner, or alone (R391). -/
def raiseHeld (rs : List Rec) (i : Nat) : List Rec :=
  let r := rs.getD i { type := 0, cls := 0, src := 0 }
  let b := SumBody.ofRec r
  let span := 2 ^ b.res
  let first := b.epoch / (2 * span) * (2 * span)
  let other := if b.epoch = first then first + span else first
  match rs.findIdx? (fun x => isPrimary x && x.src == r.src && summaryRes x == b.res && x.epoch == other) with
  | some j =>
    let o := SumBody.ofRec (rs.getD j r)
    let (lo, hi) := if b.epoch = first then (b, o) else (o, b)
    let earlier := if b.epoch = first then r else rs.getD j r
    let m := { lo.merge hi with res := b.res + 1 }
    let (keep, drop) := (min i j, max i j)
    (rs.set keep (coarserRec earlier m)).eraseIdx drop
  | none =>
    let m := { b with epoch := first, res := b.res + 1, expected := b.expected + b.expected, loss := true }
    rs.set i (coarserRec r (if b.epoch = first then m else { m with entries := m.entries.map (fun e => (e.1, e.2.shift span)) }))

namespace State

/-- The first held primary below the resolution its age requires. -/
def dueHeld (s : State) (rs : List Rec) : Option Nat :=
  let h := max 1 (s.fld F.EXP_HOLD_HOLD_HORIZON)
  rs.findIdx? (fun r => isPrimary r && decide (summaryRes r < requiredRes h (s.epoch - r.epoch)))

/-- Merges of one destination until every held primary meets its resolution; at most `fuel` of them. -/
def mergeHeld (d : Nat) : Nat → State → State
  | 0, s => s
  | fuel + 1, s =>
    let q := s.queue d 1
    match s.dueHeld q.recs with
    | none => s
    | some i => mergeHeld d fuel ((s.setQueue d 1 { q with recs := raiseHeld q.recs i }).incFld F.EXP_CNT_MERGED)

/-- Every merge that has fallen due, for the held destinations with COARSEN_OK (R391); none in Winter state or reset of EXP (R394). -/
def heldMerges (s : State) : State :=
  if !s.works 12 then s
  else (List.range s.image.dests.length).foldl (fun s d =>
    if s.destHeld d && s.flag (F.EXP_DEST_DATA_COARSEN_OK.at d) then mergeHeld d (7 * ((s.queue d 1).recs.length + 1)) s else s) s

/-! ### Loss markers (R379) -/

/-- At a tick, a KIND 3 Loss marker for each destination that lost records, which joins that destination's own queue. -/
def exportLossMarkers (s : State) : State :=
  if !s.works 12 then s
  else
    let due := s.exp.losses
    let s := { s with exp := { s.exp with losses := [] } }
    due.foldl (fun s e =>
      let (r, s) := s.mkRec 12 0x0B 10 (s.destCfg e.1).level (2 ^ flagLoss) (lossBody 3 e.2 0)
      let r := { r with cls := 10 }
      (s.pushQueue e.1 2 r).incFld F.EXP_CNT_LOSS_MARKERS) s

/-- Queued and held records discarded by a reset of EXP, as losses of their destinations (R395). -/
def discardExport (s : State) : State :=
  let s := s.exp.queues.foldl (fun s e => s.loseAt (e.1 / 8) e.2.recs) s
  { s with exp := { s.exp with queues := [], tx := [], frags := [] } }

end State

/-- EXPORT_ENQUEUE (R379): a record of island `n` reaches EXP. -/
def execExportEnqueue (n : Nat) (r : Rec) (s : State) : Host.Outcome State Fault Refusal := s.run (fun s => s.toExp n r)

/-- EXPORT_FRAME_START (R387). -/
def execExportFrameStart (port : Nat) (s : State) : Host.Outcome State Fault Refusal := s.run (fun s => s.exportFrameStart port)

/-- BUCKET_REFILL (R384). -/
def execBucketRefill (s : State) : Host.Outcome State Fault Refusal := s.run (fun s => s.bucketRefill)

/-- HELD_SUMMARY_MERGE (R391). -/
def execHeldSummaryMerge (s : State) : Host.Outcome State Fault Refusal := s.run (fun s => s.heldMerges)

/-- MCS_DOWN (R48). -/
def execMcsDown (port : Nat) (s : State) : Host.Outcome State Fault Refusal := s.run (fun s => s.mcsDown port)

/-- MCS_UP (R389). -/
def execMcsUp (port : Nat) (s : State) : Host.Outcome State Fault Refusal := s.run (fun s => s.mcsUp port)

/-- MCS_ALARM (R48). -/
def execMcsAlarm (s : State) : Host.Outcome State Fault Refusal := s.run (fun s => s.mcsAlarm)

/-- LNK_DOWN (R37). -/
def execLnkDown (port : Nat) (s : State) : Host.Outcome State Fault Refusal := s.run (fun s => s.lnkDown port)

/-- LNK_UP (R389). -/
def execLnkUp (port : Nat) (s : State) : Host.Outcome State Fault Refusal := s.run (fun s => s.lnkUp port)

/-- LNK_CREDIT_RETURN (R36). -/
def execLnkCreditReturn (port tc : Nat) (s : State) : Host.Outcome State Fault Refusal := s.run (fun s => s.addCredit port tc 1)

end Sys2Proof.Machine
end

