-- ==== Sys2Proof/Machine/Mailbox.lean ====
section
/-! DEFINITION. The steward programs and the mailboxes (R433 to R438). -/

namespace Sys2Proof.Machine
namespace State

/-! ### Programs (R434, R437) -/

/-- STATE of program `p`: 0 absent, 1 running, 2 stopped by a fault, 3 waiting to restart. -/
def progState (s : State) (p : Nat) : Nat := s.fld (F.STW_PROG_DATA_STATE.at p)

/-- A service runs. -/
def serviceRuns (s : State) (code : Nat) : Bool :=
  s.works 14 && (List.range 16).any (fun p => s.progState p == 1 && s.fld (F.STW_PROG_DATA_SERVICE.at p) == code)

/-- QUERY_READY follows the query service (R439). -/
def showQuery (s : State) : State := s.setFld F.MGT_MCTP_CAP_QUERY_READY (b2n (s.serviceRuns 0))

/-- A steward program faults (R437): it stops, and island 14 records an error. -/
def programFault (s : State) (p : Nat) : State :=
  if s.progState p ≠ 1 then s
  else
    let s := ((s.setFld (F.STW_PROG_DATA_STATE.at p) 2).incFld (F.STW_PROG_DATA_FAULTS.at p)).showQuery
    ({ s with stw := { s.stw with overruns := s.stw.overruns.put (fun _ => (0, 0)) p (0, 0) } }).raise 14 0x14 p

/-- A tick handler has not returned (R437): the tick is missed; 16 in a row are a fault. Kept are the number in a row and the last one's epoch. -/
def tickOverrun (s : State) (p : Nat) : State :=
  if s.progState p ≠ 1 then s
  else
    let (n, e) := s.stw.overruns.get (fun _ => (0, 0)) p
    let n := if e + 1 = s.epoch then n + 1 else 1
    let s := { s with stw := { s.stw with overruns := s.stw.overruns.put (fun _ => (0, 0)) p (n, s.epoch) } }
    let s := s.incFld (F.STW_PROG_DATA_OVERRUNS.at p)
    if n < 16 then s else s.programFault p

/-! ### Mailboxes (R438) -/

/-- The service that owns a mailbox: 0 owns mailbox 0, 1 owns mailbox 1 (R442), the image names the others. -/
def mboxOwner (s : State) (m : Nat) : Option Nat :=
  if s.img.isNone then none
  else match m with
    | 0 => some 0
    | 1 => some 1
    | m => (s.image.mboxOwners.getD (m - 2) none)

/-- Word `w` of a mailbox's request or response buffer. -/
def mboxAddr (m : Nat) (resp : Bool) (w : Nat) : Nat := 0x701108 + (m + 4 * b2n resp + 8 * w) * 0x4000000

/-- The request in a mailbox: REQ_LEN bytes, at most 4,096. -/
def mboxRequest (s : State) (m : Nat) : Bytes :=
  let n := min 4096 (s.fld (F.STW_MBOX_CTRL_REQ_LEN.at m))
  (((List.range ((n + 7) / 8)).map (fun w => le 8 (s.reg (mboxAddr m false w)).toNat)).flatten).take n

/-- The owner's response (R438): written, DONE set, the interrupt raised. -/
def mboxRespond (s : State) (m : Nat) (bs : Bytes) : State :=
  if !s.flag (F.STW_MBOX_CTRL_BUSY.at m) then s
  else
    let bs := bs.take 4096
    let s := (List.range ((bs.length + 7) / 8)).foldl (fun s w => s.setReg (mboxAddr m true w) (BitVec.ofNat 64 (bytesAt bs (8 * w) 8))) s
    let s := ((s.setFld (F.STW_MBOX_CTRL_RESP_LEN.at m) bs.length).setFld (F.STW_MBOX_CTRL_BUSY.at m) 0).setFld (F.STW_MBOX_CTRL_DONE.at m) 1
    s.pend 14 (9 + m)

/-! ### The query port (R439 to R441) -/

/-- A query answered (R439, R441): counted, and sent to where it came from. A message is of type 0x7F under Glichekin's enterprise number. A
response that the mailbox cannot hold is FAILED. -/
def queryReply (s : State) (q : Query) (status : Nat) (body : Bytes) : State :=
  let (status, body) := if q.mbox && decide (4084 < body.length) then (7, []) else (status, body)
  let hdr := le 1 1 ++ le 1 (bytesAt q.req 1 1 % 128 + 128) ++ le 2 (bytesAt q.req 2 2) ++ le 2 status ++ zeros 2 ++ le 4 body.length
  let s := s.incFld F.STW_QUERY_REQUESTS
  let s := match status with
    | 0 => s
    | 3 => s.incFld F.STW_QUERY_DENIED
    | 4 => s.incFld F.STW_QUERY_BUSY
    | _ => s.incFld F.STW_QUERY_ERRORS
  if q.mbox then s.mboxRespond 0 (hdr ++ body)
  else s.emit (.mctp (le 1 0x7F ++ [0, 0, 0xE4, 0x31] ++ hdr ++ body))

/-- BODY_LEN matches the opcode (R440). -/
def queryLength (op : Nat) (body : Bytes) : Bool :=
  let n := body.length
  match op with
  | 1 => n == 6
  | 2 => decide (6 ≤ n) && n == 6 + 8 * bytesAt body 4 2
  | 3 => n == 14
  | 4 => n == 6
  | 5 => n == 1
  | 6 => n % 8 == 0 && decide (n ≤ 2048)
  | 7 => n == 4
  | 8 => decide (8 ≤ n)
  | 10 => n == 6
  | _ => n == 0

/-- A query arrives (R441): answered at once with BUSY, UNSUPPORTED or LENGTH, or held. Without its service nothing takes it. -/
def queryReceive (s : State) (q : Query) : State :=
  let op := bytesAt q.req 1 1
  if !s.serviceRuns 0 then s
  else if 16 ≤ s.stw.queries.length then s.queryReply q 4 []
  else if bytesAt q.req 0 1 ≠ 1 ∨ op = 0 ∨ 11 < op then s.queryReply q 1 []
  else if q.req.length < 12 || bytesAt q.req 8 4 != q.req.length - 12 || decide (61440 < q.req.length - 12) ||
      !queryLength op (q.req.drop 12) then s.queryReply q 2 []
  else { s with stw := { s.stw with queries := s.stw.queries ++ [q] } }

/-- The owner of a mailbox takes its request (R438): a running program, mailbox 0 the query service. -/
def mboxTake (s : State) (m : Nat) : State :=
  match s.mboxOwner m with
  | none => s
  | some c =>
    if !s.flag (F.STW_MBOX_CTRL_DOORBELL.at m) || s.flag (F.STW_MBOX_CTRL_BUSY.at m) || !s.serviceRuns c then s
    else
      let s := (s.setFld (F.STW_MBOX_CTRL_DOORBELL.at m) 0).setFld (F.STW_MBOX_CTRL_BUSY.at m) 1
      if m = 0 then s.queryReceive { mbox := true, req := s.mboxRequest 0 } else s

/-- Every request that waits for its owner. -/
def mboxWaiting (s : State) : State := [0, 1, 2, 3].foldl mboxTake s

/-- DOORBELL set (R438): ignored while BUSY and by a mailbox without an owner. -/
def doorbell (s : State) (m : Nat) : State :=
  if s.flag (F.STW_MBOX_CTRL_BUSY.at m) || (s.mboxOwner m).isNone then s
  else (s.setFld (F.STW_MBOX_CTRL_DOORBELL.at m) 1).mboxTake m

/-! ### Restart (R437) -/

/-- A stopped program restarts at the first tick after island 14's quiet period (R437). -/
def programRestart (s : State) (p : Nat) : State :=
  if (s.progState p = 2 ∨ s.progState p = 3) ∧ s.works 14 then (s.setFld (F.STW_PROG_DATA_STATE.at p) 1).showQuery.mboxWaiting else s

end State

/-- PROGRAM_FAULT (R437). -/
def execProgramFault (program : Nat) (s : State) : Host.Outcome State Fault Refusal := s.run (fun s => s.programFault (program % 16))

/-- TICK_OVERRUN (R437). -/
def execTickOverrun (program : Nat) (s : State) : Host.Outcome State Fault Refusal := s.run (fun s => s.tickOverrun (program % 16))

/-- PROGRAM_RESTART (R437). -/
def execProgramRestart (program : Nat) (s : State) : Host.Outcome State Fault Refusal := s.run (fun s => s.programRestart (program % 16))

/-- MAILBOX_RESPONSE (R438): the response is the owner's. -/
def execMailboxResponse (mailbox : Nat) (response : Bytes) (s : State) : Host.Outcome State Fault Refusal :=
  s.run (fun s => s.mboxRespond (mailbox % 4) response)

end Sys2Proof.Machine
end

