-- ==== Sys2Proof/Machine/Feature.lean ====
section
/-! DEFINITION. FEA: feature programs, peers, history, the fleet baseline, quantisation and external slots (08). -/

namespace Sys2Proof.Machine

/-! ### Programs (R200 to R202, R219) -/

/-- The pass in which each slot is evaluated: 1, 2 from residuals, 3 from model outputs (R219). -/
def passesOf (defs : List FeatDef) : List Nat :=
  defs.foldl (fun l d =>
    let a := l.getD d.a 1
    l ++ [match d.kind with
      | 2 => max a (l.getD d.b 1)
      | 3 => max a (l.getD d.b 1)
      | 4 => a | 5 => a | 6 => a | 7 => a | 8 => a
      | 10 => max 2 a
      | 11 => 3
      | _ => 1]) []

/-- Slots of the baseline set, ascending (R208). -/
def baseSlots (defs : List FeatDef) : List Nat := (List.range defs.length).filter (fun f => ((defs[f]?).map (fun d => d.baseline)).getD false)

/-! ### Quantisation (R214) -/

/-- An integer clamped to a code range, and whether it was. -/
def clampCode (lo : Int) (i : Int) : Nat × Bool :=
  if i < lo then (lo.toNat, true) else if 65535 < i then (65535, true) else (i.toNat, false)

/-- The code of a value that is no NaN, and whether it was clamped (R214). -/
def quantise (t : QTable) (x : Nat) : Nat × Bool :=
  match t.type with
  | 0 =>
    let y := mulFp32 (subFp32 x t.lo) t.scale
    match floorFp32 y with
    | some i => clampCode 0 i
    | none => if 2 ^ 31 ≤ y then (0, true) else (65535, true)
  | 1 =>
    if x = 0xFF800000 then (0, true)
    else if leFp32 x 0 then (0, false)
    else
      match floorFp32 (mulFp32 (subFp32 (log2Fp32 x) t.lo) t.scale) with
      | some i => clampCode 1 (i + 1)
      | none => (65535, true)
  | 2 => ((t.edges.filter (fun e => leFp32 e x)).length, false)
  | 3 =>
    match floorFp32 x with
    | some i =>
      if wholeFp32 x && decide (0 ≤ i) && decide (i < 1024) then
        (((t.codes.find? (fun c => (c.1 : Int) == i)).map (fun c => c.2)).getD t.missing, false)
      else (t.missing, false)
    | none => (t.missing, false)
  | _ =>
    match floorFp32 x with
    | some i => let (c, b) := clampCode 0 i; (c, b || !wholeFp32 x)
    | none => if 2 ^ 31 ≤ x then (0, true) else (65535, true)

/-! ### Peers (R205) -/

/-- A subject and what selects its peers: die slot, package, unit number and class, site. -/
structure Subject where
  addr : Nat
  slot : Nat := 0
  package : Nat := 0
  unit : Nat := 0
  uclass : Nat := 0
  site : Nat := 0
deriving DecidableEq, Repr

/-- `b` is a peer of `a` under a relation, itself included (R205). -/
def related (rel : Nat) (a b : Subject) : Bool :=
  match rel with
  | 0 => a.slot == b.slot && a.uclass == b.uclass
  | 1 => a.unit == b.unit
  | 2 => a.uclass == b.uclass
  | 3 => a.package == b.package && a.uclass == b.uclass
  | 7 => a.site == b.site
  | _ => true

/-- A list of FP32 values in ascending order. -/
def sortFp32 (xs : List Nat) : List Nat :=
  xs.foldr (fun x l => (l.filter (fun y => ltFp32 y x)) ++ x :: l.filter (fun y => !ltFp32 y x)) []

/-- The median of a sorted list (R205). -/
def median (xs : List Nat) : Nat :=
  let l := sortFp32 xs
  let n := l.length
  if n % 2 = 1 then l.getD (n / 2) 0 else mulFp32 (addFp32 (l.getD (n / 2 - 1) 0) (l.getD (n / 2) 0)) 0x3F000000

/-- PEER_Z (R202, R205): sums over all contributing members in ascending fleet address, the subject then removed. -/
def peerZ (members : List Nat) (n x floor : Nat) : Nat :=
  let s1 := sumFp32 members
  let s2 := sumFp32 (members.map (fun v => mulFp32 v v))
  let k := intFp32 n
  let mean := divFp32 (subFp32 s1 x) k
  let var := subFp32 (divFp32 (subFp32 s2 (mulFp32 x x)) k) (mulFp32 mean mean)
  divFp32 (subFp32 x mean) (maxFp32 (sqrtFp32 (maxFp32 0 var)) floor)

/-- PEER_RANK (R202). -/
def peerRank (peers : List Nat) (x : Nat) : Nat :=
  let less := (peers.filter (fun v => ltFp32 v x)).length
  let eq := (peers.filter (fun v => !ltFp32 v x && leFp32 v x)).length
  divFp32 (addFp32 (intFp32 less) (mulFp32 (intFp32 eq) 0x3F000000)) (intFp32 peers.length)

/-! ### The baseline (R208 to R211) -/

/-- b_u = m + W × a_u (R209): W and a_u as BF16, accumulated in FP32 in ascending factor order (log entry 23). -/
def baselineOf (g : BaseGen) (a : List Nat) : List Nat :=
  (List.range g.m.length).map (fun i =>
    addFp32 (g.m.getD i 0) (dotFp32 (g.w.map (fun col => bf16of (col.getD i 0))) (a.map bf16of)))

/-- p = Wᵀ (x − m). -/
def projection (g : BaseGen) (d : List Nat) : List Nat := g.w.map (fun col => dotFp32 col d)

/-- A loading after an epoch (R209). -/
def loadingStep (k : Nat) (a p : List Nat) : List Nat :=
  (a.zip p).map (fun e => addFp32 e.1 (mulFp32 (scaledFp32 1 (-(k : Int))) (subFp32 e.2 e.1)))

/-- A column with its components along the columns before it removed, by modified Gram–Schmidt (R211). -/
def orthogonal (qs : List (List Nat)) (v : List Nat) : List Nat :=
  qs.foldl (fun v q =>
    let r := dotFp32 q v
    (v.zip q).map (fun e => subFp32 e.1 (mulFp32 r e.2))) v

/-- The norm of a column. -/
def normFp32 (v : List Nat) : Nat := sqrtFp32 (dotFp32 v v)

/-- A column normalised. -/
def normalise (v : List Nat) : List Nat := let n := normFp32 v; v.map (fun x => divFp32 x n)

/-- W' of R211: Y orthonormalised in column order; a column whose norm falls below 2^-20 of the largest column norm is replaced by the old one,
re-orthogonalised. -/
def gramSchmidt (y old : List (List Nat)) : List (List Nat) :=
  let big := (y.map normFp32).foldl maxFp32 0
  let lim := mulFp32 (scaledFp32 1 (-20)) big
  (List.range y.length).foldl (fun qs j =>
    let v := orthogonal qs (y.getD j [])
    let v := if ltFp32 (normFp32 v) lim then orthogonal qs (old.getD j []) else v
    qs ++ [normalise v]) []

/-- The payload of a baseline Broadcast: the slot layout of R360 from slot offset 0x40 (R444). -/
def BaseGen.bytes (g : BaseGen) : Bytes :=
  let col := fun (v : List Nat) => ((v.map (le 4)).flatten ++ zeros 1024).take 1024
  col g.m ++ (g.w.map col).flatten

/-- A generation read from such a payload. -/
def BaseGen.ofBytes (gen act fb r : Nat) (b : Bytes) : BaseGen :=
  let col := fun (o : Nat) => (List.range fb).map (fun i => bytesAt b (o + 4 * i) 4)
  { gen := gen, act := act, m := col 0, w := (List.range r).map (fun j => col (1024 * (j + 1))) }

namespace State

/-! ### Epochs, programs and subjects (R200, R212, R213) -/

/-- The program of a class for an epoch. -/
def program (s : State) (cls e : Nat) : List FeatDef := (s.imageFor e).features.getD cls []

/-- The baseline generation that epoch `e` is evaluated with (R212). -/
def baseFor (s : State) (e : Nat) : Option BaseGen := if e < s.fea.since then (s.fea.before <|> s.fea.base) else s.fea.base

/-- The subjects of a class, in ascending fleet address (R200). -/
def subjects (s : State) (cls : Nat) : List Subject :=
  match cls with
  | 0 => (s.jobDies.map (fun d => (d.units.map (fun u => (List.range (u.2.1 + 1 - u.1)).map (fun i =>
      ({ addr := s.dieAddr d.slot - 2047 + u.1 + i, slot := d.slot, package := d.package, unit := u.1 + i, uclass := u.2.2 } : Subject)))).flatten)).flatten
  | 1 => s.jobDies.map (fun d => { addr := s.dieAddr d.slot, slot := d.slot, package := d.package, unit := 2047 })
  | 2 => s.image.groupNodes.map (fun a => { addr := a })
  | _ => s.image.systemGroups.map (fun a => { addr := a, site := ((s.image.sites.find? (fun t => t.1 == a)).map (fun t => t.2)).getD 0xFFFF })

/-- The classes of a level (R200). -/
def classesOf (level : Nat) : List Nat := if level = 0 then [0, 1] else if level = 1 then [2] else [3]

/-- The level of a class. -/
def levelOfClass (cls : Nat) : Nat := if cls < 2 then 0 else cls - 1

/-- The contributions to a closed epoch of a level. -/
def closedInputs (s : State) (level e : Nat) : Option AEpoch :=
  s.aln.epochs.find? (fun x => x.level == level && x.epoch == e && (x.st == 1 || x.st == 2))

/-- Rows of a class and epoch. -/
def rowsOf (s : State) (cls e : Nat) : List FRow := s.fea.rows.filter (fun r => r.cls == cls && r.epoch == e)

/-- The rows of a class and epoch changed. -/
def modRows (s : State) (cls e : Nat) (f : FRow → FRow) : State :=
  { s with fea := { s.fea with rows := s.fea.rows.map (fun r => if r.cls = cls ∧ r.epoch = e then f r else r) } }

/-! ### Inputs of a subject (R179, R202, R203) -/

/-- Whether an input belongs to a subject: a unit's census counts, and for a die its own, its groups and its sensors. -/
def inputsOf (x : AEpoch) (a : Nat) : List AInput := (x.contribs.map (fun c => c.inputs.filter (fun i => i.src == a))).flatten

/-- An input of a node-level subject by kind and index; a unit reads the groups and sensors of its die. Poisoned readings are missing. -/
def findInput (x : AEpoch) (sub : Subject) (kind index : Nat) : Option AInput :=
  let a := if kind = 0 then sub.addr else senderOf sub.addr
  (inputsOf x a).find? (fun i => i.kind == kind && i.index == index && !i.poison)

/-- A quantity of a child's Summary (R202). -/
def findEntry (x : AEpoch) (sub : Subject) (q : Nat) : Option Agg :=
  match x.contribs.find? (fun c => c.sender == sub.addr) with
  | some c => (childSum c).bind (fun b => (b.entries.find? (fun e => e.1 == q)).map (fun e => e.2))
  | none => none

/-- EFLAGS of all inputs of a subject, and whether one carried LOSS. -/
def inputFlags (x : AEpoch) (level : Nat) (sub : Subject) : Nat × Bool :=
  if level = 0 then
    let f := ((inputsOf x sub.addr).map (fun i => i.eflags ||| (b2n i.poison * 2 ^ ePoison))).foldl (· ||| ·) 0
    (f, (x.contribs.filter (fun c => c.sender == senderOf sub.addr)).any (fun c => c.loss))
  else match x.contribs.find? (fun c => c.sender == sub.addr) with
    | some c => (((childSum c).map (fun b => (b.entries.map (fun e => e.2.eflags)).foldl (· ||| ·) 0)).getD 0, c.loss)
    | none => (0, false)

/-- A STATUS bit of a subject (R203). -/
def statusBit (s : State) (x : AEpoch) (level : Nat) (sub : Subject) (b : Nat) : Bool :=
  let (f, loss) := inputFlags x level sub
  match b with
  | 0 => s.tst.overdue.any (fun a => a == sub.addr || (sub.unit == 2047 && senderOf a == sub.addr))
  | 1 => bit f eHalted
  | 2 => bit f eStretch
  | 3 => loss
  | 4 => bit f eWrap
  | 5 => bit f eRaw
  | _ => false

/-- FLAGS of a row from its inputs (R152, R222). -/
def rowFlags (x : AEpoch) (level : Nat) (sub : Subject) : Nat :=
  let (f, loss) := inputFlags x level sub
  b2n loss * 2 ^ flagLoss + b2n (bit f eHalted) * 2 ^ flagHalted + b2n (bit f eStretch) * 2 ^ flagStretch +
  b2n (bit f ePoison) * 2 ^ flagPoison + b2n (bit f eWrap) * 2 ^ flagWrap + b2n (bit f eSat) * 2 ^ flagSat

/-! ### Slot values (R202 to R207) -/

/-- The key of an EWMA state. -/
def ewmaKey (cls subject f : Nat) : Nat := (cls * 2 ^ 32 + subject) * 256 + f

/-- A slot of a row of an earlier epoch in the ring (R206). -/
def ringVal (s : State) (cls subject e f : Nat) : Option Nat :=
  match s.fea.rows.find? (fun r => r.cls == cls && r.subject == subject && r.epoch == e) with
  | some r => (r.slots.getD f {}).val
  | none => none

/-- The external entry that acts for a subject and slot (R218). -/
def extCode (s : State) (subject slot : Nat) : Option Nat :=
  match s.fea.ext.find? (fun e => match e.2 with
      | some (w, _) => w % 2 ^ 32 == subject && w / 2 ^ 32 % 256 == slot && w / 2 ^ 56 != 0
      | none => false) with
  | some (_, some (w, from_)) => if s.epoch < from_ + w / 2 ^ 56 then some (w / 2 ^ 40 % 2 ^ 16) else none
  | _ => none

/-- A value × SCALE + OFFSET. -/
def scaled (d : FeatDef) (v : Int) : Nat := addFp32 (mulFp32 (intFp32 v) d.scale) d.offset

/-- A slot's evaluation: its value, none when missing; SAT on an input; the code of an EXT slot; the new EWMA state. -/
structure SlotEval where
  val : Option Nat := none
  sat : Bool := false
  ext : Option Nat := none
  ewma : Option (Nat × Nat) := none

/-- EWMA (R202, R206, R207): the state after an input, and the value once 2^k inputs have been taken. -/
def ewmaEval (st : Option (Nat × Nat)) (k : Nat) (x : Option Nat) : SlotEval :=
  match x with
  | none => {}
  | some x =>
    if isNan32 x then { val := some x }
    else
      let (n, v) := match st with
        | none => (1, x)
        | some (n, v) => (n + 1, addFp32 v (mulFp32 (scaledFp32 1 (-(k : Int))) (subFp32 x v)))
      { val := if 2 ^ k ≤ n then some v else none, ewma := some (n, v) }

/-- A peer kind (R205): `vals` holds every subject with its value of slot A. -/
def peerEval (d : FeatDef) (sub : Subject) (vals : List (Subject × Option Nat)) (x : Option Nat) : SlotEval :=
  match x with
  | none => {}
  | some x =>
    let good := vals.filterMap (fun v => match v.2 with
      | some y => if related d.relation sub v.1 && !isNan32 y then some (v.1.addr, y) else none
      | none => none)
    let peers := (good.filter (fun v => v.1 != sub.addr)).map (fun v => v.2)
    if peers.length < d.param then {}
    else if isNan32 x then { val := some x }
    else { val := some (match d.kind with
      | 5 => peerZ (good.map (fun v => v.2)) peers.length x d.floor
      | 6 => subFp32 x (median peers)
      | _ => peerRank peers x) }

/-- Slot `f` of a subject in an epoch (R202). `base` is the subject's baseline by slot. -/
def slotEval (s : State) (x : AEpoch) (cls : Nat) (sub : Subject) (d : FeatDef) (f : Nat) (row : FRow) (base : Option (List (Nat × Nat)))
    (vals : List (Subject × Option Nat)) : SlotEval :=
  let level := levelOfClass cls
  let a := (row.slots.getD d.a {}).val
  let b := (row.slots.getD d.b {}).val
  let two := fun (g : Nat → Nat → Nat) => match a, b with | some p, some q => ({ val := some (g p q) } : SlotEval) | _, _ => {}
  let entry := match findEntry x sub d.a with
    | some g => ({ val := some (scaled d g.val), sat := bit g.eflags eSat } : SlotEval)
    | none => {}
  let reading := fun (kind index : Nat) => match findInput x sub kind index with
    | some i => ({ val := some (scaled d i.value), sat := bit i.eflags eSat } : SlotEval)
    | none => {}
  match d.kind with
  | 0 => if level ≠ 0 then entry else if d.a < 16 then reading 0 d.a else reading 1 (d.a - 0x100)
  | 1 => if level ≠ 0 then entry else reading (3 + d.b) d.a
  | 2 => two (fun p q => addFp32 (mulFp32 p d.scale) (mulFp32 q d.offset))
  | 3 => two divFp32
  | 4 => { val := a.map absFp32 }
  | 8 => ewmaEval (s.fea.ewma.get none' (ewmaKey cls sub.addr f)) d.param a
  | 9 => { val := if d.param ≤ x.epoch then s.ringVal cls sub.addr (x.epoch - d.param) d.a else none }
  | 10 => match a, base.bind (fun l => (l.find? (fun e => e.1 == d.a)).map (fun e => e.2)) with
    | some p, some q => { val := some (subFp32 p q) }
    | _, _ => {}
  | 11 => { val := row.outs.bind (fun o => o[d.a]?), sat := row.outSat }
  | 12 => match s.extCode sub.addr d.a with
    | some c => { val := some (intFp32 c), ext := some c }
    | none => {}
  | 13 => { val := some (if s.statusBit x level sub d.a then 0x3F800000 else 0) }
  | 5 => peerEval d sub vals a
  | 6 => peerEval d sub vals a
  | 7 => peerEval d sub vals a
  | _ => {}

/-- The code and status of a slot (R215, R217). -/
def slotCode (t : QTable) (d : FeatDef) (v : SlotEval) : SlotVal :=
  match v.val with
  | none => { code := t.missing, status := 2 }
  | some x =>
    if isNan32 x then { val := some x, code := d.subst, status := 3 }
    else match v.ext with
      | some c => { val := some x, code := c, status := 0 }
      | none =>
        let (c, cl) := quantise t x
        { val := some x, code := c, status := b2n (cl || v.sat) }

/-- Substitutions, missing and clamped slots counted (R217). -/
def countStatus (s : State) (st : Nat) : State :=
  match st with
  | 1 => s.incFld F.FEA_CNT_CLAMP
  | 2 => s.incFld F.FEA_CNT_MISSING
  | 3 => s.incFld F.FEA_CNT_NAN_SUBST
  | _ => s

/-- A subject has every BASELINE slot present and no NaN among them (R209): its values x_u. -/
def baseVector (defs : List FeatDef) (row : FRow) : Option (List Nat) :=
  (baseSlots defs).foldr (fun f acc => match acc, (row.slots.getD f {}).val with
    | some l, some v => if isNan32 v then none else some (v :: l)
    | _, _ => none) (some [])

/-- The loading of a subject (R208). -/
def loading (s : State) (g : BaseGen) (a : Nat) : List Nat :=
  let l := s.fea.loadings.get nil a
  if l.isEmpty then g.w.map (fun _ => 0) else l

/-- The baseline of a row by slot (R209); none without a product, and while a baseline slot is missing. -/
def rowBase (s : State) (defs : List FeatDef) (row : FRow) : Option (List (Nat × Nat)) :=
  match s.baseFor row.epoch, baseVector defs row with
  | some g, some _ => if row.product then some ((baseSlots defs).zip (baselineOf g (s.loading g row.subject))) else none
  | _, _ => none

/-- Slot `f` of every row of a class and epoch (R200). -/
def evalSlot (s : State) (x : AEpoch) (cls : Nat) (defs : List FeatDef) (f : Nat) : State :=
  match defs[f]? with
  | none => s
  | some d =>
    let subs := s.subjects cls
    let rows := s.rowsOf cls x.epoch
    let rowFor := fun (a : Nat) => rows.find? (fun r => r.subject == a)
    let vals := subs.map (fun u => (u, (rowFor u.addr).bind (fun r => (r.slots.getD d.a {}).val)))
    let t := (s.imageFor x.epoch).tables.getD d.table { type := 4 }
    rows.foldl (fun s' r =>
      match subs.find? (fun u => u.addr == r.subject) with
      | none => s'
      | some u =>
        let v := s.slotEval x cls u d f r (if d.kind = 10 then s.rowBase defs r else none) vals
        let c := slotCode t d v
        let s' := s'.countStatus c.status
        let s' := match v.ewma with
          | some w => { s' with fea := { s'.fea with ewma := s'.fea.ewma.put none' (ewmaKey cls r.subject f) (some w) } }
          | none => s'
        s'.modRows cls x.epoch (fun y => if y.subject = r.subject then
          { y with slots := y.slots.set f c, flags := if c.status = 3 then orBit y.flags flagNanSubst else y.flags } else y)) s

/-- The slots of a pass, ascending. -/
def evalPass (s : State) (x : AEpoch) (cls pass : Nat) : State :=
  let defs := s.program cls x.epoch
  let ps := passesOf defs
  (List.range defs.length).foldl (fun s f => if ps.getD f 1 = pass then (s.evalSlot x cls defs f).perf 5 0x100 (s.rowsOf cls x.epoch).length else s) s

end State

/-- The bytes of a row (R222). -/
def FRow.bytes (r : FRow) : Bytes :=
  let head := le 4 r.subject ++ le 6 r.epoch ++ le 2 r.flags ++ le 2 r.baseGen ++ le 1 r.passes ++ zeros 1
  let codes := (r.slots.map (fun c => le 2 c.code)).flatten
  let st := r.slots.foldr (fun c (n : Nat) => n * 4 + c.status) 0
  let b := pad8 (head ++ codes) ++ le ((r.slots.length + 3) / 4) st
  b ++ zeros ((32 - b.length % 32) % 32)

namespace State

/-! ### Passes (R219 to R222) -/

/-- The rows of an epoch in the history ring (R206, R222, R359). -/
def writeRows (s : State) (e : Nat) : State :=
  s.writeSlot 4 (s.imageFor e).featN e (((s.fea.rows.filter (fun r => r.epoch == e)).map FRow.bytes).flatten) false

/-- A pass marked done in every row of a class and epoch; the node level shows its passes. -/
def markPass (s : State) (cls e bit_ : Nat) : State :=
  let s := s.modRows cls e (fun r => { r with passes := orBit r.passes bit_ })
  if levelOfClass cls = 0 then s.setFld F.FEA_STATUS_PASSES (orBit (s.fld F.FEA_STATUS_PASSES) bit_) else s

/-- Pass 3 (R219): MODEL slots and those that follow from them; then the rows are complete and the TREE codes go to the tree engine. -/
def passThree (s : State) (x : AEpoch) (cls : Nat) : State :=
  let s := (s.evalPass x cls 3).markPass cls x.epoch 2
  let s := s.writeRows x.epoch
  if s.fea.rows.all (fun r => levelOfClass r.cls != levelOfClass cls || r.epoch != x.epoch || bit r.passes 2) then
    (if levelOfClass cls = 0 then s.setFld F.FEA_STATUS_LAST_EPOCH x.epoch else s).trace 5 6 (zeros 4 ++ le 6 x.epoch)
  else s

/-- Every row of the class has its model outputs, or the program has no MODEL slot. -/
def outsReady (s : State) (cls e : Nat) : Bool :=
  (s.program cls e).all (fun d => d.kind != 11) || (s.rowsOf cls e).all (fun r => r.outs.isSome)

/-- The baseline interval of an epoch, and the interval's length (R210). -/
def baseInterval (s : State) : Nat := 2 ^ s.fld F.FEA_BASE_BASE_INTERVAL_LOG2

/-- K_A, 0 treated as 1. -/
def kA (s : State) : Nat := max 1 (min 16 (s.fld F.FEA_CFG_K_A))

/-- The base address of the BASELINE region (R360). -/
def baseRegion (s : State) : Option Region := s.image.regions.find? (fun r => r.kind == 10)

/-- Bytes written into the BASELINE region at an offset. -/
def baseWrite (s : State) (off : Nat) (b : Bytes) : State :=
  match s.baseRegion with
  | some r => s.storeWrite (r.base + off) b false
  | none => s

/-- Sums of lists, element by element. -/
def addInts (a b : List Int) : List Int := (List.range (max a.length b.length)).map (fun i => a.getD i 0 + b.getD i 0)

/-- The contribution of an epoch to the interval sums (R210), formed in FP32 in ascending fleet address. -/
def baseContribution (s : State) (g : BaseGen) (xs : List (List Nat)) : BaseSums :=
  let k := min 32 (s.fld F.FEA_CFG_FRAC_BITS)
  let fb := g.m.length
  let zero_ := List.replicate fb 0
  let addv := fun (a b : List Nat) => (a.zip b).map (fun e => addFp32 e.1 e.2)
  let sum := xs.foldl addv zero_
  let y := xs.foldl (fun acc x =>
    let d := (x.zip g.m).map (fun e => subFp32 e.1 e.2)
    let p := projection g d
    (acc.zip p).map (fun e => addv e.1 (d.map (fun v => mulFp32 v e.2)))) (g.w.map (fun _ => zero_))
  { n := xs.length, s := sum.map (fixedFp32 k), y := y.map (fun c => c.map (fixedFp32 k)) }

/-- The baseline's work after the residuals (R209, R210): loadings updated, and the epoch's contribution added to its interval. -/
def baseUpdate (s : State) (cls e : Nat) : State :=
  let defs := s.program cls e
  match s.baseFor e with
  | none => s
  | some g =>
    if (baseSlots defs).isEmpty then s
    else
      let rows := (s.rowsOf cls e).filter (fun r => r.product && (baseVector defs r).isSome)
      let xs := rows.map (fun r => (baseVector defs r).getD [])
      let s := (List.range rows.length).foldl (fun s i =>
        match rows[i]?, xs[i]? with
        | some r, some x =>
          let d := (x.zip g.m).map (fun e => subFp32 e.1 e.2)
          let a := loadingStep s.kA (s.loading g r.subject) (projection g d)
          let place := ((s.subjects cls).findIdx? (fun u => u.addr == r.subject)).getD 0
          ({ s with fea := { s.fea with loadings := s.fea.loadings.put nil r.subject a } }).baseWrite (0x44000 + place * 4 * g.w.length)
            ((a.map (le 4)).flatten)
        | _, _ => s) s
      let c := s.baseContribution g xs
      let i := e / s.baseInterval
      let o := s.fea.sums.get (fun _ => {}) i
      let t : BaseSums := { n := o.n + c.n, s := addInts o.s c.s, y := (List.range c.y.length).map (fun j => addInts (o.y.getD j []) (c.y.getD j [])) }
      let i64 := fun (v : Int) => le 8 (toField 64 v)
      ({ s with fea := { s.fea with sums := s.fea.sums.put (fun _ => {}) i t } }).baseWrite 0x23000
        (i64 t.n ++ (t.s.map i64).flatten ++ zeros (0x800 - 8 * t.s.length) ++ ((t.y.map (fun (c : List Int) => (c.map i64).flatten)).flatten))

/-- Pass 2 (R209, R219): residuals and what follows from them; TOKEN codes then go to the tokeniser. -/
def passTwo (s : State) (x : AEpoch) (cls : Nat) : State :=
  let s := (((s.evalPass x cls 2).markPass cls x.epoch 1).baseUpdate cls x.epoch).tokensArrive cls x.epoch
  if s.outsReady cls x.epoch then s.passThree x cls else s.writeRows x.epoch

/-- The program has a baseline set with a generation in force. -/
def hasBase (s : State) (cls e : Nat) : Bool := !(baseSlots (s.program cls e)).isEmpty && (s.baseFor e).isSome

/-- Every row that can have a baseline has its product. -/
def productsReady (s : State) (cls e : Nat) : Bool :=
  !s.hasBase cls e || (s.rowsOf cls e).all (fun r => r.product || (baseVector (s.program cls e) r).isNone)

/-- Pass 1 of one class (R202): its rows begun and evaluated; the passes that wait for nothing follow at once. -/
def passOne (s : State) (x : AEpoch) (cls : Nat) : State :=
  let defs := s.program cls x.epoch
  if defs.isEmpty || !(s.rowsOf cls x.epoch).isEmpty then s
  else
    let gen := ((s.baseFor x.epoch).map (fun g => g.gen)).getD 0
    let new := (s.subjects cls).map (fun u => ({ cls := cls, subject := u.addr, epoch := x.epoch, flags := rowFlags x (levelOfClass cls) u,
                                                 baseGen := gen % 2 ^ 16, slots := List.replicate defs.length {} } : FRow))
    let s := { s with fea := { s.fea with rows := s.fea.rows.filter (fun (r : FRow) => decide (x.epoch < r.epoch + 64)) ++ new } }
    let s := if levelOfClass cls = 0 ∧ cls = 0 then s.setFld F.FEA_STATUS_PASSES 0 else s
    let s := (s.evalPass x cls 1).markPass cls x.epoch 0
    if s.hasBase cls x.epoch then s.writeRows x.epoch else s.passTwo x cls

/-- Aligned data of a closed epoch reach FEA (R202): nothing is produced in Winter state or reset (R221). -/
def featurePass (s : State) (level e : Nat) : State :=
  if !s.works 5 then s
  else match s.closedInputs level e with
    | none => s
    | some x => (classesOf level).foldl (fun s cls => s.passOne x cls) s

/-- Pass 2 begins when pass 1 is done and every product is there, or `force`d by the deadline. -/
def tryTwo (s : State) (cls e : Nat) (force : Bool) : State :=
  match s.closedInputs (levelOfClass cls) e, s.rowsOf cls e with
  | some x, r :: _ => if r.passes = 1 && (force || s.productsReady cls e) then s.passTwo x cls else s
  | _, _ => s

/-- The baseline product of some subjects returns (R209). -/
def baselineProduct (s : State) (cls e : Nat) (subs : List Nat) : State :=
  if !s.works 5 then s
  else
    let s := s.modRows cls e (fun r => if r.passes = 1 ∧ subs.contains r.subject then { r with product := true } else r)
    s.tryTwo cls e false

/-- BASE_DEADLINE passes (R220): subjects without their product are counted, and the epoch goes on. -/
def baseDeadline (s : State) (cls e : Nat) : State :=
  if !s.works 5 || !s.hasBase cls e then s
  else
    let late := (s.rowsOf cls e).filter (fun r => r.passes == 1 && !r.product && (baseVector (s.program cls e) r).isSome)
    (s.addFld F.FEA_CNT_MODEL_LATE late.length).tryTwo cls e true

/-- Pass 3 begins when every output is there, or forced by the deadline. -/
def tryThree (s : State) (cls e : Nat) (force : Bool) : State :=
  match s.closedInputs (levelOfClass cls) e, s.rowsOf cls e with
  | some x, r :: _ => if r.passes = 3 && (force || s.outsReady cls e) then s.passThree x cls else s
  | _, _ => s

/-- Model outputs return (R219); after the deadline they are discarded (R220). -/
def modelOutputs (s : State) (cls e : Nat) (outs : List ModelOut) : State :=
  if !s.works 5 then s.routeDrop 14 5 4 0
  else
    let s := s.modRows cls e (fun r => if bit r.passes 2 then r else match outs.find? (fun o => o.subject == r.subject) with
      | some o => { r with outs := some (if o.poison then [] else o.vals), outSat := o.sat }
      | none => r)
    s.tryThree cls e false

/-- MODEL_DEADLINE passes (R220). -/
def featureDeadline (s : State) (cls e : Nat) : State :=
  if !s.works 5 || (s.program cls e).all (fun d => d.kind != 11) then s
  else
    let late := (s.rowsOf cls e).filter (fun r => r.passes == 3 && r.outs.isNone)
    (s.addFld F.FEA_CNT_MODEL_LATE late.length).tryThree cls e true

/-! ### External slots (R218) -/

/-- An external entry written: it takes effect from the next epoch that opens. -/
def extWrite (s : State) (entry w : Nat) : State :=
  let s := s.setReg (F.FEA_EXT_DATA_SUBJECT.at (entry % 4096)).addr (BitVec.ofNat 64 w)
  { s with fea := { s.fea with extDue := if s.fea.extDue.contains (entry % 4096) then s.fea.extDue else s.fea.extDue ++ [entry % 4096] } }

/-- At a tick, after the epoch has opened: the entries written since the last one act (R218). -/
def extTick (s : State) : State :=
  let ext := s.fea.extDue.foldl (fun t k => Tab.put none' t k (some ((s.reg (F.FEA_EXT_DATA_SUBJECT.at k).addr).toNat, s.epoch))) s.fea.ext
  { s with fea := { s.fea with ext := ext, extDue := [] } }

/-! ### Generations (R210 to R212) -/

/-- The interval sums as the plan's values: N, S, and Y by columns (R210, log entry 24). -/
def BaseSums.list (t : BaseSums) (fb r : Nat) : List Int :=
  t.n :: ((List.range fb).map (fun i => t.s.getD i 0) ++ ((List.range r).map (fun j => (List.range fb).map (fun i => (t.y.getD j []).getD i 0))).flatten)

/-- The contribution of the baseline to the node level's epoch (R210): the sums in the epoch that closes the interval, 0 in every other. -/
def baseContrib (s : State) (e : Nat) : List Contrib :=
  match s.fea.base with
  | none => []
  | some g =>
    let n := s.baseInterval
    let l := BaseSums.list (if (e + 1) % n = 0 then s.fea.sums.get (fun _ => {}) (e / n) else {}) g.m.length g.w.length
    [{ sender := 2 ^ 33, inputs := (List.range l.length).map (fun i => { src := s.myNode, kind := 7, index := i, value := l.getD i 0 }) }]

/-- The system level's summed values of the baseline, by index: value and SAT. -/
def summedBase (s : State) (b : SumBody) : List (Int × Bool) :=
  (((s.plan 2 b.epoch).filter (fun q => q.kind == 7)).map (fun q =>
    match b.entries.find? (fun e => e.1 == q.number) with
    | some e => (e.2.val, bit e.2.eflags eSat)
    | none => (0, false)))

/-- The offset of a generation slot in the region (R360). -/
def genSlot (i : Nat) : Nat := if i = 0 then 0x1000 else 0x12000

/-- A generation slot's header (R360). -/
def genHeader (g : BaseGen) (st : Nat) : Bytes := le 4 g.gen ++ le 6 g.act ++ le 1 st ++ zeros 53

/-- A received generation waits for its activation epoch (R212, R360); one that is already past is not installed. -/
def baselineReceive (s : State) (gen act : Nat) (payload : Bytes) : State :=
  match s.fea.base with
  | none => s
  | some g =>
    if act ≤ s.epoch then s
    else
      let n := BaseGen.ofBytes gen act g.m.length g.w.length payload
      let s := { s with fea := { s.fea with next := some n } }
      let s := s.baseWrite (genSlot (1 - s.fea.slot)) (genHeader n 1 ++ payload)
      (s.setFld F.FEA_BASE_PENDING 1).setFld F.FEA_ACT_PENDING_EPOCH act

/-- The system master forms the next generation (R211), or keeps the one it has and counts BASE_REJECT. -/
def baselineGeneration (s : State) (b : SumBody) : State :=
  match s.fea.base with
  | none => s
  | some g =>
    if b.level ≠ 2 || (b.epoch + 1) % s.baseInterval ≠ 0 then s
    else
      let vs := s.summedBase b
      let fb := g.m.length
      let n := (vs.getD 0 (0, false)).1
      if vs.any (fun v => v.2) || n = 0 then s.incFld F.FEA_BASE_BASE_REJECT
      else
        let k : Int := min 32 (s.fld F.FEA_CFG_FRAC_BITS)
        let at_ := fun (i : Nat) => scaledFp32 (vs.getD i (0, false)).1 (-k)
        let m := (List.range fb).map (fun i => divFp32 (at_ (1 + i)) (intFp32 n))
        let y := (List.range g.w.length).map (fun j => (List.range fb).map (fun i => at_ (1 + fb + j * fb + i)))
        let next : BaseGen := { m := m, w := gramSchmidt y g.w }
        let act := b.epoch + s.fld F.FEA_ACT_ACT_DELAY
        let s := s.openBcast 3 act (act - 1) next.bytes
        (s.baselineReceive (s.bgen 3) act (s.bcastPayload 3)).holdBcast 3

/-- The oldest closed epoch of a level is reduced; its Summary goes into the summary ring and up, and at the end of an interval the system
master forms the next baseline generation (R181, R191, R194, R210, R211). -/
def reductionDone (s : State) (level : Nat) : State :=
  if !s.works 4 then s
  else match s.aln.epochs.find? (fun x => x.level == level && x.st == 1) with
  | none => s
  | some x =>
    let b := s.reduceAll 0 x (if level = 0 then x.contribs ++ s.baseContrib x.epoch else x.contribs)
    let s := s.setEpochs (s.aln.epochs.map (fun y => if y.level = level ∧ y.epoch = x.epoch then { y with st := 2 } else y))
    let s := s.writeSlot 5 (s.imageFor x.epoch).sumN x.epoch b.bytes false
    (s.upward b).baselineGeneration b

/-- At the tick that opens its activation epoch a generation is installed (R212). -/
def baselineInstall (s : State) : State :=
  match s.fea.next with
  | none => s
  | some n =>
    if s.epoch < n.act then s
    else
      let old := s.fea.base
      let s := { s with fea := { s.fea with before := old, base := some n, since := n.act, next := none, slot := 1 - s.fea.slot } }
      let s := (s.baseWrite (genSlot s.fea.slot) (genHeader n 2)).baseWrite (genSlot (1 - s.fea.slot)) (genHeader (old.getD {}) 3)
      (s.setFld F.FEA_BASE_PENDING 0).setFld F.FEA_BASE_GEN n.gen

/-- At a commit: the image's generation 0 when none is in force, or when the baseline's shape changes; loadings then start at 0 (R208). -/
def baselineCommit (s : State) : State :=
  let keep := match s.fea.base, s.image.base0 with
    | some g, some n => g.m.length == n.m.length && g.w.length == n.w.length
    | _, _ => false
  if keep then s
  else
    let s := { s with fea := { s.fea with base := s.image.base0, before := none, next := none, since := s.epoch, slot := 0, loadings := [], sums := [] } }
    let s := ((s.setFld F.FEA_BASE_GEN 0).setFld F.FEA_BASE_PENDING 0)
    match s.image.base0 with
    | none => s
    | some g =>
      let n := ((List.range 2).map (fun c => if (baseSlots (s.image.features.getD c [])).isEmpty then 0 else (s.subjects c).length)).sum
      let s := (s.setFld F.FEA_BASE_RANK_M1 (g.w.length - 1)).setFld F.FEA_BASE_FB_M1 (g.m.length - 1)
      (s.baseWrite 0 (le 2 g.m.length ++ le 1 g.w.length ++ zeros 1 ++ le 4 n)).baseWrite (genSlot 0) (genHeader g 2 ++ g.bytes)

/-- At a commit a slot keeps its history only with KEEP_HISTORY and a bit-identical definition (R213). -/
def historyCommit (s : State) (old : Image) : State :=
  let same := fun (cls f : Nat) =>
    match (old.features.getD cls [])[f]?, (s.image.features.getD cls [])[f]? with
    | some a, some b => a == b && b.keep
    | _, _ => false
  let ewma := s.fea.ewma.filter (fun e => same (e.1 / 256 / 2 ^ 32) (e.1 % 256))
  let rows := s.fea.rows.map (fun r =>
    { r with slots := (List.range r.slots.length).map (fun f =>
        let v := r.slots.getD f {}
        if bit r.passes 2 && !same r.cls f then { v with val := none } else v) })
  { s with fea := { s.fea with ewma := ewma, rows := rows } }

/-- History starts empty on a level taken over (R207). -/
def historyTakeover (s : State) (level : Nat) : State :=
  { s with fea := { s.fea with rows := s.fea.rows.filter (fun r => levelOfClass r.cls != level),
                               ewma := s.fea.ewma.filter (fun e => levelOfClass (e.1 / 256 / 2 ^ 32) != level) } }

end State

/-- REDUCTION_DONE (R181, R210, R211): the oldest closed epoch of a level is reduced, its Summary goes up and into the summary ring, and the system
master forms the next baseline generation at the end of an interval. -/
def execReductionDone (level : Nat) (s : State) : Host.Outcome State Fault Refusal := s.run (fun s => s.reductionDone level)

/-- TAKEOVER (R25, R207): the level's history starts empty on the acting master. -/
def execTakeover (tier : Tier) (s : State) : Host.Outcome State Fault Refusal :=
  s.run (fun s =>
    let was := s.flag (State.actingF tier)
    let s := s.takeover tier
    if s.flag (State.actingF tier) && !was then s.historyTakeover (State.tierLevel tier) else s)

/-- FEATURE_PASS (R202). -/
def execFeaturePass (level epoch : Nat) (s : State) : Host.Outcome State Fault Refusal := s.run (fun s => s.featurePass level epoch)

/-- BASELINE_PRODUCT (R209). -/
def execBaselineProduct (cls epoch : Nat) (subjects : List Nat) (s : State) : Host.Outcome State Fault Refusal :=
  s.run (fun s => s.baselineProduct cls epoch subjects)

/-- BASE_DEADLINE (R220). -/
def execBaseDeadline (cls epoch : Nat) (s : State) : Host.Outcome State Fault Refusal := s.run (fun s => s.baseDeadline cls epoch)

/-- MODEL_OUTPUTS (R219). -/
def execModelOutputs (cls epoch : Nat) (outs : List ModelOut) (s : State) : Host.Outcome State Fault Refusal :=
  s.run (fun s => s.modelOutputs cls epoch outs)

/-- EXT_DATA_WRITE (R218). -/
def execExtDataWrite (entry value : Nat) (s : State) : Host.Outcome State Fault Refusal := s.run (fun s => s.extWrite entry value)

end Sys2Proof.Machine
end

