-- ==== Sys2Proof/Machine/Sequence.lean ====
section
/-! DEFINITION. Running sequence models (11): tokens, the key and value window, runs and their ends. -/

namespace Sys2Proof.Machine
namespace State

/-! ### Tokens (R288) -/

/-- TOKEN slots of a class in an epoch, ascending. -/
def tokenSlots (s : State) (cls e : Nat) : List Nat :=
  let defs := s.program cls e
  (List.range defs.length).filter (fun f => ((defs[f]?).map (fun d => d.token)).getD false)

/-- The elements of a subject's token (R288): values, then marks of missing ones. -/
def tokenOf (c : ModelCfg) (slots : List Nat) (r : FRow) : List Nat :=
  let ok := fun (f : Nat) => (r.slots.getD f {}).status < 2
  (List.range slots.length).map (fun j =>
    let f := slots.getD j 0
    let z := c.tokens.getD j (0, 0)
    if ok f then mulFp32 (intFp32 (((r.slots.getD f {}).code : Int) - (z.1 : Int))) z.2 else 0) ++
  slots.map (fun f => if ok f then 0 else 0x3F800000)

/-- The tokens of an epoch: every subject of the class with a feature row (R289). -/
def tokensOf (s : State) (c : ModelCfg) (e : Nat) : List (Nat × List Nat) :=
  let slots := s.tokenSlots c.cls e
  (s.rowsOf c.cls e).map (fun r => (r.subject, tokenOf c slots r))

/-! ### The window (R293 to R295) -/

/-- A value stored in the window (R294): its E4M3 code under a scale, and whether it saturated. A NaN is the E4M3 NaN. -/
def storeKv (scale x : Nat) : Nat × Bool :=
  match decodeIeee 8 23 x with
  | .nan => (0x7F, false)
  | .inf neg => (0x7E + b2n neg * 128, true)
  | v => quantElem 0 2 ((scale : Int) - 127) v

/-- A key or value as stored bytes, and whether any element saturated. -/
def storeVec (scale h : Nat) (xs : List Nat) : Bytes × Bool :=
  let cs := (List.range h).map (fun i => storeKv scale (xs.getD i 0))
  (cs.map (fun c => BitVec.ofNat 8 c.1), cs.any (fun c => c.2))

/-- Subject `u` has entries in a slot whose header is `h`. -/
def present (h : Nat × Bool × Bytes) (u : Nat) : Bool := bit (bytesAt h.2.2 (u / 8) 1) (u % 8)

/-- Poisoned window entries of a model, as layer, subject index and slot. -/
def poisonedEntries (s : State) (r : Region) (c : ModelCfg) (n : Nat) : List (Nat × Nat × Nat) :=
  let size := c.layers * n * c.window * (2 * c.h)
  ((s.sto.poison.filterMap (fun e =>
    let a := e.1 * 8
    if e.2 && decide (r.base ≤ a) && decide (a < r.base + size) then
      let i := (a - r.base) / (2 * c.h)
      some (i / c.window / n, i / c.window % n, i % c.window)
    else none)).eraseDups)

/-- Past entries of subject index `u` in epoch `e` whose headers make them valid, as slots (R295). -/
def pastSlots (s : State) (r : Region) (c : ModelCfg) (n e u : Nat) : List Nat :=
  ((List.range c.window).filter (fun w => decide (w < e))).filterMap (fun w =>
    let slot := (e - 1 - w) % c.window
    let h := s.slotHeader r c n slot
    if h.1 = e - 1 - w ∧ h.2.1 ∧ present h u then some slot else none)

/-- MIN_PAST for an epoch: the value at the tick that opened it, at most W. -/
def minPast (s : State) (m e w : Nat) : Nat :=
  let l := (s.seq m).minPast.filter (fun x => decide (x.1 ≤ e))
  min w ((l.getLast?.map (fun x => x.2)).getD (s.fld (F.STW_MDL_CFG_MIN_PAST.at m)))

/-- At a tick, MIN_PAST applies from the opening epoch on. -/
def latchMinPast (s : State) : State :=
  (List.range 4).foldl (fun s m =>
    let q := s.seq m
    let v := s.fld (F.STW_MDL_CFG_MIN_PAST.at m)
    if (q.minPast.getLast?.map (fun x => x.2)) = some v ∨ (s.model m s.epoch).isNone then s
    else { s with seqs := s.seqs.put (fun _ => {}) m { q with minPast := (q.minPast ++ [(s.epoch, v)]).drop (q.minPast.length + 1 - 64) } }) s

/-! ### Runs (R289, R296, R297) -/

/-- The run of the next waiting epoch begins, its tokens formed (R288, R296). -/
def modelStart (s : State) (m : Nat) : State :=
  let q := s.seq m
  match q.running, q.waiting with
  | none, e :: rest =>
    if !s.works 14 then s
    else
      let s := s.setSeq m { q with running := some e, waiting := rest }
      (match s.model m e with
       | some c => s.emit (.tokens m e (s.tokensOf c e))
       | none => s)
  | _, _ => s

/-- The peer set of a subject (R282): its die for a unit, else all. -/
def peerSet (cls a : Nat) : Nat := if cls = 0 then senderOf a else 0

/-- A run ends (R289, R294 to R296): the present entries are stored, the slot's header written, and the outputs go to FEA but for those
withheld; the next waiting run begins. -/
def modelEnd (s : State) (m : Nat) (outs : List ModelOut) (kv : List KvEntry) : State :=
  let q := s.seq m
  match q.running with
  | none => s
  | some e =>
    if !s.works 14 then s
    else match s.model m e with
    | none => (s.setSeq m { q with running := none }).modelStart m
    | some c =>
      let us := s.windowSubjects (s.imageFor e) c.cls
      let n := us.length
      let valid := fun (a : Nat) => (s.rowsOf c.cls e).any (fun r => r.subject == a)
      match s.windowRegion m with
      | none => (s.setSeq m { q with running := none }).modelStart m
      | some r =>
        let pz := s.poisonedEntries r c n
        let past := (List.range n).map (fun u => if valid (us.getD u 0) then s.pastSlots r c n e u else [])
        let lost := (pz.filter (fun x => (past.getD x.2.1 []).contains x.2.2)).length
        let good := fun (u : Nat) => ((past.getD u []).filter (fun w => !pz.any (fun x => x.2.1 == u && x.2.2 == w))).length
        let s := s.addFld (F.STW_MDL_CNT_KV_POISON.at m) lost
        let done := kv.filterMap (fun k => match us.findIdx? (fun a => a == k.subject) with
          | some u => if valid k.subject && decide (k.layer < c.layers) then
              let sc := c.kvScale.getD k.layer 127
              let (kb, ks) := storeVec sc c.h k.key
              let (vb, vs) := storeVec sc c.h k.value
              some (entryPlace r c n k.layer u (e % c.window), kb ++ vb, ks || vs, peerSet c.cls k.subject)
            else none
          | none => none)
        let s := done.foldl (fun s k => s.storeWrite k.1 k.2.1 false) s
        let s := s.writeHeader m n e c true (us.map valid)
        let enough := fun (a : Nat) => match us.findIdx? (fun x => x == a) with
          | some u => decide (s.minPast m e c.window ≤ good u)
          | none => false
        let mine := outs.filter (fun o => valid o.subject)
        let sat := fun (o : ModelOut) => done.any (fun k => k.2.2.1 && k.2.2.2 == peerSet c.cls o.subject)
        let s := s.addFld (F.STW_MDL_CNT_WITHHELD.at m) ((us.filter (fun a => valid a && !enough a)).length)
        let s := (s.setSeq m { q with running := none }).trace 14 6 (zeros 4 ++ le 6 e)
        let s := s.modelOutputs c.cls e ((mine.filter (fun o => enough o.subject)).map (fun o => { o with sat := o.sat || sat o }))
        s.modelStart m

/-- FEA's deadline of an epoch at the dispatcher (R296, R297): its run is abandoned, or the epoch unstarted while it still waits; the next waiting
epoch starts at once. -/
def runDeadline (s : State) (cls e : Nat) : State :=
  match s.modelOf cls e with
  | none => s
  | some m =>
    let q := s.seq m
    if q.running = some e then (s.abandonRun m).modelStart m
    else if q.waiting.contains e then ((s.setSeq m { q with waiting := q.waiting.filter (fun x => x != e) }).incFld (F.STW_MDL_CNT_ABANDONED.at m)).trace 14 6 (epochCut e)
    else s

/-! ### Commit (R298) -/

/-- At a commit each model's window is kept or cleared: kept with the same subjects, L, H, W, KV_SCALE and weights. -/
def windowCommit (s : State) (old : Option Image) : State :=
  (List.range 4).foldl (fun s m =>
    match s.image.models[m]? with
    | none => s
    | some c =>
      let us := s.windowSubjects s.image c.cls
      let same := match old with
        | none => false
        | some o => match o.models[m]? with
          | none => false
          | some d => s.windowSubjects o d.cls == us && d.cls == c.cls && d.layers == c.layers && d.h == c.h && d.window == c.window &&
              d.kvScale == c.kvScale && o.modelsCrc == s.image.modelsCrc
      if same then s
      else match s.windowRegion m with
      | none => s
      | some r =>
        let s := (List.range c.window).foldl (fun s w => s.storeWrite (headerPlace r c us.length w + 6) [0] false) s
        (s.incFld (F.STW_MDL_CNT_CLEARS.at m)).showWindow m us.length c) s

end State

/-- MODEL_DEADLINE (R220, R297). -/
def execModelDeadline (cls epoch : Nat) (s : State) : Host.Outcome State Fault Refusal :=
  s.run (fun s => (s.runDeadline cls epoch).featureDeadline cls epoch)

/-- MODEL_RUN_START (R296). -/
def execModelRunStart (model : Nat) (s : State) : Host.Outcome State Fault Refusal := s.run (fun s => s.modelStart model)

/-- MODEL_RUN_END (R296): the compiled graph's outputs and present entries. -/
def execModelRunEnd (model : Nat) (outs : List ModelOut) (kv : List KvEntry) (s : State) : Host.Outcome State Fault Refusal :=
  s.run (fun s => s.modelEnd model outs kv)

end Sys2Proof.Machine
end

