-- ==== Sys2Proof/Machine/Tree.lean ====
section
/-! DEFINITION. TRE: keys, lookups, margins, score rows, banks and scrubbing (09). -/

namespace Sys2Proof.Machine

/-! ### Keys and matches (R223, R225) -/

/-- The split field of a subject's codes under a plan (R225); the slots of `invert` have their split bits inverted (R235). -/
def splitField (p : KeyPlan) (codes : List Nat) (invert : List Nat) : Nat :=
  p.splits.foldr (fun t n =>
    let b := decide (t.2 ≤ codes.getD t.1 0)
    n * 2 + b2n (if invert.contains t.1 then !b else b)) 0

/-- A lookup key (R225). -/
def lookupKey (ens tree splits : Nat) : Nat := tree + ens * 2 ^ 13 + splits * 2 ^ 16

/-- An entry matches a key (R223). -/
def TEntry.hits (e : TEntry) (key : Nat) : Bool := e.valid && (key &&& e.mask) == (e.value &&& e.mask)

/-- The places in a slice that match a key, the lowest row first. -/
def matchesIn (entries : List (Nat × TEntry)) (slice key : Nat) : List (Nat × TEntry) :=
  entries.filter (fun e => e.1 / 32768 == slice && e.2.hits key)

/-! ### Margins (R232, R233) -/

/-- The largest finite FP32 value. -/
def maxFinite : Nat := 0x7F7FFFFF

/-- A sum held at the largest finite magnitude, and whether it was. -/
def holdFinite (x : Nat) : Nat × Bool :=
  if x % 2 ^ 31 = 0x7F800000 then (x - 1, true) else (x, false)

/-- One tree's contribution to a subject: class, value, place, selector, tags, dependence on a substituted code, poison. -/
structure Contribution where
  cls : Nat
  value : Nat
  ref : Option LeafRef
  nan : Bool
  poison : Bool

/-- The margin of a class (R232): leaf values in ascending tree index, each step rounded and held. -/
def margin (base : Nat) (average : Bool) (xs : List Nat) : Nat × Bool :=
  let (s, sat) := xs.foldl (fun (acc : Nat × Bool) v => let (y, h) := holdFinite (addFp32 acc.1 v); (y, acc.2 || h)) (0, false)
  let s := if average then divFp32 s (intFp32 xs.length) else s
  let (m, h) := holdFinite (addFp32 base s)
  (m, sat || h)

/-- The class with the largest margin, the lowest on a tie (R233). -/
def winnerOf (ms : List Nat) : Nat :=
  (List.range ms.length).foldl (fun w c => if ltFp32 (ms.getD w 0) (ms.getD c 0) then c else w) 0

/-- The `k` references of largest value, descending, the lower tree index first on equal values (R233). -/
def topRefs (k : Nat) (rs : List LeafRef) : List LeafRef :=
  (rs.foldl (fun l r => l.filter (fun x => leFp32 r.value x.value) ++ r :: l.filter (fun x => !leFp32 r.value x.value)) []).take k

/-- A leaf reference's bytes (R237). -/
def LeafRef.bytes (r : LeafRef) : Bytes :=
  le 4 r.value ++ le 2 r.selector ++ le 1 r.feature ++ le 1 (r.cause % 16 + r.cls % 16 * 16) ++
    le 4 (r.place % 2 ^ 19 + r.bank % 2 * 2 ^ 19 + b2n r.nan * 2 ^ 20) ++ zeros 4

/-- A score row's bytes (R237). -/
def ScoreRow.bytes (r : ScoreRow) : Bytes :=
  let head := le 4 r.subject ++ le 6 r.epoch ++ le 1 (r.ensemble % 8 + r.bank % 2 * 8 + r.status % 4 * 16) ++
    le 1 ((r.classes - 1) % 16 + r.winner % 16 * 16) ++ le 2 r.flags ++ le 2 (r.trees % 2 ^ 14) ++ le 4 r.gen ++ le 2 r.excluded ++
    le 1 (r.refs.length % 16) ++ zeros 9
  let b := head ++ pad8 ((r.margins.map (le 4)).flatten) ++ (r.refs.map LeafRef.bytes).flatten
  b ++ zeros ((32 - b.length % 32) % 32)

namespace State

/-! ### Banks (R239, R240) -/

/-- Bank `b`. -/
def tbank (s : State) (b : Nat) : TreeBank := s.tre.banks.get (fun _ => {}) b

/-- The bank that serves epoch `e`: the one in force at the tick that opened it (R239). -/
def bankFor (s : State) (e : Nat) : Nat :=
  let a := s.fld F.TRE_STATUS_ACTIVE_BANK
  if e < s.fld F.TRE_SWAP_SWAP_EPOCH then 1 - a else a

/-- A bank loaded with an image's tables, and its backing copy (R239). -/
def loadBank (s : State) (b : Nat) (t : TreeTables) : State :=
  let s := { s with tre := { s.tre with banks := s.tre.banks.put (fun _ => {}) b { tables := t },
                                        backing := s.tre.backing.put (fun _ => {}) b t } }
  (s.setFld (treBank b F.TRE_BANK0_GEN) (t.gen % 2 ^ 32)).setFld (treBank b F.TRE_BANK0_VALID) 1

/-- At commit the image's tables load into the idle bank as TRE's shadow (R239); never while the old bank still serves epochs (R240). -/
def treShadow (s : State) (t : TreeTables) : State :=
  if s.flag F.TRE_STATUS_OLD_BUSY then s
  else
    let b := 1 - s.fld F.TRE_STATUS_ACTIVE_BANK
    let s := s.loadBank b t
    ({ s with tre := { s.tre with shadow := true } }).setFld F.TRE_STATUS_SHADOW_READY 0

/-- At the commit tick newly opening epochs use the new bank (R239). -/
def treSwap (s : State) (e : Nat) : State :=
  if !s.tre.shadow then s
  else
    let old := s.fld F.TRE_STATUS_ACTIVE_BANK
    let s := { s with tre := { s.tre with shadow := false } }
    let s := (s.setFld F.TRE_STATUS_ACTIVE_BANK (1 - old)).setFld F.TRE_SWAP_SWAP_EPOCH e
    let s := s.setFld F.TRE_STATUS_OLD_BUSY (s.fld (treBank old F.TRE_BANK0_VALID))
    if s.flag F.TRE_STATUS_OLD_BUSY then s else s.setFld F.TRE_STATUS_SHADOW_READY 1

/-- An epoch opened before the swap has not left TRE: it is in flight, or its rows are still to come from ALN or FEA (R240). -/
def oldEpochs (s : State) : Bool :=
  let e := s.fld F.TRE_SWAP_SWAP_EPOCH
  s.tre.flight.any (fun f => decide (f.2.1 < e)) ||
  s.aln.epochs.any (fun x => decide (x.epoch < e) && (x.st == 0 || x.st == 1)) ||
  s.fea.rows.any (fun r => decide (r.epoch < e) && !bit r.passes 2)

/-- The old bank retires when no epoch that uses it is still in TRE (R240). -/
def bankRetire (s : State) : State :=
  if s.flag F.TRE_STATUS_OLD_BUSY && !s.oldEpochs then (s.setFld F.TRE_STATUS_OLD_BUSY 0).setFld F.TRE_STATUS_SHADOW_READY 1 else s

/-- Both banks reloaded from the backing region, after an island reset or a warm reset (R244). -/
def treReload (s : State) : State :=
  let s := s.setFlight []
  { s with tre := { s.tre with banks := s.tre.backing.foldl (fun t e => t.put (fun _ => {}) e.1 { tables := e.2 }) [] } }

/-! ### Locations and counts (R241 to R243) -/

/-- STB_TRE_ERR_LOC, and a location for an error record. -/
def treLoc (s : State) (b place kind : Nat) : State :=
  s.setReg F.TRE_ERR_LOC_ROW.addr (BitVec.ofNat 64 (place % 2 ^ 19 + b % 2 * 2 ^ 19 + kind * 2 ^ 20))

/-- The location number of an entry. -/
def entryLoc (b place : Nat) : Nat := place % 2 ^ 19 + b % 2 * 2 ^ 19

/-! ### Evaluation (R231 to R237) -/

/-- The ensembles of a subject class in a bank, with their numbers. -/
def ensemblesOf (s : State) (b cls : Nat) : List (Nat × Ensemble) :=
  let es := (s.tbank b).tables.ensembles
  (List.range es.length).filterMap (fun i => match es[i]? with
    | some e => if e.cls = cls then some (i, e) else none
    | none => none)

/-- A tree is excluded (R242). -/
def treeExcluded (s : State) (b ens tree : Nat) : Bool := (s.tbank b).excluded.contains (ens * 8192 + tree)

/-- Lookups of a subject of a class in a bank. -/
def lookupCount (s : State) (b cls : Nat) : Nat :=
  ((s.ensemblesOf b cls).map (fun e => ((List.range e.2.trees.length).filter (fun t => !s.treeExcluded b e.1 t)).length)).sum

/-- The subject's row of FEA, complete. -/
def doneRow (s : State) (cls e subject : Nat) : Option FRow :=
  s.fea.rows.find? (fun r => r.cls == cls && r.epoch == e && r.subject == subject && bit r.passes 2)

/-- TRE builds the keys of a subject and issues its lookups (R231); in Winter state or reset it issues none (R244). -/
def treeEvaluate (s : State) (cls e subject : Nat) : State :=
  if !s.works 6 || (s.doneRow cls e subject).isNone then s
  else
    let b := s.bankFor e
    if s.tre.flight.contains (cls, e, subject, b) || !s.flag (treBank b F.TRE_BANK0_VALID) then s
    else (s.setFlight (s.tre.flight ++ [(cls, e, subject, b)])).perf 6 0x100 (s.lookupCount b cls)

/-- One lookup (R231, R242): the place and entry, none without a match; several matches take the lowest row. -/
def lookup (s : State) (b slice key : Nat) : Option (Nat × TEntry) × State :=
  let inj := s.injectArmed 6 6 && s.fld (F.INJECT_NBITS.at 6) == 2
  let es := (s.tbank b).tables.entries
  let hits := matchesIn es slice key
  let hits := if inj then (hits.map (fun h => (h.1, { h.2 with value := h.2.value ^^^ 2 ^ 16 }))).filter (fun h => h.2.hits key) else hits
  let s := if inj then s.fireInject 6 else s
  match hits with
  | [] => (none, ((s.incFld F.TRE_CNT0_NO_MATCH).treLoc b (slice * 32768) 2).recordError 6 0x0D 2 (entryLoc b (slice * 32768)) inj)
  | [h] => (some h, s)
  | h :: _ => (some h, ((s.incFld F.TRE_CNT0_MULTI_MATCH).treLoc b h.1 3).recordError 6 0x0D 2 (entryLoc b h.1) inj)

/-- A leaf word read (R243): 1 corrected, 2 poisoned; whether it is poisoned. -/
def readLeaf (s : State) (b place errs : Nat) : Bool × State :=
  let inj := s.injectArmed 6 7
  let errs := if inj then (if s.injectBits 6 = 1 then 1 else 2) else errs
  let s := if inj then s.fireInject 6 else s
  match errs with
  | 0 => (false, s)
  | 1 => (false, ((s.incFld F.TRE_CNT1_LEAF_CE).treLoc b place 4).recordError 6 0x0E 1 (entryLoc b place) inj)
  | _ => (true, ((s.incFld F.TRE_CNT1_LEAF_UE).treLoc b place 5).recordError 6 0x0F 2 (entryLoc b place) inj)

/-- The contribution of tree `t` of ensemble `n` (R232, R235, R242, R243). `errs` says what the leaf word's check finds. -/
def treeContribution (s : State) (b n t errs : Nat) (tc : TreeCfg) (row : FRow) : Contribution × State :=
  let codes := row.slots.map (fun c => c.code)
  let plan := (s.tbank b).tables.plans.getD tc.plan { cls := 0 }
  let subst := (plan.splits.map (fun p => p.1)).filter (fun f => ((row.slots[f]?).map (fun c => c.status)).getD 0 == 3)
  let (hit, s) := s.lookup b tc.slice (lookupKey n t (splitField plan codes []))
  let dep := !subst.isEmpty &&
    (!s.flag F.TRE_CFG_NAN_RECHECK ||
      (matchesIn (s.tbank b).tables.entries tc.slice (lookupKey n t (splitField plan codes subst))).head?.map (fun h => h.1) != hit.map (fun h => h.1))
  let s := if dep then s.incFld F.TRE_CNT1_NAN_DEP else s
  match hit with
  | none => ({ cls := tc.cls, value := 0, ref := none, nan := dep, poison := false }, s)
  | some (place, e) =>
    let (bad, s) := s.readLeaf b place errs
    ({ cls := tc.cls, value := e.leaf, nan := dep, poison := bad,
       ref := some { value := e.leaf, selector := t + n * 2 ^ 13, feature := e.feature, cause := e.cause, cls := tc.cls, place := place,
                     bank := b, nan := dep } }, s)

/-- The score row of an ensemble for a subject (R232, R233, R237). `errs` gives the leaf words with errors: tree and 1 or 2. -/
def scoreRow (s : State) (b : Nat) (en : Nat × Ensemble) (row : FRow) (errs : List (Nat × Nat)) : ScoreRow × State :=
  let (n, e) := en
  let looked := (List.range e.trees.length).filter (fun t => !s.treeExcluded b n t)
  let (cs, s) := looked.foldl (fun (acc : List Contribution × State) t =>
    match e.trees[t]? with
    | none => acc
    | some tc =>
      let (c, s) := acc.2.treeContribution b n t (((errs.find? (fun x => x.1 == t)).map (fun x => x.2)).getD 0) tc row
      (acc.1 ++ [c], s)) ([], s)
  let ms := (List.range e.classes).map (fun k => margin (e.bases.getD k 0) e.average ((cs.filter (fun c => c.cls == k)).map (fun c => c.value)))
  let margins := ms.map (fun m => m.1)
  let w := winnerOf margins
  let excl := e.trees.length - looked.length
  let flags := (row.flags &&& (0xFFFF - 2 ^ flagNanSubst)) ||| b2n (cs.any (fun c => c.nan)) * 2 ^ flagNanSubst |||
    b2n (ms.any (fun m => m.2)) * 2 ^ flagSat ||| b2n (cs.any (fun c => c.poison)) * 2 ^ flagPoison
  ({ cls := row.cls, subject := row.subject, epoch := row.epoch, ensemble := n, bank := b, status := b2n (excl != 0), classes := e.classes,
     winner := w, flags := flags, trees := looked.length, gen := (s.tbank b).tables.gen % 2 ^ 32, excluded := excl, margins := margins,
     refs := topRefs (min 8 e.explK) ((cs.filter (fun c => c.cls == w)).filterMap (fun c => c.ref)) }, s)

/-- Rows kept, and the epoch's slot of the SCORE ring written (R237, R359). -/
def putRows (s : State) (e : Nat) (rs : List ScoreRow) : State :=
  let s := { s with tre := { s.tre with rows := s.tre.rows.filter (fun (r : ScoreRow) => decide (e < r.epoch + 64)) ++ rs } }
  s.writeSlot 6 (s.imageFor e).scoreN e (((s.tre.rows.filter (fun r => r.epoch == e)).map ScoreRow.bytes).flatten) false

/-- LAST_EPOCH and EPOCH_DONE (R399) once the node level's rows of an epoch are complete; `cut` when lookups were abandoned. -/
def treDone (s : State) (e : Nat) (cut : Bool) : State :=
  if s.tre.flight.any (fun f => f.2.1 == e && levelOfClass f.1 == 0) ||
     s.fea.rows.any (fun r => r.epoch == e && levelOfClass r.cls == 0 &&
       !s.tre.rows.any (fun y => y.cls == r.cls && y.epoch == e && y.subject == r.subject) && !(s.ensemblesOf (s.bankFor e) r.cls).isEmpty)
  then s else (s.setFld F.TRE_STATUS_LAST_EPOCH e).trace 6 6 (le 1 (b2n cut) ++ zeros 3 ++ le 6 e)

/-- A subject's lookups complete (R237): its score rows, one per ensemble. -/
def lookupsDone (s : State) (cls e subject : Nat) (errs : List (Nat × Nat × Nat)) : State :=
  if !s.works 6 then s
  else match s.tre.flight.find? (fun f => f.1 == cls && f.2.1 == e && f.2.2.1 == subject), s.doneRow cls e subject with
  | some (_, _, _, b), some row =>
    let s := s.setFlight (s.tre.flight.filter (fun f => f != (cls, e, subject, b)))
    let (rows, s) := (s.ensemblesOf b cls).foldl (fun (acc : List ScoreRow × State) en =>
      let (r, s) := acc.2.scoreRow b en row ((errs.filter (fun x => x.1 == en.1)).map (fun x => x.2))
      (acc.1 ++ [r], s)) ([], s)
    (s.putRows e rows).treDone e false
  | _, _ => s

/-- DEADLINE_US passes (R236): lookups not complete are abandoned, and the subject receives MISSING rows. -/
def treeDeadline (s : State) (level e : Nat) : State :=
  if !s.works 6 then s
  else
    let late := s.tre.flight.filter (fun f => levelOfClass f.1 == level && f.2.1 == e)
    let s := s.setFlight (s.tre.flight.filter (fun f => !(levelOfClass f.1 == level && f.2.1 == e)))
    let rows := (late.map (fun f => (s.ensemblesOf f.2.2.2 f.1).map (fun en =>
      ({ cls := f.1, subject := f.2.2.1, epoch := e, ensemble := en.1, bank := f.2.2.2, status := 2, classes := en.2.classes,
         gen := (s.tbank f.2.2.2).tables.gen % 2 ^ 32 } : ScoreRow)))).flatten
    let s := s.addFld F.TRE_CNT0_ABANDONED late.length
    if late.isEmpty then s else (s.putRows e rows).treDone e true

/-! ### Scrubbing (R241, R242) -/

/-- An entry of a bank changed. -/
def setEntry (s : State) (b place : Nat) (f : TEntry → TEntry) : State :=
  let t := s.tbank b
  let es := t.tables.entries.map (fun e => if e.1 = place then (e.1, f e.2) else e)
  let t' : TreeBank := { t with tables := { t.tables with entries := es } }
  { s with tre := { s.tre with banks := s.tre.banks.put (fun _ => {}) b t' } }

/-- The scrubber reads an entry (R241): a parity failure is repaired from the backing region; a poisoned backing copy invalidates the entry and
excludes its tree (R242). -/
def scrubRead (s : State) (b slice row : Nat) (bad backingPoison : Bool) : State :=
  if s.fld F.TRE_CFG_SCRUB_LOG2 = 15 || s.istate 6 = 2 then s
  else
    let s := s.perf 6 0x101 1
    let inj := s.injectArmed 6 6 && s.injectBits 6 == 1
    let s := if inj then s.fireInject 6 else s
    if !bad && !inj then s
    else
      let place := slice * 32768 + row
      let old := ((s.tre.backing.get (fun _ => {}) b).entries.find? (fun e => e.1 == place)).map (fun e => e.2)
      if backingPoison then
        let sel := ((old.map (fun e => e.value)).getD 0) % 2 ^ 16
        let s := s.setEntry b place (fun e => { e with valid := false })
        let t := s.tbank b
        let t' : TreeBank := { t with excluded := if t.excluded.contains sel then t.excluded else t.excluded ++ [sel] }
        let s := { s with tre := { s.tre with banks := s.tre.banks.put (fun _ => {}) b t' } }
        (s.treLoc b place 6).recordError 6 0x0C 1 (entryLoc b place) inj
      else
        let s := match old with | some e => s.setEntry b place (fun _ => e) | none => s
        ((s.incFld F.TRE_CNT0_SCRUB_FIX).treLoc b place 1).recordError 6 0x0C 1 (entryLoc b place) inj

end State

/-- TREE_EVALUATE (R231). -/
def execTreeEvaluate (cls epoch subject : Nat) (s : State) : Host.Outcome State Fault Refusal := s.run (fun s => s.treeEvaluate cls epoch subject)

/-- TREE_LOOKUPS_DONE (R237). -/
def execTreeLookupsDone (cls epoch subject : Nat) (errs : List (Nat × Nat × Nat)) (s : State) : Host.Outcome State Fault Refusal :=
  s.run (fun s => s.lookupsDone cls epoch subject errs)

/-- TREE_DEADLINE (R236). -/
def execTreeDeadline (level epoch : Nat) (s : State) : Host.Outcome State Fault Refusal := s.run (fun s => s.treeDeadline level epoch)

/-- SCRUB_READ (R241). -/
def execScrubRead (bank slice row : Nat) (bad backingPoison : Bool) (s : State) : Host.Outcome State Fault Refusal :=
  s.run (fun s => s.scrubRead (bank % 2) (slice % 16) (row % 32768) bad backingPoison)

/-- BANK_RETIRE (R240). -/
def execBankRetire (s : State) : Host.Outcome State Fault Refusal := s.run (fun s => s.bankRetire)

end Sys2Proof.Machine
end

