-- ==== Sys2Proof/Machine/Verdict.lean ====
section
/-! DEFINITION. VRD: levels, evidence, candidacy, domains, the Autumn budget, batches and their signatures (12). -/

namespace Sys2Proof.Machine

/-- The link output of class `c` (R238). -/
def linkOutput (link : Nat) (ms : List Nat) (c : Nat) : Nat :=
  let m := ms.getD c 0
  match link with
  | 0 => m
  | 1 => logisticFp32 m
  | 2 =>
    let top := ms.getD (winnerOf ms) 0
    let e := fun (x : Nat) => (expFp32 (subFp32 x top)).1
    divFp32 (e m) (sumFp32 (ms.map e))
  | _ => (expFp32 m).1

/-- Bits set. -/
def onesIn (v n : Nat) : Nat := ((List.range n).filter (fun i => bit v i)).length

/-- A list in the order of `before`, equal items in their old order. -/
def sortBy (before : α → α → Bool) (l : List α) : List α :=
  l.foldl (fun r x => r.filter (fun y => !before x y) ++ x :: r.filter (fun y => before x y)) []

/-- The die of a unit or die address. -/
def dieOf (a : Nat) : Nat := a / 2 ^ 11 * 2 ^ 11 + 2047

namespace State

/-! ### Scores (R301, R302) -/

/-- A count of a class's policy, 0 treated as 1 where R301's registers say so. -/
def pol (s : State) (f : Fld) (cls : Nat) : Nat := s.fld (f.at cls)

/-- The score row of an ensemble for a subject and epoch that is data: COMPLETE or PARTIAL, without POISON (R302). -/
def vrdRow (s : State) (cls subject e ens : Nat) : Option ScoreRow :=
  s.tre.rows.find? (fun r => r.cls == cls && r.subject == subject && r.epoch == e && r.ensemble == ens && r.status != 2 &&
    !bit r.flags flagPoison)

/-- An output of a row's ensemble. -/
def rowOutput (s : State) (r : ScoreRow) (c : Nat) : Nat :=
  linkOutput (((s.tbank r.bank).tables.ensembles[r.ensemble]?.map (fun e => e.link)).getD 0) r.margins c

/-- The cause of a subject and its output (R301). -/
def vrdCause (s : State) (cls subject e : Nat) : Nat × Nat :=
  let unknown := s.pol F.VRD_POLICY_SRC_UNKNOWN_CAUSE cls
  if s.pol F.VRD_POLICY_SRC_CAUSE_VALID cls = 0 then (unknown, 0)
  else match s.vrdRow cls subject e (s.pol F.VRD_POLICY_SRC_CAUSE_ENS cls) with
    | none => (unknown, 0)
    | some r =>
      let y := s.rowOutput r r.winner
      if leFp32 (s.pol F.VRD_POLICY_SRC_CAUSE_MIN cls) y then ((((s.imageFor e).causeMaps.getD cls []).getD r.winner unknown), y) else (unknown, y)

/-- A subject's data in an epoch: score, cause, its output, flags of the score row. -/
def vrdData (s : State) (cls subject e : Nat) : Option (Nat × Nat × Nat × Nat) :=
  if s.pol F.VRD_POLICY_SRC_SCORE_VALID cls = 0 then none
  else (s.vrdRow cls subject e (s.pol F.VRD_POLICY_SRC_SCORE_ENS cls)).map (fun r =>
    let c := s.vrdCause cls subject e
    (s.rowOutput r (s.pol F.VRD_POLICY_SRC_SCORE_CLASS cls), c.1, c.2, r.flags))

/-! ### Levels (R302 to R306) -/

/-- The stratum that makes a die SUSPECT (R305): the one with most failures, the lowest on a tie. -/
def evidenceStratum (s : State) (die : Nat) : Option Nat :=
  ((s.failStrata die).filter (fun x => decide (s.evidMin ≤ s.failsIn die x))).foldl (fun (o : Option Nat) x =>
    match o with
    | some y => if s.failsIn die y < s.failsIn die x then some x else o
    | none => some x) none

/-- The own level of a subject after its bits and evidence (R303): raised at once, lowered after CLEAR_N epochs with data. -/
def ownLevel (s : State) (v : VSub) (counted : Bool) : VSub :=
  let sus := decide (max 1 (s.pol F.VRD_POLICY_CNT_SUSPECT_M v.cls) ≤ onesIn v.suspect 16) || v.stratum.isSome
  let wat := decide (max 1 (s.pol F.VRD_POLICY_CNT_WATCH_M v.cls) ≤ onesIn v.watch 8) || sus
  let top := if sus then 2 else if wat then 1 else 0
  let holds := v.level == 0 || (v.level == 1 && wat) || (v.level == 2 && sus)
  if v.level < top then { v with level := top, calm := 0 }
  else if holds then { v with calm := if counted then 0 else v.calm }
  else if !counted then v
  else if s.pol F.VRD_POLICY_CNT_CLEAR_N v.cls ≤ v.calm + 1 then { v with level := top, calm := 0 }
  else { v with calm := v.calm + 1 }

/-- A subject's own level in epoch `e` (R302, R303, R305). Without data nothing is shifted; evidence alone still raises a die. -/
def ownStep (s : State) (e : Nat) (v : VSub) : VSub :=
  let v := { v with stratum := if v.cls = 1 then s.evidenceStratum v.subject else none }
  match s.vrdData v.cls v.subject e with
  | none => s.ownLevel { v with noData := v.noData + 1 } false
  | some (sc, cause, p, flags) =>
    s.ownLevel { v with watch := (v.watch * 2 + b2n (leFp32 (s.pol F.VRD_POLICY_TH_WATCH_TH v.cls) sc)) % 256
                        suspect := (v.suspect * 2 + b2n (leFp32 (s.pol F.VRD_POLICY_TH_SUSPECT_TH v.cls) sc)) % 2 ^ 16
                        noData := 0, score := sc, causeP := p, cause := cause, rowEpoch := e, rowFlags := flags } true

/-- Whether `a` gives a die's cause before `b`: the larger score, then the lower address (R304). -/
def citedBefore (a b : VSub) : Bool := ltFp32 b.score a.score || (!ltFp32 a.score b.score && decide (a.subject < b.subject))

/-- The effective level and cause (R304, R305), and candidacy (R306). `all` holds the subjects with their own levels. -/
def effStep (s : State) (e : Nat) (all : List VSub) (v : VSub) : VSub :=
  let units := if v.cls = 1 then all.filter (fun u => u.cls == 0 && dieOf u.subject == v.subject) else []
  let l := (units.map (fun u => u.level)).foldl max v.level
  let by_ := (sortBy citedBefore ((units ++ [v]).filter (fun u => u.level == l))).headD v
  let cause := if v.stratum.isSome then s.fld F.VRD_EVID_EVID_CAUSE else by_.cause
  let sus := decide (2 ≤ l)
  let run := if !sus then 0 else if v.noData = 0 then v.susRun + 1 else v.susRun
  let fenceable := v.cls == 1 && bit (s.pol F.VRD_POLICY_SRC_FENCEABLE 1) cause
  let cand := sus && (v.cand || (fenceable && (v.stratum.isSome || decide (s.pol F.VRD_POLICY_CNT_CAND_N 1 ≤ run))))
  { v with eff := l, effCause := cause, since := if l = v.eff then v.since else e, cited := if v.stratum.isSome then v.subject else by_.subject,
           susRun := run, cand := cand, lastSus := if sus then some e else v.lastSus }

/-- The subjects of a level that VRD keeps, in ascending address, new ones included. -/
def vrdSubs (s : State) (level : Nat) : List VSub :=
  let l := ((classesOf level).map (fun c => (s.subjects c).map (fun x =>
    (s.vrd.subs.find? (fun v => v.cls == c && v.subject == x.addr)).getD { cls := c, subject := x.addr }))).flatten
  sortBy (fun a b => decide (a.subject < b.subject)) l

/-- Those subjects replaced. -/
def setVrdSubs (s : State) (level : Nat) (l : List VSub) : State :=
  { s with vrd := { s.vrd with subs := s.vrd.subs.filter (fun v => levelOfClass v.cls != level) ++ l } }

/-! ### Stragglers (R312, R313) -/

/-- Straggler figures of a level and epoch. -/
def strag (s : State) (level e : Nat) : Strag :=
  (s.dig.strag.find? (fun g => g.level == level && g.epoch == e)).getD { level := level, epoch := e }

/-- STEPS (R312). -/
def steps (s : State) (g : Strag) : Nat := max 1 (g.rounds / max 1 (s.fld F.VRD_STRAG_ROUNDS_PER_STEP))

/-- Contributors with a charge, in rank order. -/
def ranking (s : State) (level e : Nat) : List (Nat × Int × Nat) :=
  if s.dig.unmeasured.contains e then []
  else sortBy (fun (a b : Nat × Int × Nat) => decide (b.2.1 < a.2.1) || (a.2.1 == b.2.1 && decide (a.1 < b.1)))
    ((s.strag level e).charges.filter (fun c => decide (0 < c.2.1)))

/-- COST_NS of a summed charge. -/
def costNs (s : State) (g : Strag) (charge : Int) : Nat := min 0xFFFFFFFE (charge / (65536 * (s.steps g : Int))).toNat

/-- COST_NS, LAST_SHARE and RANK of a contributor at a level. -/
def figures (s : State) (level e a : Nat) : Nat × Nat × Nat :=
  let g := s.strag level e
  let c := ((g.charges.find? (fun c => c.1 == a)).getD (a, 0, 0)).2
  let rank := match (s.ranking level e).findIdx? (fun c => c.1 == a) with
    | some i => i + 1
    | none => 0
  (if s.dig.unmeasured.contains e then 0xFFFFFFFF else s.costNs g c.1, if c.2 = g.rounds then 0xFFFF else 65536 * c.2 / g.rounds, rank)

/-! ### Explanations (R310) -/

/-- The sub-header; the explained record's SEQ is filled in when the batch is built. -/
def explHead (kind ens winner entries subject rowEpoch flags gen margin fentries : Nat) : Bytes :=
  le 1 kind ++ le 1 ens ++ le 1 winner ++ le 1 entries ++ le 4 subject ++ le 6 rowEpoch ++ le 2 flags ++ le 4 gen ++ le 4 margin ++ zeros 4 ++
    le 1 fentries ++ zeros 3

/-- A tree explanation from a score row. -/
def treeExpl (s : State) (subject : Nat) (r : ScoreRow) : Bytes :=
  let tags := (r.refs.map (fun x => x.feature)).eraseDups
  let row := s.doneRow r.cls r.epoch r.subject
  let slot := fun (t : Nat) => ((row.bind (fun y => y.slots[t]?)).getD {})
  explHead 0 r.ensemble r.winner r.refs.length subject r.epoch r.flags r.gen (r.margins.getD r.winner 0) tags.length ++
    (r.refs.map LeafRef.bytes).flatten ++
    ((tags.map (fun t => le 1 t ++ le 1 ((slot t).status % 4) ++ le 2 (slot t).code ++ le 4 ((slot t).val.getD 0))).flatten)

/-- An evidence explanation of a die: strata with failures, highest count first. -/
def evidenceExpl (s : State) (die : Nat) : Bytes :=
  let l := (sortBy (fun a b => decide (s.failsIn die b < s.failsIn die a)) (s.failStrata die)).take 255
  explHead 1 0 0 l.length die 0 0 0 0 0 ++ ((l.map (fun x => le 2 x ++ le 2 (min 65535 (s.failsIn die x)) ++ le 4 (s.trialsIn die x))).flatten)

/-- A straggler entry. -/
def stragEntry (level cost share rank : Nat) : Bytes := le 4 level ++ le 4 cost ++ le 2 share ++ le 2 (min 65535 rank) ++ zeros 4

/-- A straggler explanation. -/
def stragExpl (subject : Nat) (entries : List Bytes) : Bytes := explHead 2 0 0 entries.length subject 0 0 0 0 0 ++ entries.flatten

/-- The Explanation bodies of a node-level subject: the named ensembles' rows of the unit or die that gives its cause, evidence, straggler. -/
def explOf (s : State) (all : List VSub) (v : VSub) (e : Nat) : List Bytes :=
  let c := (all.find? (fun u => u.subject == v.cited)).getD v
  let ens := (if s.pol F.VRD_POLICY_SRC_SCORE_VALID c.cls = 1 then [s.pol F.VRD_POLICY_SRC_SCORE_ENS c.cls] else []) ++
    (if s.pol F.VRD_POLICY_SRC_CAUSE_VALID c.cls = 1 then [s.pol F.VRD_POLICY_SRC_CAUSE_ENS c.cls] else [])
  let trees := ens.eraseDups.filterMap (fun n => (s.vrdRow c.cls c.subject c.rowEpoch n).map (fun r => s.treeExpl v.subject r))
  let lv := levelOfClass v.cls
  let f := s.figures lv e v.subject
  trees ++ (if v.stratum.isSome then [s.evidenceExpl v.subject] else []) ++
    (if v.effCause = s.image.straggler ∧ v.cls ≠ 0 then [stragExpl v.subject [stragEntry (s.levelAddr lv) f.1 f.2.1 f.2.2]] else [])

/-! ### Domains (R319 to R321) -/

/-- Dies of this tray whose effective level was SUSPECT or higher within DOMAIN_WINDOW. -/
def suspectDies (s : State) (e : Nat) : List VSub :=
  s.vrd.subs.filter (fun v => v.cls == 1 && (match v.lastSus with
    | some x => decide (e < x + s.fld F.VRD_DOMAIN_WIN_DOMAIN_WINDOW)
    | none => false))

/-- DOMAIN_MIN of a type, 0 treated as 1. -/
def domainMin (s : State) (type : Nat) : Nat :=
  max 1 (match type with
    | 0 => s.fld F.VRD_DOMAIN_MIN_TRAY | 1 => s.fld F.VRD_DOMAIN_MIN_SHELF | 2 => s.fld F.VRD_DOMAIN_MIN_COOLING
    | 3 => s.fld F.VRD_DOMAIN_MIN_SWITCH | _ => s.fld F.VRD_DOMAIN_MIN_SITE)

/-- What a level counts of a domain: members by cause, and the highest score with its die (0 unknown). At node level its own dies; above, the latest
partials of its children. -/
def domainCounts (s : State) (level e : Nat) (d : Nat × Nat × List Nat) : List (Nat × Nat × Nat × Nat) :=
  if level = 0 then
    ((s.suspectDies e).filter (fun v => d.2.2.contains v.subject)).map (fun v => (v.effCause, 1, v.score, v.subject))
  else
    (((s.vrd.children.filter (fun c => c.level == level)).map (fun c => c.recs)).flatten.filterMap (fun r =>
      let b := VBody.parse r.body
      if r.type = 0x21 ∧ b.kind = 3 ∧ b.dtype = d.1 ∧ b.did = d.2.1 then some (b.cause, b.members, b.score, 0) else none))

/-- The cause held by most members, the lower code on a tie (R320). -/
def domainCause (l : List (Nat × Nat × Nat × Nat)) : Nat :=
  let n := fun (c : Nat) => ((l.filter (fun x => x.1 == c)).map (fun x => x.2.1)).sum
  (List.range 16).foldl (fun b c => if n b < n c then c else b) 0

/-- The highest score, and its die. -/
def domainScore (l : List (Nat × Nat × Nat × Nat)) : Nat × Nat :=
  match l with
  | [] => (0, 0)
  | x :: rest => rest.foldl (fun b y => if ltFp32 b.1 y.2.2.1 then (y.2.2.1, y.2.2.2) else b) (x.2.2.1, x.2.2.2)

/-- The Explanations of a domain verdict (R320): of the member with the highest score, of evidence kind for an evidence cause, else of tree kind, as
far as this block holds them. -/
def domainExpl (s : State) (level e cause die : Nat) (d : Nat × Nat × List Nat) : List Bytes :=
  let known := if level = 1 then s.vrd.groupDies else s.vrd.systemDies
  let mine := known.filter (fun k => d.2.2.contains k.die)
  let bodies := if level = 0 then
      (match s.vrd.subs.find? (fun v => v.cls == 1 && v.subject == die) with
       | some v => s.explOf s.vrd.subs v e
       | none => [])
    else ((sortBy (fun (a b : VDie) => ltFp32 (VBody.parse b.body).score (VBody.parse a.body).score) mine).map (fun k => k.expl)).headD []
  let kind := if cause = s.fld F.VRD_EVID_EVID_CAUSE then 1 else 0
  bodies.filter (fun b => bytesAt b 0 1 % 4 == kind)

/-- One domain at a level's issue instant: the bodies to issue with their Explanations, and the domains standing (R319, R320). -/
def domainStep (s : State) (level e : Nat) (acc : List (VBody × List Bytes) × List (Nat × Nat × Nat × Nat)) (d : Nat × Nat × List Nat) :
    List (VBody × List Bytes) × List (Nat × Nat × Nat × Nat) :=
  let (out, stand) := acc
  let l := s.domainCounts level e d
  let n := (l.map (fun x => x.2.1)).sum
  let cause := domainCause l
  let best := domainScore l
  let b : VBody := { level := 5, cause := cause, subject := s.levelAddr level, score := best.1, dtype := d.1, did := d.2.1, members := n }
  if level < lowestLevel d.2.2 then
    (if n = 0 then acc else (out ++ [({ b with kind := 3, prev := 5, since := e }, [])], stand))
  else if lowestLevel d.2.2 ≠ level || !s.evaluates d.2.2 then acc
  else match stand.find? (fun x => x.1 == level && x.2.1 == d.1 && x.2.2.1 == d.2.1) with
    | some x =>
      if s.domainMin d.1 ≤ n then
        (out ++ [({ b with kind := 1, prev := 5, since := x.2.2.2, vflags := 2 ^ vRestated }, [])], stand)
      else (out ++ [({ b with kind := 1, prev := 5, since := x.2.2.2, vflags := 2 ^ vEnd }, [])], stand.filter (fun y => y != x))
    | none =>
      if s.domainMin d.1 ≤ n then
        let ex := s.domainExpl level e cause best.2 d
        (out ++ [({ b with kind := 1, since := e, expl := ex.length }, ex)], stand ++ [(level, d.1, d.2.1, e)])
      else acc

/-- The domains of a level, in ascending type, then number. -/
def domainWork (s : State) (level e : Nat) : List (VBody × List Bytes) × State :=
  let ds := sortBy (fun (a b : Nat × Nat × List Nat) => decide (a.1 * 2 ^ 16 + a.2.1 < b.1 * 2 ^ 16 + b.2.1)) (s.imageFor e).domains
  let (out, stand) := ds.foldl (s.domainStep level e) ([], s.vrd.domains)
  (out, { s with vrd := { s.vrd with domains := stand } })

/-- A die belongs to a standing domain that this block knows of. -/
def inDomain (s : State) (die : Nat) : Bool :=
  s.image.domains.any (fun d => d.2.2.contains die &&
    (s.vrd.domains.any (fun x => x.2.1 == d.1 && x.2.2.1 == d.2.1) || s.vrd.outer.contains (d.1, d.2.1)))

/-! ### Subject verdicts (R307) -/

/-- What VRD issues for a subject: nothing, or a change (0), a restatement (1) or a STALE restatement (2). -/
def emission (s : State) (old v : VSub) (e : Nat) : Option Nat :=
  let restate := max 1 (s.pol F.VRD_POLICY_CNT_RESTATE v.cls)
  let staleN := max 1 (s.pol F.VRD_POLICY_CNT_STALE_N v.cls)
  if v.eff ≠ old.eff ∨ (v.effCause ≠ old.effCause ∧ 0 < v.eff) then some 0
  else if v.eff = 0 then none
  else if staleN ≤ v.noData then (if (v.noData - staleN) % restate = 0 then some 2 else none)
  else if v.eff = 2 ∧ v.cls = 1 then (if v.noData = 0 then some 1 else none)
  else if v.issued + restate ≤ e then some 1
  else none

/-- The body of a subject's Verdict. -/
def subjectBody (s : State) (old v : VSub) (kind e : Nat) : VBody :=
  let f := if v.cls = 0 then (0xFFFFFFFF, 0, 0) else s.figures (levelOfClass v.cls) e v.subject
  { level := v.eff, prev := if kind = 0 then old.eff else v.eff, cause := v.effCause,
    vflags := b2n v.cand + 2 * b2n (kind != 0) + 4 * b2n (kind == 2) + 8 * b2n v.stratum.isSome + 16 * b2n (v.cls == 1 && s.inDomain v.subject),
    subject := v.subject, since := v.since, score := v.score, causeP := v.causeP, suspect := v.suspect, watch := v.watch,
    cost := f.1, share := f.2.1, rank := f.2.2, stratum := match v.stratum with | some x => x % 1024 + 1024 | none => 0 }

/-- Header flags of a subject's Verdict (R308). -/
def subjectFlags (v : VSub) : Nat := v.rowFlags &&& (2 ^ flagNanSubst + 2 ^ flagLoss)

/-- What one level issues: the flags, body and Explanation bodies of each Verdict. -/
abbrev Issued := List (Nat × VBody × List Bytes)

/-- The subjects of a level evaluated for an epoch, with their Verdicts in ascending SUBJECT (R301 to R307). -/
def subjectWork (s : State) (level e : Nat) : Issued × State :=
  let old := s.vrdSubs level
  let own := old.map (s.ownStep e)
  let now := own.map (s.effStep e own)
  let s := s.setVrdSubs level now
  let out := (old.zip now).filterMap (fun p =>
    match s.emission p.1 p.2 e with
    | none => none
    | some k =>
      let ex := if k = 0 ∧ 0 < p.2.eff then s.explOf now p.2 e else []
      some (subjectFlags p.2, { s.subjectBody p.1 p.2 k e with expl := ex.length }, ex))
  let issued := out.map (fun x => x.2.1.subject)
  (out, s.setVrdSubs level (now.map (fun v => if issued.contains v.subject then { v with issued := e } else v)))

/-! ### The Autumn budget (R314 to R318) -/

/-- n of R314. -/
def spent (s : State) (e : Nat) : Nat :=
  (s.vrd.ledger.filter (fun l => decide (e < l.2 + s.fld F.VRD_BUDGET_WIN_WINDOW_EPOCHS))).length

/-- Tokens at the issue instant of an epoch (R314). -/
def tokensAt (s : State) (e : Nat) : Nat :=
  min (s.fld F.VRD_BUDGET_RATE - s.spent e) (s.fld F.VRD_BUDGET_SPARE_LEFT - s.fld F.VRD_BUDGET_RESERVE)

/-- A write of SPARES (R314): SPARE_LEFT follows at the next issue instant. -/
def sparesWrite (s : State) (v : Nat) : State :=
  let s := s.setFld F.VRD_BUDGET_SPARES v
  { s with vrd := { s.vrd with sparesDue := some (v % 2 ^ 16) } }

/-- Verdicts of dies in the children's latest batches of a level: whether the batch is new, the body, the Explanations, the header flags. -/
def dieReports (s : State) (level : Nat) : List (Bool × VBody × List Bytes × Nat) :=
  ((s.vrd.children.filter (fun c => c.level == level)).map (fun c =>
    c.recs.filterMap (fun r =>
      let b := VBody.parse r.body
      if r.type = 0x21 ∧ b.kind = 0 ∧ !isLevelAddr b.subject ∧ unitOf b.subject = 2047 then
        some (c.fresh, b, (c.recs.filter (fun x => x.type == 0x22 && bytesAt x.body 24 4 == r.seq && bytesAt x.body 4 4 == b.subject)).map
          (fun x => x.body), r.flags)
      else none))).flatten

/-- What a master keeps of its dies, brought up to date with the children's new batches. -/
def learnDies (known : List VDie) (reps : List (Bool × VBody × List Bytes × Nat)) : List VDie :=
  (reps.filter (fun r => r.1)).foldl (fun l r =>
    let die := r.2.1.subject
    match l.find? (fun (k : VDie) => k.die == die) with
    | some _ => l.map (fun k => if k.die = die then { k with body := r.2.1.bytes, expl := if r.2.2.1.isEmpty then k.expl else r.2.2.1 } else k)
    | none => l ++ [{ die := die, body := r.2.1.bytes, expl := r.2.2.1, last := r.2.1.level }]) known

/-- A die restated as a candidate: the latest report carries CANDIDATE and is not a STALE restatement. -/
def restates (b : VBody) : Bool := bit b.vflags vCandidate && !bit b.vflags vStale && decide (2 ≤ b.level)

/-- The Explanations of a die that a master passes on; a straggler's gains the master's own entry (R310, R313). -/
def passExpl (s : State) (level e : Nat) (b : VBody) (expl : List Bytes) : List Bytes :=
  let f := s.figures level e (if level = 1 then nodeAddr (b.subject / 2 ^ 24) (b.subject / 2 ^ 18 % 64) else groupAddr (b.subject / 2 ^ 24))
  expl.map (fun x => if bytesAt x 0 1 % 4 = 2 then
      x.take 3 ++ le 1 (bytesAt x 3 1 + 1) ++ (x.drop 4).take (28 + 16 * bytesAt x 3 1) ++ stragEntry (s.levelAddr level) (min b.cost f.1) f.2.1 f.2.2
    else x)

/-- COST_NS refined by a master for a straggler (R313). -/
def refine (s : State) (level e : Nat) (b : VBody) : VBody :=
  if b.cause ≠ s.image.straggler then b
  else
    let a := if level = 1 then nodeAddr (b.subject / 2 ^ 24) (b.subject / 2 ^ 18 % 64) else groupAddr (b.subject / 2 ^ 24)
    { b with cost := min b.cost (s.figures level e a).1 }

/-- What the group master issues for a die at a level: a change when the level differs from the one it last issued. -/
def masterBody (s : State) (e : Nat) (k : VDie) (level flags held : Nat) : VBody × List Bytes :=
  let b := VBody.parse k.body
  let change := level != k.last
  let ex := if change && decide (1 ≤ level) then s.passExpl 1 e b k.expl else []
  (s.refine 1 e { b with level := level, prev := k.last, vflags := (b.vflags &&& (2 ^ vCandidate + 2 ^ vEvidence)) ||| flags |||
                         (if change then 0 else 2 ^ vRestated), held := held, expl := ex.length,
                         since := if change ∧ 2 < level then e else b.since }, ex)

/-- A die's entry at the group master. -/
def groupDie (s : State) (die : Nat) : VDie := (s.vrd.groupDies.find? (fun k => k.die == die)).getD { die := die, body := [] }

/-- That entry changed. -/
def modGroupDie (s : State) (die : Nat) (f : VDie → VDie) : State :=
  { s with vrd := { s.vrd with groupDies := s.vrd.groupDies.map (fun k => if k.die = die then f k else k) } }

/-- A die's Verdict added to what the group master issues; TOKENS is what is left after it (R308). -/
def issueDie (s : State) (e : Nat) (out : Issued) (die level flags held tokens : Nat) : Issued × State :=
  let (b, ex) := s.masterBody e (s.groupDie die) level flags held
  (out ++ [(0, { b with tokens := min 255 tokens }, ex)], s.modGroupDie die (fun k => { k with last := level }))

/-- A token spent on a die (R314, R315). -/
def spendToken (s : State) (e die : Nat) : State :=
  let s := { s with vrd := { s.vrd with ledger := s.vrd.ledger ++ [(die, e)] } }
  let s := (s.modGroupDie die (fun k => { k with fenced := some 0 })).setFld F.VRD_BUDGET_SPARE_LEFT (s.fld F.VRD_BUDGET_SPARE_LEFT - 1)
  s.incFld F.VRD_CNT_FENCED

/-- Dies that no longer wait: the held queue without those in a domain or no longer restated, and the level their node reports (R315, R321). -/
def leaveHeld (s : State) (e : Nat) (reps : List (Bool × VBody × List Bytes × Nat)) (tokens : Nat) : Issued × State :=
  let still := fun (die : Nat) => reps.any (fun r => r.2.1.subject == die && restates r.2.1)
  let gone := s.vrd.held.filter (fun d => !still d && !s.inDomain d)
  let s := { s with vrd := { s.vrd with held := s.vrd.held.filter (fun d => still d && !s.inDomain d) } }
  gone.foldl (fun (acc : Issued × State) d => acc.2.issueDie e acc.1 d (VBody.parse (acc.2.groupDie d).body).level 0 0 tokens) ([], s)

/-- Members of standing domains that their nodes report SUSPECT are restated with IN_DOMAIN (R321). -/
def domainDies (s : State) (e : Nat) (reps : List (Bool × VBody × List Bytes × Nat)) (out : Issued) (tokens : Nat) : Issued × State :=
  ((reps.filter (fun r => r.1 && decide (2 ≤ r.2.1.level) && (s.inDomain r.2.1.subject || bit r.2.1.vflags vInDomain))).map (fun r => r.2.1.subject)).foldl
    (fun (acc : Issued × State) d => acc.2.issueDie e acc.1 d 2 (2 ^ vInDomain) 0 tokens) (out, s)

/-- A standing recommendation (R317): restated with the candidacy, once more with STALE after STALE_N silent epochs, or ended by a lower level. -/
def fencedDie (s : State) (e : Nat) (reps : List (Bool × VBody × List Bytes × Nat)) (tokens : Nat) (out : Issued) (k : VDie) : Issued × State :=
  match k.fenced with
  | none => (out, s)
  | some silent =>
    let fresh := reps.find? (fun r => r.1 && r.2.1.subject == k.die && !bit r.2.1.vflags vStale)
    if s.inDomain k.die then (out, s)
    else match fresh with
    | some r =>
      if r.2.1.level < 2 then
        let s := s.modGroupDie k.die (fun k => { k with fenced := none })
        s.issueDie e out k.die r.2.1.level 0 0 tokens
      else if restates r.2.1 then (s.modGroupDie k.die (fun k => { k with fenced := some 0 })).issueDie e out k.die 3 0 0 tokens
      else (out, s)
    | none =>
      if silent + 1 = max 1 (s.pol F.VRD_POLICY_CNT_STALE_N 1) then
        (s.modGroupDie k.die (fun k => { k with fenced := none })).issueDie e out k.die 3 (2 ^ vStale) 0 tokens
      else (out, s.modGroupDie k.die (fun k => { k with fenced := some (silent + 1) }))

/-- New candidates in the order of R315. -/
def newCandidates (s : State) (reps : List (Bool × VBody × List Bytes × Nat)) : List VBody :=
  let l := (reps.filter (fun r => r.1 && restates r.2.1 && !s.inDomain r.2.1.subject && !bit r.2.1.vflags vInDomain &&
    !s.vrd.held.contains r.2.1.subject && (s.groupDie r.2.1.subject).fenced.isNone)).map (fun r => r.2.1)
  sortBy (fun (a b : VBody) =>
    let x := bit a.vflags vEvidence
    let y := bit b.vflags vEvidence
    if x != y then x else if ltFp32 b.score a.score then true else if ltFp32 a.score b.score then false else decide (a.subject < b.subject)) l

/-- One candidate decided (R315): a token, or the end of the held queue; `acc` holds what is issued, the tokens left and the dies held. -/
def decideDie (e : Nat) (acc : Issued × Nat × List Nat × State) (die : Nat) : Issued × Nat × List Nat × State :=
  let (out, tokens, held, s) := acc
  if 0 < tokens then
    let (out, s) := (s.spendToken e die).issueDie e out die 3 0 0 (tokens - 1)
    (out, tokens - 1, held, s)
  else
    let room := decide (held.length < 64)
    let s := if s.vrd.held.contains die then s else s.incFld F.VRD_CNT_HELD
    let (out, s) := s.issueDie e out die 4 (2 ^ vDemoted) (if room then held.length + 1 else 0) 0
    (out, tokens, if room then held ++ [die] else held, s)

/-- The held queue turns from empty to waiting (R316). -/
def firstHold (s : State) (before : Bool) (tokens : Nat) : State :=
  if before || s.vrd.held.isEmpty then s
  else ((s.setFld F.VRD_BUDGET_EXHAUSTED 1).pend 7 8).trace 7 0x0F (le 1 2 ++ le 1 tokens)

/-- The group master's decisions for an epoch (R314 to R317), in the order of R315; the TOKENS left. -/
def budgetWork (s : State) (e : Nat) : Issued × Nat × State :=
  let reps := s.dieReports 1
  let s := { s with vrd := { s.vrd with groupDies := learnDies s.vrd.groupDies reps,
                                        ledger := s.vrd.ledger.filter (fun l => decide (e < l.2 + s.fld F.VRD_BUDGET_WIN_WINDOW_EPOCHS)) } }
  let tokens := s.tokensAt e
  let before := !s.vrd.held.isEmpty
  let (out, s) := s.leaveHeld e reps tokens
  let (out, s) := s.domainDies e reps out tokens
  let (out, s) := s.vrd.groupDies.foldl (fun (acc : Issued × State) k => acc.2.fencedDie e reps tokens acc.1 k) (out, s)
  let order := s.vrd.held ++ (s.newCandidates reps).map (fun b => b.subject)
  let (out, left, held, s) := order.foldl (decideDie e) (out, tokens, [], s)
  let s := { s with vrd := { s.vrd with held := held } }
  let s := if left = 0 ∧ 0 < tokens then s.trace 7 0x0F (le 1 1 ++ le 1 0) else s
  let s := ((s.setFld F.VRD_BUDGET_TOKENS (min 255 left)).setFld F.VRD_BUDGET_HELD held.length).firstHold before left
  (out, left, s)

/-! ### Batches (R309, R322, R323) -/

/-- A Verdict and its Explanations as records (R310). -/
def verdictRecs (s : State) (level e flags : Nat) (b : VBody) (ex : List Bytes) : List Rec × State :=
  let (v, s) := s.vrdRec level e 0x21 flags b.bytes
  let (xs, s) := ex.foldl (fun (acc : List Rec × State) x =>
    let (r, s) := acc.2.vrdRec level e 0x22 (flags &&& 2 ^ flagSigned) (x.take 24 ++ le 4 v.seq ++ x.drop 28)
    (acc.1 ++ [r], s)) ([], s)
  (v :: xs, s)

/-- The digest of a batch (R323): every record, but for the last 96 bytes of the epoch record. -/
def batchDigest (rs : List Rec) : Bytes :=
  Config.sha384 ((rs.map (fun r => if isEpochRecord r then r.bytes.take (r.bytes.length - 96) else r.bytes)).flatten)

/-- A batch leaves (R318, R321 to R323): its records to EXP in order, to the parent level, from a group master to its deputy, and, when it holds a
domain verdict of the system master, to the group masters. A master takes its own lower batch as a child's. -/
def batchOut (s : State) (b : VBatch) : State :=
  let up := (s.parentOf b.level).toList
  let dep := if b.level = 1 then s.image.groupDeputy.toList else []
  let down := if b.level = 2 ∧ b.recs.any (fun r => r.type == 0x21 && bytesAt r.body 0 1 % 4 == 1) then s.image.groupMasters else []
  let dst := up ++ dep.filter (fun a => !up.contains a) ++ down
  let s := b.recs.foldl (fun s r => if s.silent then s
    else (if dst.isEmpty then s else s.emit (.directed dst r)).toExp 7 r) s
  let own := (b.level == 0 && s.masterOf .group) || (b.level == 1 && s.masterOf .system)
  if !own then s
  else
    let c : VChild := { level := b.level + 1, src := s.levelAddr b.level, epoch := b.epoch, recs := b.recs }
    { s with vrd := { s.vrd with children := s.vrd.children.filter (fun x => !(x.level == c.level && x.src == c.src)) ++ [c] } }

/-- Batches waiting for their signatures: the one in progress first, the others in the order node, group, system (R323). -/
def queueBatch (s : State) (b : VBatch) : State :=
  let l := match s.vrd.batches with
    | [] => [b]
    | x :: rest => x :: (rest.filter (fun y => decide (y.level ≤ b.level)) ++ b :: rest.filter (fun y => decide (b.level < y.level)))
  ({ s with vrd := { s.vrd with batches := l } }).setFld F.VRD_STATUS_SIGNING 1

/-- The epoch record of a batch (R309). -/
def epochBody (s : State) (level e records tokens fenced : Nat) : EpochRec :=
  let subs := s.vrd.subs.filter (fun v => levelOfClass v.cls == level)
  let g := s.strag level e
  let rank := (s.ranking level e).take (min 64 (s.fld F.VRD_STRAG_STRAG_K))
  let grp := level == 1
  { level := level, subject := s.levelAddr level, records := records,
    eflags := 2 * b2n (grp && !s.vrd.held.isEmpty) + 4 * b2n (s.flag F.VRD_STATUS_KEY_LOST) + 8 * b2n (s.dig.unmeasured.contains e),
    evaluated := (subs.filter (fun v => v.noData == 0)).length, noData := (subs.filter (fun v => v.noData != 0)).length,
    watch := (subs.filter (fun v => v.eff == 1)).length, suspect := (subs.filter (fun v => v.eff == 2)).length,
    fenced := if grp then fenced else 0, held := if grp then s.vrd.held.length else 0,
    domains := (s.vrd.domains.filter (fun d => d.1 == level)).length, tokens := if grp then tokens else 0,
    rounds := g.rounds, steps := s.steps g, late := s.vrd.late.get zero level, ranking := rank.map (fun c => (c.1, s.costNs g c.2.1)) }

/-- The Verdicts that a level issues for an epoch, in ascending SUBJECT, and the TOKENS left. -/
def levelWork (s : State) (level e : Nat) (doms : List (VBody × List Bytes)) : Issued × Nat × State :=
  let (dies, tokens, s) := if level = 1 then s.budgetWork e else ([], 0, s)
  let (subs, s) := if level = 0 then ([], s) else s.subjectWork level e
  let (sys, s) := if level ≠ 2 then ([], s) else
    let reps := s.dieReports 2
    let s := { s with vrd := { s.vrd with systemDies := learnDies s.vrd.systemDies reps } }
    (((reps.filter (fun r => r.1 && restates r.2.1 && r.2.1.cause == s.image.straggler)).map (fun r =>
      let b := s.refine 2 e r.2.1
      ((0 : Nat), { b with prev := b.level, vflags := b.vflags ||| 2 ^ vRestated, expl := 0, tokens := 0, held := 0 }, ([] : List Bytes)))), s)
  let all := sortBy (fun (a b : Nat × VBody × List Bytes) => decide (a.2.1.subject < b.2.1.subject)) (dies ++ subs ++ sys)
  (all ++ doms.map (fun d => (0, d.1, d.2)), tokens, s)

/-- The records of what a level issues, in order. -/
def issuedRecs (s : State) (level e : Nat) (signed : Nat) (l : Issued) : List Rec × State :=
  l.foldl (fun (acc : List Rec × State) x =>
    let (rs, s) := acc.2.verdictRecs level e (x.1 + signed) x.2.1 x.2.2
    (acc.1 ++ rs, s)) ([], s)

/-- The role of a level is this block's (R300). -/
def issuesLevel (s : State) (level : Nat) : Bool :=
  match level with
  | 0 => s.flag F.MGT_ROLE_NODE_AGG
  | 1 => s.masterOf .group
  | 2 => s.masterOf .system
  | _ => false

/-- IN_DOMAIN on the Verdict of a member of a standing domain (R321). -/
def markDomain (s : State) (b : VBody) : VBody :=
  if unitOf b.subject = 2047 ∧ !isLevelAddr b.subject ∧ s.inDomain b.subject then { b with vflags := b.vflags ||| 2 ^ vInDomain } else b

/-- A level's issue instant (R322): subjects, domains and the budget decided, and the batch of the epoch built; at node level the subjects come
first, since its tray's domains count them. -/
def issue (s : State) (level e : Nat) : State :=
  if s.silent || !s.issuesLevel level || s.istate 7 = 2 then s
  else if !s.works 7 then s.noOpinion level e
  else
    let s := s.pruneEvid
    let s := match s.vrd.sparesDue with
      | some v => if level = 1 then ({ s with vrd := { s.vrd with sparesDue := none } }).setFld F.VRD_BUDGET_SPARE_LEFT v else s
      | none => s
    let (early, s) := if level = 0 then s.subjectWork 0 e else ([], s)
    let (doms, s) := s.domainWork level e
    let (l, tokens, s) := s.levelWork level e doms
    let l := early.map (fun x => (x.1, s.markDomain x.2.1, x.2.2)) ++ l
    let lost := s.flag F.VRD_STATUS_KEY_LOST
    let signed := if lost then 0 else 2 ^ flagSigned
    let (rs, s) := s.issuedRecs level e signed l
    let fresh := (l.filter (fun x => x.2.1.level == 3 && !bit x.2.1.vflags vRestated)).length
    let (er, s) := s.vrdRec level e 0x21 signed (s.epochBody level e rs.length tokens fresh).bytes
    let changes := (l.filter (fun x => x.2.1.kind == 0 && !bit x.2.1.vflags vRestated)).length
    let s := ((s.addFld F.VRD_CNT_CHANGES changes).perf 7 0x100 rs.length).markIssued level e
    let kids := s.vrd.children.map (fun (c : VChild) => if c.level = level then { c with fresh := false } else c)
    let s := { s with vrd := { s.vrd with late := s.vrd.late.put zero level 0, children := kids } }
    let s := s.trace 7 6 (le 1 0 ++ zeros 3 ++ le 6 e)
    let vmin := s.fld F.TRC_TRIG_EN_VERDICT_MIN
    let s := if level = 0 ∧ l.any (fun x => x.2.1.kind == 0 && decide (vmin ≤ x.2.1.level)) then s.trigger 3 7 else s
    let b : VBatch := { level := level, epoch := e, recs := rs ++ [er] }
    if lost then s.batchOut b else s.queueBatch b

/-- A batch's records without SIGNED, and KEY_LOST set in its epoch record (R323). -/
def unsign (b : VBatch) : VBatch :=
  { b with recs := b.recs.map (fun r =>
      let r := { r with flags := if r.flag flagSigned then r.flags - 2 ^ flagSigned else r.flags }
      if isEpochRecord r then { r with body := r.body.take 2 ++ le 1 (bytesAt r.body 2 1 ||| 4) ++ r.body.drop 3 } else r) }

/-- The first waiting batch leaves the queue. -/
def dropBatch (s : State) : State :=
  let l := s.vrd.batches.drop 1
  ({ s with vrd := { s.vrd with batches := l, signFailed := false } }).setFld F.VRD_STATUS_SIGNING (b2n !l.isEmpty)

/-- A signature fails its check (R460): the batch is signed again; a second failure in a row is FATAL, and NO_OPINION goes in its place. -/
def signFailed (s : State) (inj : Bool) : State :=
  match s.vrd.batches with
  | [] => s
  | _ :: _ =>
    if s.vrd.signFailed then s.recordError 7 0x15 3 0 inj
    else ({ s with vrd := { s.vrd with signFailed := true } }).recordError 7 0x15 2 0 inj

/-- The signature of the first waiting batch completes (R323): it is checked, put into the epoch record, and the batch leaves. After the key has been
erased the batch leaves unsigned. -/
def batchSigned (s : State) : State :=
  match s.vrd.batches with
  | [] => s
  | b :: _ =>
    if !s.works 7 then s
    else if s.flag F.VRD_STATUS_KEY_LOST then s.dropBatch.batchOut (unsign b)
    else if s.injectArmed 7 10 then (s.fireInject 7).signFailed true
    else
      let sig := Config.ecdsaSign (s.mgt.key.getD []) (batchDigest b.recs)
      let recs := b.recs.map (fun r => if isEpochRecord r then { r with body := r.body.take (r.body.length - 96) ++ sig } else r)
      s.dropBatch.batchOut { b with recs := recs }

/-! ### Receiving (R318, R321, R322) -/

/-- A group batch at the group's deputy (R318): the ledger, SPARE_LEFT and the held queue are replayed. -/
def replayBatch (s : State) (recs : List Rec) : State :=
  let bs := recs.filterMap (fun r => if r.type = 0x21 ∧ bytesAt r.body 0 1 % 4 = 0 then some (VBody.parse r.body) else none)
  let e := (recs.headD { type := 0, cls := 0, src := 0 }).epoch
  let new := bs.filter (fun b => b.level == 3 && !bit b.vflags vRestated)
  let held := (sortBy (fun (a b : VBody) => decide (a.held < b.held)) (bs.filter (fun b => b.level == 4 && b.held != 0))).map (fun b => b.subject)
  let known := bs.foldl (fun (l : List VDie) b =>
    if isLevelAddr b.subject then l
    else
      let k := (l.find? (fun k => k.die == b.subject)).getD { die := b.subject, body := b.bytes }
      let f := if b.level = 3 then some 0 else if bit b.vflags vInDomain then k.fenced else none
      l.filter (fun k => k.die != b.subject) ++ [{ k with body := b.bytes, last := b.level, fenced := f }]) s.vrd.groupDies
  let spent := s.vrd.ledger ++ new.map (fun b => (b.subject, e))
  let s := { s with vrd := { s.vrd with ledger := spent, held := held, groupDies := known } }
  let s := match s.vrd.sparesDue with
    | some v => ({ s with vrd := { s.vrd with sparesDue := none } }).setFld F.VRD_BUDGET_SPARE_LEFT v
    | none => s
  (s.setFld F.VRD_BUDGET_SPARE_LEFT (s.fld F.VRD_BUDGET_SPARE_LEFT - new.length)).setFld F.VRD_BUDGET_HELD held.length

/-- A batch of the system master at a group master (R321): its domain verdicts stand for this group's members until their END, and the members'
recommendations of the last DOMAIN_WINDOW epochs leave the ledger. -/
def domainBatch (s : State) (recs : List Rec) : State :=
  recs.foldl (fun s r =>
    let b := VBody.parse r.body
    if r.type ≠ 0x21 ∨ b.kind ≠ 1 then s
    else
      let d := (b.dtype, b.did)
      let rest := s.vrd.outer.filter (fun x => x != d)
      if bit b.vflags vEnd then ({ s with vrd := { s.vrd with outer := rest } } : State)
      else
        let mem := ((s.image.domains.find? (fun x => x.1 == b.dtype && x.2.1 == b.did)).map (fun x => x.2.2)).getD []
        let w := s.fld F.VRD_DOMAIN_WIN_DOMAIN_WINDOW
        { s with vrd := { s.vrd with outer := rest ++ [d]
                                     ledger := s.vrd.ledger.filter (fun l => !(mem.contains l.1 && decide (r.epoch < l.2 + w))) } }) s

/-- A child's batch at a master (R322): the latest of each child counts; records after the epoch's issue instant are late. -/
def childBatch (s : State) (level src e : Nat) (recs : List Rec) : State :=
  let late := decide (e ≤ s.lastIssued level)
  let s := if late then
      let s := s.addFld F.VRD_CNT_LATE_VERDICT recs.length
      { s with vrd := { s.vrd with late := s.vrd.late.mod zero level (· + recs.length) } }
    else s
  match s.vrd.children.find? (fun c => c.level == level && c.src == src) with
  | some c =>
    if e < c.epoch then s
    else { s with vrd := { s.vrd with children := s.vrd.children.filter (fun x => !(x.level == level && x.src == src)) ++
             [{ level := level, src := src, epoch := e, recs := recs }] } }
  | none => { s with vrd := { s.vrd with children := s.vrd.children ++ [{ level := level, src := src, epoch := e, recs := recs }] } }

/-- A verdict batch arrives over the route from ALN (R318, R321, R322). -/
def verdictReceive (s : State) (recs : List Rec) : State :=
  match recs with
  | [] => s
  | r :: _ =>
    if !s.works 7 then s.routeDrop 4 7 0 0x21
    else if s.masterOf .group ∧ s.image.groupNodes.contains r.src then s.childBatch 1 r.src r.epoch recs
    else if s.masterOf .system ∧ s.image.systemGroups.contains r.src then s.childBatch 2 r.src r.epoch recs
    else if r.src = s.myGroup ∧ s.image.groupDeputy = some s.myNode ∧ !s.masterOf .group then s.replayBatch recs
    else if r.src = systemAddr ∧ s.masterOf .group then s.domainBatch recs
    else s

end State

/-- ISSUE_INSTANT (R322). -/
def execIssueInstant (level epoch : Nat) (s : State) : Host.Outcome State Fault Refusal := s.run (fun s => s.issue level epoch)

/-- BATCH_SIGNED (R323). -/
def execBatchSigned (s : State) : Host.Outcome State Fault Refusal := s.run (fun s => s.batchSigned)

/-- SPARES_WRITE (R314). -/
def execSparesWrite (value : Nat) (s : State) : Host.Outcome State Fault Refusal := s.run (fun s => s.sparesWrite value)

/-- VERDICT_BATCH_RECEIVE (R322). -/
def execVerdictBatchReceive (records : List Rec) (s : State) : Host.Outcome State Fault Refusal := s.run (fun s => s.verdictReceive records)

end Sys2Proof.Machine
end

