-- ==== Sys2Proof/Machine/Faults.lean ====
section
/-! DEFINITION. Faults and recovery (19): detectors, error intervals, recovery, fences, island resets and injections. -/

namespace Sys2Proof.Machine

/-- Island `n` has detector `code` (R458). -/
def admits (n code : Nat) : Bool :=
  decide (n < 100) &&
  match code with
  | 0x01 => true
  | 0x02 => n != 0
  | 0x03 => n != 0
  | 0x04 => n != 0
  | 0x05 => n != 0
  | 0x06 => n == 0
  | 0x07 => n == 8
  | 0x08 => n == 8
  | 0x09 => n == 8
  | 0x0A => n == 8
  | 0x0B => n == 8
  | 0x0C => n == 6
  | 0x0D => n == 6
  | 0x0E => n == 6
  | 0x0F => n == 6
  | 0x10 => decide (16 ≤ n)
  | 0x11 => n == 11
  | 0x12 => n == 1
  | 0x13 => n == 14
  | 0x14 => n == 14
  | 0x15 => n == 7
  | _ => false

/-- Island `n` supports injection kind `k` (R472, R500). -/
def supports (n k : Nat) : Bool :=
  decide (n < 100) &&
  match k with
  | 1 => n != 0
  | 2 => n != 0
  | 3 => n != 0
  | 4 => decide (16 ≤ n) || n == 11
  | 5 => n == 3
  | 6 => n == 6
  | 7 => n == 6
  | 8 => n == 1
  | 9 => n == 14
  | 10 => n == 7
  | _ => false

namespace State

/-! ### Detectors (R458, R459, R500) -/

/-- The injection kind that feeds a detector whose items no command of its own reads (R472): local words, the second time counter, and the
dispatcher's tables. -/
def injectionOf (code : Nat) : Nat := match code with | 0x02 => 2 | 0x03 => 2 | 0x12 => 8 | 0x13 => 9 | _ => 0

/-- The error is that of an armed injection: of 3 check bits for SRAM_UE, of fewer for SRAM_CE. -/
def byInjection (s : State) (n code : Nat) : Bool :=
  let k := injectionOf code
  k != 0 && s.works n && s.injectArmed n k && (k != 2 || (s.injectBits n == 3) == (code == 3))

/-- A local SRAM error of a tensor core in its census (R281); a damaged resident weight is reloaded (R271). -/
def sramCensus (s : State) (n code : Nat) : State :=
  if n < 16 then s else s.incFld ((if code = 2 then F.Tnn_CENSUS2_CE else F.Tnn_CENSUS2_UE).at (n - 16))

/-- A detector reports (R458): recorded, with its reaction. -/
def errorDetect (s : State) (n code loc : Nat) : State :=
  if !admits n code || s.istate n = 2 || s.disabled n then s
  else
    let inj := s.byInjection n code
    let s := if inj then s.fireInject n else s
    match code with
    | 0x02 => (s.sramCensus n code).recordError n code 1 loc inj
    | 0x03 => (s.sramCensus n code).recordError n code 2 loc inj
    | 0x07 => s.checkWord (loc * 8) 1 false
    | 0x08 => s.checkWord (loc * 8) 2 false
    | 0x10 => match (s.core (n - 16)).jobs with
      | j :: _ => s.mismatch (n - 16) j (s.jobSums j none).1 loc false
      | [] => s.recordError n code 3 loc false
    | 0x11 => s.arbResidue loc false
    | 0x14 => s.programFault (loc % 16)
    | 0x15 => s.signFailed false
    | _ => s.recordError n code (errorClass code) loc inj

/-- A 1 s interval ends (R457). -/
def errorInterval (s : State) : State := { s with mgt := { s.mgt with ceCount := [], ueCount := [] } }

/-- A 3,600 s interval ends (R469). -/
def hourInterval (s : State) : State := (List.range 100).foldl (fun s n => s.setFld (F.SPRING_HOUR_COUNT.at n) 0) s

/-! ### Recovery (R466, R468, R469) -/

/-- What an island does when it is in operation again (R78, R394, R466): EXP performs the merges that are due, a free grandmaster returns to
LOCKED, and a core joins the pool at the next tick. -/
def resume (s : State) (n : Nat) : State :=
  match n with
  | 1 => s.freeLock
  | 12 => s.heldMerges
  | n => if 16 ≤ n then { s with tdsp := { s.tdsp with rejoin := s.tdsp.rejoin.filter (fun c => c != n - 16) ++ [n - 16] } } else s

/-- Island `n` leaves Winter state, or is LATCHED when its recoveries of the hour are used up (R468, R469). -/
def recover (s : State) (n : Nat) : State :=
  let lim := s.fld (F.QUIET_SPRING_LIMIT.at n)
  if lim != 0 && decide (lim ≤ s.fld (F.SPRING_HOUR_COUNT.at n)) then (s.setFld (F.STATUS_LATCHED.at n) 1).pend n 1
  else
    let s := (s.incFld (F.SPRING_COUNT.at n)).incFld (F.SPRING_HOUR_COUNT.at n)
    let s := (s.setFld (F.SPRING_LAST_EPOCH.at n) (s.epoch % 2 ^ 40)).setFld (F.STATUS_STATE.at n) 0
    ((s.pend n 1).trace n 2 (le 2 (s.fld (F.SPRING_COUNT.at n)))).resume n

/-- Held in Winter state by FENCE or SPRING_LIMIT. -/
def heldFenced (s : State) (n : Nat) : Bool := s.flag (F.STATUS_FENCED.at n) || s.flag (F.STATUS_LATCHED.at n)

/-- The quiet period of island `n` has passed without an error (R468, R470, R50). -/
def winterLeave (s : State) (n : Nat) : State :=
  if s.istate n ≠ 1 || s.heldFenced n || s.mgt.refclkLost then s
  else
    let s := s.setFld (F.STATUS_QUIET_LEFT_MS.at n) 0
    if s.flag (F.CTRL_HOLD.at n) then s else s.recover n

/-- HOLD written (R468): clearing it after the quiet period has passed lets the island recover at once. -/
def holdWrite (s : State) (n : Nat) (on : Bool) : State :=
  let was := s.flag (F.CTRL_HOLD.at n)
  let s := s.setFld (F.CTRL_HOLD.at n) (b2n on)
  if was && !on && s.fld (F.STATUS_QUIET_LEFT_MS.at n) == 0 then s.winterLeave n else s

/-! ### Fences (R470, R471) -/

/-- A tensor core that failed BIST (R479). -/
def bistFailed (s : State) (n : Nat) : Bool :=
  decide (16 ≤ n) && (if n < 64 then bit (s.fld F.MGT_BIST0_FAILED) n else bit (s.fld F.MGT_BIST1_FAILED) (n - 64))

/-- FENCE: Winter state is forced and held; ignored by MGT. -/
def fence (s : State) (n : Nat) : State :=
  if n = 0 || s.disabled n then s
  else
    let s := (s.setFld (F.STATUS_FENCED.at n) 1).setFld (F.CTRL_FENCE.at n) 1
    if s.works n then s.enterWinter n else s

/-- UNFENCE: FENCED and LATCHED are released, and a quiet period starts; ignored by MGT and by a core that failed BIST. -/
def unfence (s : State) (n : Nat) : State :=
  if n = 0 || s.bistFailed n || !s.heldFenced n then s
  else
    let s := ((s.setFld (F.STATUS_FENCED.at n) 0).setFld (F.CTRL_FENCE.at n) 0).setFld (F.STATUS_LATCHED.at n) 0
    if s.istate n = 1 then s.restartQuiet n else s

/-! ### Island reset (R473, R502) -/

/-- TIM's exchanges in progress are cleared, and its servo resumes as after a warm reset (R476, R502). -/
def timReset (s : State) : State :=
  let links := s.tim.links.each (fun _ => {}) (fun (k : TLink) =>
    { k with wait := none, sync := none, dreq := none, pdreq := none, pdresp := none })
  let pulses := s.tim.pulses.each (fun _ => {}) (fun (p : Pulse) => { p with active := false })
  let free := s.grandmaster && !s.ppsSource
  let s := { s with tim := { s.tim with links := links, pulses := pulses } }
  s.setServo (s.tim.servo.afterReset free) 0

/-- ING's reassemblies, records being checked and sequence state are cleared; queues and buckets stay. -/
def ingReset (s : State) : State :=
  let s := s.setReasm []
  let st := s.ing.streams.each (fun _ => {}) (fun (t : StreamSt) => { t with xSet := false, missing := 0 })
  { s with ing := { s.ing with frames := [], dead := [], arrived := [], streams := st } }

/-- ALN's reduction in progress is lost: the oldest closed epoch of each level that is not reduced sends no Summary. -/
def alnReset (s : State) : State :=
  [0, 1, 2].foldl (fun s level =>
    let l := (s.aln.epochs.filter (fun x => x.level == level && x.st == 1)).map (fun x => x.epoch)
    match l with
    | [] => s
    | e :: es =>
      let first := es.foldl min e
      s.setEpochs (s.aln.epochs.map (fun x => if x.level = level ∧ x.epoch = first then { x with st := 3 } else x))) s

/-- FEA's epoch in progress produces no rows. -/
def feaReset (s : State) : State := { s with fea := { s.fea with rows := s.fea.rows.filter (fun r => bit r.passes 2) } }

/-- DIG answers every open round 0b10. -/
def digReset (s : State) : State :=
  let s := s.dig.rounds.foldl (fun s r => s.digUncheck r.round) s
  s.setRounds []

/-- TST's writes in flight to Potik units are dropped. -/
def tstReset (s : State) : State :=
  let mine := fun (q : CtrlReq) => match q.purpose with | .package _ => true | _ => false
  let s := (s.stw.ctrl.filter mine).foldl (fun s q => match q.purpose with | .package k => s.setTstSlot q.die k none | _ => s) s
  { s with stw := { s.stw with ctrl := s.stw.ctrl.filter (fun q => !mine q) } }

/-- The work of island `n` that a reset of it clears (R502). -/
def clearWork (s : State) (n : Nat) : State :=
  match n with
  | 1 => s.timReset
  | 2 => (List.range 4).foldl abandonTx s
  | 3 => s.ingReset
  | 4 => s.alnReset
  | 5 => s.feaReset
  | 6 => s.treReload
  | 7 => s.batchesLost
  | 8 => s.stagingFails.copiesFail
  | 9 => s.codDiscard
  | 10 => s.digReset
  | 11 => s.arbToHead
  | 12 => s.discardExport
  | 13 => s.traceReset
  | 14 => s.abandonAll.stopPrograms
  | 15 => s.tstReset
  | n => if 16 ≤ n then s.reissue (n - 16) else s

/-- The message of island `n` that waits is withdrawn: its causes are cleared (R47, R473). -/
def dropMsi (s : State) (n : Nat) : State :=
  let head := s.mgt.msiWait.head? == some n
  { s with mgt := { s.mgt with msiWait := s.mgt.msiWait.filter (fun k => k != n), msiReq := s.mgt.msiReq && !head } }

/-- Fault registers and performance counts that a reset of island `n` clears (R413, R473, R495). -/
def clearFaultRegs (s : State) (n : Nat) : State :=
  let s := (List.range 8).foldl (fun s k => (s.setReg (pmcField n k F.PMC_VALUE).addr 0).setFld (pmcField n k F.PMSEL_OVF) 0) (s.dropMsi n)
  let s := (s.setReg (F.ERR_FIRST_VALID.at n).addr 0).setReg (F.ERR_MERGED_COUNT.at n).addr 0
  (s.setReg (F.INJECT_ARM.at n).addr (blockReset (F.INJECT_ARM.at n).addr)).setReg (F.INT_PEND_ERR.at n).addr 0

/-- ISLAND_RESET (R473): Winter outputs, STATE 2, the island's work cleared; ignored by MGT. -/
def islandReset (s : State) (n : Nat) : State :=
  if n = 0 || s.disabled n then s
  else
    let s := (s.trace n 3 [0]).clearFaultRegs n
    let s := ((s.setFld (F.STATUS_STATE.at n) 2).setFld (F.CTRL_ISLAND_RESET.at n) 1).setFld (F.STATUS_QUIET_LEFT_MS.at n) 0
    (s.clearWork n).shadowLost n

/-- An island reset is released (R473): into Winter state when FENCED or LATCHED, else into operation, without a recovery counted. -/
def islandRelease (s : State) (n : Nat) : State :=
  if s.istate n ≠ 2 then s
  else
    let s := s.setFld (F.CTRL_ISLAND_RESET.at n) 0
    if s.heldFenced n then ((s.setFld (F.STATUS_STATE.at n) 1).pend n 1).trace n 3 [1]
    else ((s.setFld (F.STATUS_STATE.at n) 0).trace n 3 [1]).resume n

/-! ### The error record and injections (R462, R472) -/

/-- Writing 1 to VALID clears both registers of the error record. -/
def errFirstClear (s : State) (n : Nat) : State := (s.setReg (F.ERR_FIRST_VALID.at n).addr 0).setReg (F.ERR_MERGED_COUNT.at n).addr 0

/-- _INJECT written (R472): KIND and NBITS are taken, FIRED clears on a 1, and ARM arms a kind that the island supports. -/
def injectArm (s : State) (n : Nat) (v : Word) : State :=
  if s.disabled n then s
  else
    let a := (F.INJECT_ARM.at n).addr
    let s := s.setReg a (writeReg [(0, 4, .rw), (4, 2, .rw), (6, 1, .w1s), (7, 1, .w1c)] (s.reg a) v)
    if supports n (s.fld (F.INJECT_KIND.at n)) then s else s.setFld (F.INJECT_ARM.at n) 0

end State

/-- ERROR_DETECT (R462): the island, the detector and its LOCATION. -/
def execErrorDetect (island code loc : Nat) (s : State) : Host.Outcome State Fault Refusal := s.run (fun s => s.errorDetect (island % 128) code loc)

/-- ERROR_INTERVAL (R457). -/
def execErrorInterval (s : State) : Host.Outcome State Fault Refusal := s.run (fun s => s.errorInterval)

/-- WINTER_LEAVE (R468). -/
def execWinterLeave (island : Nat) (s : State) : Host.Outcome State Fault Refusal :=
  s.run (fun s => if island < 100 then s.winterLeave island else s)

/-- HOUR_INTERVAL (R469). -/
def execHourInterval (s : State) : Host.Outcome State Fault Refusal := s.run (fun s => s.hourInterval)

/-- FENCE (R470). -/
def execFence (island : Nat) (s : State) : Host.Outcome State Fault Refusal := s.run (fun s => if island < 100 then s.fence island else s)

/-- UNFENCE (R470). -/
def execUnfence (island : Nat) (s : State) : Host.Outcome State Fault Refusal := s.run (fun s => if island < 100 then s.unfence island else s)

/-- ISLAND_RESET (R473). -/
def execIslandReset (island : Nat) (s : State) : Host.Outcome State Fault Refusal :=
  s.run (fun s => if island < 100 then s.islandReset island else s)

/-- ISLAND_RESET_RELEASE (R473). -/
def execIslandResetRelease (island : Nat) (s : State) : Host.Outcome State Fault Refusal :=
  s.run (fun s => if island < 100 then s.islandRelease island else s)

/-- HOLD_WRITE (R468). -/
def execHoldWrite (island : Nat) (value : Bool) (s : State) : Host.Outcome State Fault Refusal :=
  s.run (fun s => if island < 100 then s.holdWrite island value else s)

/-- ERR_FIRST_CLEAR (R462). -/
def execErrFirstClear (island : Nat) (s : State) : Host.Outcome State Fault Refusal :=
  s.run (fun s => if island < 100 then s.errFirstClear island else s)

/-- INJECT_ARM (R472). -/
def execInjectArm (island value : Nat) (s : State) : Host.Outcome State Fault Refusal :=
  s.run (fun s => if island < 100 then s.injectArm island (BitVec.ofNat 64 value) else s)

end Sys2Proof.Machine
end

