-- ==== Sys2Proof/Machine/Otp.lean ====
section
/-! DEFINITION. The one-time-programmable generations (R484 to R486): their layout, how each is judged, and the one that is selected. -/

namespace Sys2Proof.Machine

/-- The 192 bytes of a copy. -/
def otpBytes (c : BitVec 1536) : Bytes := le 192 c.toNat

/-- A copy from its bytes. -/
def otpCopy (b : Bytes) : BitVec 1536 := BitVec.ofNat 1536 (ofLe (b.take 192))

/-- A copy of area `g` is intact (R484). -/
def otpIntact (g : Nat) (c : BitVec 1536) : Bool :=
  let b := otpBytes c
  (crc32c (b.take 188)).toNat == bytesAt b 188 4 && bytesAt b 0 2 == 1 && bytesAt b 2 1 == g && bytesAt b 3 1 == 0 &&
  bytesAt b 14 1 / 16 == 0 && bytesAt b 15 1 == 0 && (b.drop 176).take 12 == zeros 12

/-- ENABLE: bit c for tensor core c. -/
def otpEnable (c : BitVec 1536) : Nat := bytesAt (otpBytes c) 4 11 % 2 ^ 84

/-- Bits set of the 84. -/
def maskCount (m : Nat) : Nat := ((List.range 84).filter (fun c => bit m c)).length

/-- The seal is set (R486): at least 5 of its 8 bits are 1. -/
def otpSealed (a : OtpArea) : Bool := decide (5 ≤ ((List.range 8).filter (fun i => a.seals.getLsbD i)).length)

/-- No bit of the area is programmed. -/
def otpBlank (a : OtpArea) : Bool := a == {}

/-- The copy of area `g` that is used: copy A when it is intact, else B. -/
def otpUsed (g : Nat) (a : OtpArea) : BitVec 1536 := if otpIntact g a.a then a.a else a.b

/-- The status of area `g` (R485): 0 blank, 1 VALID, 2 UNSEALED, 3 REFUSED. -/
def otpStatus (g : Nat) (a : OtpArea) : Nat :=
  if otpBlank a then 0
  else if !otpSealed a then 2
  else if otpIntact g a.a && otpIntact g a.b && a.a != a.b then 3
  else if !otpIntact g a.a && !otpIntact g a.b then 3
  else
    let n := maskCount (otpEnable (otpUsed g a))
    if n = 0 ∨ 80 < n then 3 else 1

/-- A copy of area `g` is not intact (COPY_BAD). -/
def otpCopyBad (g : Nat) (a : OtpArea) : Bool := !otpBlank a && !(otpIntact g a.a && otpIntact g a.b)

namespace State

/-- Area `g` of the field. -/
def otpArea (s : State) (g : Nat) : OtpArea := s.mgt.otp.get (fun _ => {}) g

/-- The highest VALID area (R485). -/
def otpSelected (s : State) : Option Nat := [3, 2, 1, 0].find? (fun g => otpStatus g (s.otpArea g) == 1)

/-- The highest consumed area (R486). -/
def otpConsumed (s : State) : Nat := ([3, 2, 1, 0].find? (fun g => !otpBlank (s.otpArea g))).getD 0

/-- The bytes of the copy in use. -/
def otpInUse (s : State) : Bytes := otpBytes (otpUsed (s.fld F.MGT_OTP_GEN_IN_USE) (s.otpArea (s.fld F.MGT_OTP_GEN_IN_USE)))

/-- CERT_DIGEST and IMAGE_KEY_DIGEST of the generation in use. -/
def certDigest (s : State) : Bytes := (s.otpInUse.drop 80).take 48
def imageKeyDigest (s : State) : Bytes := (s.otpInUse.drop 128).take 48

end State
end Sys2Proof.Machine
end

