-- ==== Sys2Proof/Machine/Boot.lean ====
section
/-! DEFINITION. Resets, start-up, the one-time-programmable generations and the block's identity (20). -/

namespace Sys2Proof.Machine

/-- What stands in an area when programming stops after `n` bit positions: copy A, copy B, the seal (R488). -/
def otpWritten (c : BitVec 1536) (n : Nat) : OtpArea :=
  { a := BitVec.ofNat 1536 (c.toNat % 2 ^ min n 1536), b := BitVec.ofNat 1536 (c.toNat % 2 ^ min (n - 1536) 1536),
    seals := BitVec.ofNat 8 (255 % 2 ^ min (n - 3072) 8) }

/-- The copy that a request programs (R484, R487): `req` the request's bytes, the block's EUI64, the wrapped key. -/
def otpBuild (req : Bytes) (eui : Nat) (wrapped : Bytes) : BitVec 1536 :=
  let body := le 2 1 ++ le 1 (bytesAt req 0 1 % 4) ++ zeros 1 ++ (req.drop 4).take 11 ++ zeros 1 ++ le 8 eui ++ (wrapped ++ zeros 56).take 56 ++
    (req.drop 16).take 96 ++ zeros 12
  otpCopy (body ++ le 4 (crc32c body).toNat)

/-- The bits of a register that a warm reset returns to their reset value (R13, R476): those of W1C, W1S and RC fields. The sticky bits of
STB_MGT_BOUNDARY and the certificate check stay. -/
def warmMask (a : Nat) : Word :=
  let k := a % 0x4000000
  if k = F.MGT_BOUNDARY_TAMPER.addr ∨ k = F.MGT_ID_CTRL_CERT_OK.addr then 0
  else
    match islandRow (k / 0x80000) (k % 0x80000) with
    | none => 0
    | some row => row.flds.foldl (fun m f => if f.2.2 = .w1c ∨ f.2.2 = .w1s ∨ f.2.2 = .rc then m ||| fieldMask f.1 f.2.1 else m) 0

namespace State

/-! ### Programming stopped (R488, R490) -/

/-- Programming stops after `n` bit positions: reason 9 ABORTED. -/
def otpStop (s : State) (n : Nat) : State :=
  match s.mgt.otpProg with
  | none => s
  | some (g, c) =>
    let s := { s with mgt := { s.mgt with otpProg := none, otp := s.mgt.otp.put (fun _ => {}) g (otpWritten c n) } }
    ((s.setFld F.MGT_OTP_PROG_STATE 3).setFld F.MGT_OTP_PROG_REASON 9).pend 0 11

/-- The words of an identity buffer (STB_MGT_ID_DATA), from the first. -/
def setIdBuf (s : State) (b : Nat) (bs : Bytes) : State :=
  (List.range ((bs.length + 7) / 8)).foldl (fun s w =>
    s.setReg (entryAddr F.MGT_ID_DATA_DATA.addr (b + 4 * w)) (BitVec.ofNat 64 (bytesAt bs (8 * w) 8))) s

/-- The first `n` bytes of an identity buffer. -/
def idBuf (s : State) (b n : Nat) : Bytes :=
  (((List.range ((n + 7) / 8)).map (fun w => le 8 (s.reg (entryAddr F.MGT_ID_DATA_DATA.addr (b + 4 * w))).toNat)).flatten).take n

/-- The pending key pair is lost (R487). -/
def dropPending (s : State) : State :=
  let s := { s with mgt := { s.mgt with pendingKey := none, keygen := false } }
  (s.setFld F.MGT_ID_CTRL_PENDING_KEY 0).setIdBuf 3 (zeros 96)

/-! ### The certificate (R480) -/

/-- The certificate in buffer 0 fits a digest and a public key. -/
def certFits (s : State) (digest key : Bytes) : Bool :=
  let n := s.fld F.MGT_ID_CTRL_CERT_LEN
  let c := s.idBuf 0 n
  decide (1 ≤ n ∧ n ≤ 4096) && Config.sha384 c == digest && Config.certPoint c == some key

/-- The check runs: CERT_OK or CERT_BAD; in stage IDENTITY a pass leads to stage IMAGE. -/
def certRun (s : State) : State :=
  let s := { s with mgt := { s.mgt with certHeld := false } }
  if s.certFits s.certDigest (s.idBuf 2 96) then
    let s := (s.setFld F.MGT_ID_CTRL_CERT_OK 1).setFld F.MGT_ID_CTRL_CERT_BAD 0
    if s.fld F.MGT_BOOT_STAGE = 2 then s.setFld F.MGT_BOOT_STAGE 3 else s
  else (s.setFld F.MGT_ID_CTRL_CERT_OK 0).setFld F.MGT_ID_CTRL_CERT_BAD 1

/-- CERT_CHECK set: held before stage IDENTITY; discarded after a start-up that failed before the key was known. -/
def certCheck (s : State) : State :=
  let st := s.fld F.MGT_BOOT_STAGE
  if st < 2 then
    { (s.setFld F.MGT_ID_CTRL_CERT_OK 0).setFld F.MGT_ID_CTRL_CERT_BAD 0 with mgt := { s.mgt with certHeld := true } }
  else if st = 7 then s
  else s.certRun

/-! ### Start-up (R478 to R480) -/

/-- Start-up fails (R478): stage FAILED until a power-on or cold reset; a held check is discarded. -/
def bootFail (s : State) (reason : Nat) : State :=
  let s := { s with mgt := { s.mgt with certHeld := false } }
  (s.setFld F.MGT_BOOT_STAGE 7).setFld F.MGT_BOOT_FAIL_REASON reason

/-- The status fields of STB_MGT_OTP, for every area (R485, R486). -/
def otpShow (s : State) : State :=
  let sum := fun (f : Nat → Nat) => ((List.range 4).map f).sum
  let s := s.setFld F.MGT_OTP_GEN_STATUS (sum (fun g => otpStatus g (s.otpArea g) * 4 ^ g))
  let s := s.setFld F.MGT_OTP_COPY_BAD (sum (fun g => b2n (otpCopyBad g (s.otpArea g)) * 2 ^ g))
  s.setFld F.MGT_OTP_SPARES_LEFT (3 - s.otpConsumed)

/-- Stage OTP (R485): a generation is selected, and its mask and identifier are shown; a core that the mask disables shows DISABLED (R52). -/
def stageOtp (s : State) : State :=
  let s := s.otpShow
  match s.otpSelected with
  | none => s.bootFail 1
  | some g =>
    let c := otpUsed g (s.otpArea g)
    let m := otpEnable c
    let s := ((s.setFld F.MGT_OTP_GEN_IN_USE g).setFld F.MGT_OTP_MASK_ENABLE m).setFld F.MGT_OTP_MASK1_ENABLE (m / 2 ^ 64)
    let s := s.setFld F.MGT_EUI64_EUI64 (bytesAt (otpBytes c) 16 8)
    let s := (List.range 84).foldl (fun s k => s.setFld (F.STATUS_DISABLED.at (16 + k)) (b2n (!bit m k))) s
    s.setFld F.MGT_BOOT_STAGE 1

/-- Stage IDENTITY (R480, R490): the key is unwrapped with stb_tamper_n high; a check that was held runs. -/
def stageIdentity (s : State) (tamper : Bool) : State :=
  let s := s.setFld F.MGT_BOOT_STAGE 2
  if tamper then s.bootFail 4
  else
    match Config.unwrapKey ((s.otpInUse.drop 24).take 56) with
    | none => s.bootFail 3
    | some key =>
      let s := { s with mgt := { s.mgt with key := some key } }
      let s := ((s.setIdBuf 2 key).setFld F.MGT_ID_CTRL_KEY_ERASED 0).setFld F.VRD_STATUS_KEY_LOST 0
      if s.mgt.certHeld then s.certRun else s

/-- BIST completes (R479): failed islands shown, failing cores fenced, poisoned store words counted; any other failure ends start-up. -/
def bistDone (s : State) (failed words : List Nat) (tamper : Bool) : State :=
  if s.fld F.MGT_BOOT_STAGE ≠ 1 || s.inReset then s
  else
    let bad := (List.range 100).filter (fun n => failed.contains n && !s.disabled n)
    let s := s.setFld F.MGT_BIST0_FAILED ((bad.filter (fun n => n < 64)).map (fun n => 2 ^ n)).sum
    let s := s.setFld F.MGT_BIST1_FAILED ((bad.filter (fun n => 64 ≤ n)).map (fun n => 2 ^ (n - 64))).sum
    let poison := (words.eraseDups).foldl (fun t w => Tab.put no t w true) ([] : Tab Bool)
    let s := ({ s with sto := { s.sto with poison := poison } }).addFld F.STO_ECC_UE poison.length
    let s := (bad.filter (fun n => 16 ≤ n)).foldl fence s
    if bad.any (fun n => decide (n < 16)) then s.bootFail 2 else s.stageIdentity tamper

/-! ### Resets (R475 to R478) -/

/-- Power-on and cold reset: everything but the one-time-programmable field, the gateway's levels on the input pins, and the Potik units, which
have a reset of their own. -/
def coldClear (s : State) (written cause : Nat) : State :=
  let s := s.otpStop written
  let mgt : Mgt := { otp := s.mgt.otp, por := s.mgt.por, cold := s.mgt.cold, warm := s.mgt.warm }
  let k : State := { mgt := mgt, potiks := s.potiks, fresh := s.fresh, pending := s.pending }
  let k := (k.setFld F.MGT_BOUNDARY_LNK_UP (s.fld F.MGT_BOUNDARY_LNK_UP)).setFld F.MGT_BOUNDARY_MCS_UP (s.fld F.MGT_BOUNDARY_MCS_UP)
  let k := k.setFld F.MGT_BOUNDARY_MEM_GRANT (s.fld F.MGT_BOUNDARY_MEM_GRANT)
  let k := k.setFld F.MGT_PWR_STATUS_FAST_HOLD (s.fld F.MGT_PWR_STATUS_FAST_HOLD)
  k.setFld F.MGT_BOOT_RESET_CAUSE cause

/-- The stage at which a warm reset resumes (R478). -/
def warmStage (st : Nat) : Nat := match st with | 1 => 0 | 5 => 4 | st => st

/-- Every W1C, W1S and RC field at its reset value (R13). -/
def warmRegs (s : State) : State :=
  { s with regs := s.regs.foldr (fun e t =>
      Tab.put blockReset t e.1 ((e.2 &&& ~~~(warmMask e.1)) ||| (blockReset e.1 &&& warmMask e.1))) s.regs }

/-- The work in flight of the tensor dispatcher, the cores and ARB is lost. -/
def warmTensor (s : State) : State :=
  let t : Tdsp := { cores := s.tdsp.cores.each (fun _ => {}) (fun c => { c with jobs := [] }), cfg := s.tdsp.cfg,
                    nextReplay := s.tdsp.nextReplay }
  let s := { s with tdsp := t }
  let s := (List.range 84).foldl (fun s c => (s.showTile c).setFld (F.Tnn_TILE_HELD.at c) 0) s
  (s.setFld F.STW_TDSP_DISPUTE_OPEN 0).setReg F.ARB_STATUS_QUEUED.addr 0

/-- The steward's work in flight is lost (R476): Control requests, arming, queries, digests that wait, broadcasts not yet complete. -/
def warmSteward (s : State) : State :=
  let bs := s.stw.bcasts.each (fun _ => {}) (fun (b : Bcast) => if b.holds then b else {})
  let s := (s.stw.bcasts.filter (fun e => !e.2.holds)).foldl (fun s e =>
    (s.setFld (F.STW_BCAST_DATA_PARTS.at e.1) 0).setFld (F.STW_BCAST_DATA_PARTS_HELD.at e.1) 0) s
  let s := { s with stw := { s.stw with ctrl := [], arming := [], queries := [], pkgParts := [], digests := [], bcasts := bs } }
  (List.range 4).foldl (fun s m => (s.setFld (F.STW_MBOX_CTRL_BUSY.at m) 0).setFld (F.STW_MBOX_CTRL_RESP_LEN.at m) 0) s

/-- The commit and the staged image (R431): shadows are discarded; in the tick window REASON is RESET. A staged image stays, its verification
does not. -/
def warmImage (s : State) : State :=
  let s := if s.commitArmed && s.mgt.fixed then s.setFld F.MGT_IMG_STATUS_REASON 15 else s
  let n := if s.imgState = 1 then 0 else s.mgt.stagedLen
  let s := { s with mgt := { s.mgt with stagedLen := n, verified := none, aim := 0, deferrals := 0 } }
  ((s.setFld F.MGT_IMG_COMMIT_ARM 0).setFld F.MGT_IMG_STATUS_STATE (if n = 0 then 0 else 2)).clearShadows

/-- Island `n`'s fault state (R473, R476, R479): in operation, or in Winter state while LATCHED, without the reference clock, or a core that
failed BIST, which alone keeps FENCED. -/
def warmFault (s : State) (n : Nat) : State :=
  let keep := s.bistFailed n
  let s := (s.setFld (F.STATUS_FENCED.at n) (b2n keep)).setFld (F.CTRL_FENCE.at n) (b2n keep)
  let s := (s.setFld (F.CTRL_ISLAND_RESET.at n) 0).setFld (F.STATUS_QUIET_LEFT_MS.at n) 0
  let held := keep || s.flag (F.STATUS_LATCHED.at n) || (n != 0 && s.mgt.refclkLost)
  (s.setFld (F.STATUS_STATE.at n) (b2n held)).clearFaultRegs n

/-- The work of every island (R476, R502). VRD's batches and DIG's rounds end without an answer: nothing leaves the block in reset. -/
def warmWork (s : State) : State :=
  let s := { s with vrd := { s.vrd with batches := [], signFailed := false }, dig := {} }
  let s := ([1, 2, 3, 4, 5, 6, 8, 9, 12, 13, 14]).foldl clearWork s
  let s := { s with ing := { s.ing with queues := [], tallies := [], heard := [] } }
  let s := { s with tim := { s.tim with open_ := false, stepped := false, silent := 0 } }
  let s := { s with trc := { s.trc with snap := [], snapExported := 0 } }
  ((s.setFld F.TRC_SNAP_BUSY 0).setFld F.VRD_STATUS_SIGNING 0).warmSteward.warmTensor

/-- Warm reset (R476, R478). -/
def warmReset (s : State) (written : Nat) : State :=
  let s := s.otpStop written
  let m := { s.mgt with warm := true, ready := false, estSum := 0, estCount := 0, ceCount := [], ueCount := [], certHeld := false }
  let s := ({ s with mgt := m }).dropPending
  let s := (s.setFld F.MGT_BOOT_STAGE (warmStage (s.fld F.MGT_BOOT_STAGE))).setFld F.MGT_BOOT_RESET_CAUSE 2
  let s := (s.incFld F.MGT_BOOT_WARM_COUNT).warmWork
  let s := (List.range 100).foldl warmFault s.warmImage
  let s := { s with mgt := { s.mgt with msiWait := [], msiReq := false } }
  { s.warmRegs with out := [] }

/-- A reset input is asserted (R49): 0 power-on, 1 cold, 2 warm. One that arrives while an equal or stronger one is asserted is absorbed. -/
def resetAssert (s : State) (which written : Nat) : State :=
  match which with
  | 0 => if s.mgt.por then s else ({ s with mgt := { s.mgt with por := true } }).coldClear written 0
  | 1 =>
    let s' := { s with mgt := { s.mgt with cold := true } }
    if s.mgt.por || s.mgt.cold then s' else s'.coldClear written 1
  | _ =>
    if s.inReset then { s with mgt := { s.mgt with warm := true } } else s.warmReset written

/-- The sticky bits of STB_MGT_BOUNDARY (R59). -/
def stickyBits (s : State) : Bool :=
  s.flag F.MGT_BOUNDARY_MCS_ALARM || s.flag F.MGT_BOUNDARY_TAMPER || s.flag F.MGT_BOUNDARY_REFCLK_LOST ||
  s.flag F.MGT_BOUNDARY_GRANT_LOW || s.flag F.MGT_BOUNDARY_GRANT_HIGH

/-- A reset input is released (R49): with none left asserted, start-up resumes (R478), and a sticky bit raises island 0's interrupt. -/
def resetRelease (s : State) (which : Nat) (now : Int) : State :=
  let was := s.inReset
  let m := s.mgt
  let m := match which with | 0 => { m with por := false } | 1 => { m with cold := false } | _ => { m with warm := false }
  let s := { s with mgt := m }
  if s.inReset || (!was && s.fld F.MGT_BOOT_STAGE != 0) then s
  else
    let s := { s with mgt := { s.mgt with released := some now } }
    let s := if s.stickyBits then s.pend 0 8 else s
    match s.fld F.MGT_BOOT_STAGE with
    | 0 => s.stageOtp
    | 2 => if s.flag F.MGT_ID_CTRL_CERT_OK then s.setFld F.MGT_BOOT_STAGE 3 else s
    | _ => s

/-! ### Keys and tamper (R487 to R490) -/

/-- stb_tamper_n falls (R490): keys erased, programming stopped. -/
def tamper (s : State) (written : Nat) : State :=
  let s := ((s.sticky F.MGT_BOUNDARY_TAMPER).otpStop written).dropPending
  let s := { s with mgt := { s.mgt with key := none } }
  (s.setFld F.MGT_ID_CTRL_KEY_ERASED 1).setFld F.VRD_STATUS_KEY_LOST 1

/-- The first reason for which a programming request is refused (R487), 0 without one. -/
def programReason (s : State) : Nat :=
  let req := s.idBuf 1 304
  let newKey := bit (bytesAt req 1 1) 0
  let mask := bytesAt req 4 11
  let key := if newKey then s.mgt.pendingKey else s.mgt.key
  let auth := (req.drop 112).take 96
  let msg := req.take 112 ++ le 8 (s.fld F.MGT_EUI64_EUI64)
  if s.otpConsumed = 3 then 1
  else if bytesAt req 0 1 % 4 ≠ s.otpConsumed + 1 then 2
  else if Config.sha384 auth ≠ s.imageKeyDigest then 3
  else if !Config.ecdsaVerify auth (Config.sha384 msg) ((req.drop 208).take 96) then 4
  else if maskCount mask = 0 ∨ 80 < maskCount mask ∨ 2 ^ 84 ≤ mask then 5
  else if s.mgt.key.isNone ∨ key.isNone then 6
  else if !s.certFits ((req.drop 16).take 48) (key.getD []) then 7
  else 0

/-- PROGRAM (R487): ignored while one runs; refused with its reason, or started. -/
def otpStart (s : State) : State :=
  if s.mgt.otpProg.isSome then s
  else
    match s.programReason with
    | 0 =>
      let req := s.idBuf 1 304
      let key := if bit (bytesAt req 1 1) 0 then s.mgt.pendingKey else s.mgt.key
      let c := otpBuild req (s.fld F.MGT_EUI64_EUI64) (Config.wrapKey (key.getD []))
      let s := { s with mgt := { s.mgt with otpProg := some (s.otpConsumed + 1, c) } }
      (s.setFld F.MGT_OTP_PROG_STATE 1).setFld F.MGT_OTP_PROG_REASON 0
    | r => ((s.setFld F.MGT_OTP_PROG_STATE 3).setFld F.MGT_OTP_PROG_REASON r).pend 0 11

/-- Programming ends (R488): both copies read back as requested and sealed, or reason 8 VERIFY and no seal. -/
def programDone (s : State) (wrong : List Nat) : State :=
  match s.mgt.otpProg with
  | none => s
  | some (g, c) =>
    let flip := fun (lo : Nat) => c ^^^ (wrong.eraseDups.foldl (fun (m : BitVec 1536) p =>
      if lo ≤ p ∧ p < lo + 1536 then m ^^^ BitVec.ofNat 1536 (2 ^ (p - lo)) else m) 0)
    let bad := wrong.any (fun p => decide (p < 3072))
    let area : OtpArea := { a := flip 0, b := flip 1536, seals := if bad then 0 else 0xFF }
    let s := { s with mgt := { s.mgt with otpProg := none, otp := s.mgt.otp.put (fun _ => {}) g area } }
    let s := if bad then (s.setFld F.MGT_OTP_PROG_STATE 3).setFld F.MGT_OTP_PROG_REASON 8 else s.setFld F.MGT_OTP_PROG_STATE 2
    s.pend 0 11

/-- KEYGEN (R487): a key pair is being generated, in place of any pending one. -/
def keygen (s : State) : State := { s with mgt := { s.mgt with keygen := true } }

/-- The pending key pair is ready: its public key in buffer 3. -/
def keygenDone (s : State) : State :=
  if !s.mgt.keygen then s
  else
    let k := Config.newKey s.fresh
    let s := { s with fresh := s.fresh + 1, mgt := { s.mgt with keygen := false, pendingKey := some k } }
    (s.setFld F.MGT_ID_CTRL_PENDING_KEY 1).setIdBuf 3 ((k ++ zeros 96).take 96)

/-- STB_MGT_ID_CTRL written: CERT_LEN, CERT_BAD and its three commands. -/
def idCtrl (s : State) (value : Nat) : State :=
  let a := F.MGT_ID_CTRL_CERT_OK.addr
  let s := s.setReg a (writeReg [(0, 13, .rw), (15, 1, .w1c)] (s.reg a) (BitVec.ofNat 64 value))
  let s := if bit value 13 then s.certCheck else s
  let s := if bit value 16 then s.keygen else s
  if bit value 18 then s.otpStart else s

end State

/-- POWER_ON_RESET (R475). -/
def execPowerOnReset (written : Nat) (s : State) : Host.Outcome State Fault Refusal := s.run (fun s => s.resetAssert 0 written)

/-- COLD_RESET (R475). -/
def execColdReset (written : Nat) (s : State) : Host.Outcome State Fault Refusal := s.run (fun s => s.resetAssert 1 written)

/-- WARM_RESET (R476). -/
def execWarmReset (written : Nat) (s : State) : Host.Outcome State Fault Refusal := s.run (fun s => s.resetAssert 2 written)

/-- RESET_RELEASE (R49). -/
def execResetRelease (which : Nat) (now : Int) (s : State) : Host.Outcome State Fault Refusal := s.run (fun s => s.resetRelease which now)

/-- BIST_DONE (R479). -/
def execBistDone (failed words : List Nat) (tamper : Bool) (s : State) : Host.Outcome State Fault Refusal :=
  s.run (fun s => s.bistDone failed words tamper)

/-- TAMPER (R490). -/
def execTamper (written : Nat) (s : State) : Host.Outcome State Fault Refusal := s.run (fun s => s.tamper written)

/-- CERT_CHECK (R480): a write of STB_MGT_ID_CTRL with CERT_CHECK set. -/
def execCertCheck (value : Nat) (s : State) : Host.Outcome State Fault Refusal := s.run (fun s => s.idCtrl (value ||| 0x2000))

/-- KEYGEN (R487): a write of STB_MGT_ID_CTRL with KEYGEN set. -/
def execKeygen (value : Nat) (s : State) : Host.Outcome State Fault Refusal := s.run (fun s => s.idCtrl (value ||| 0x10000))

/-- KEYGEN_DONE (R487). -/
def execKeygenDone (s : State) : Host.Outcome State Fault Refusal := s.run (fun s => s.keygenDone)

/-- PROGRAM (R487): a write of STB_MGT_ID_CTRL with PROGRAM set. -/
def execProgram (value : Nat) (s : State) : Host.Outcome State Fault Refusal := s.run (fun s => s.idCtrl (value ||| 0x40000))

/-- PROGRAM_DONE (R488). -/
def execProgramDone (wrong : List Nat) (s : State) : Host.Outcome State Fault Refusal := s.run (fun s => s.programDone wrong)

end Sys2Proof.Machine
end

