-- ==== Sys2Proof/Machine/Boundary.lean ====
section
/-! DEFINITION. The block boundary: frames in, channels, bus and MCTP, interrupts, the reference clock and the power cap (02). -/

namespace Sys2Proof.Machine
namespace State

/-! ### Frames received and channels (R37, R53, R54, R147) -/

/-- LNK receives a frame (R147): to TIM, to ING, or discarded and counted. In Winter state or reset LNK discards it (R466),
and what arrives while a reset of the block is asserted is lost (R476). -/
def frameReceive (s : State) (port : Nat) (error : Bool) (etherType : Nat) (udp : Option Nat) (payload : Bytes) : State :=
  if !s.works 2 || s.inReset then s
  else
    let s := s.perf 2 0x100 1
    if error then s.otherFrame
    else if etherType == 0x88F7 || ((etherType == 0x0800 || etherType == 0x86DD) && (udp == some 319 || udp == some 320)) then
      (if s.works 1 then s.emit (.toTim port payload) else s)
    else if etherType == s.fld F.ING_CFG_ETHERTYPE then
      (if s.works 3 then { s with ing := { s.ing with frames := s.ing.frames ++ [payload] } } else s.routeDrop 2 3 0 0)
    else s.otherFrame

/-- A transfer crosses a channel (R53, R54, R472): its parity is checked unless the receiver discards it. -/
def channelTransfer (s : State) (src dst content type channel : Nat) (bad : Bool) : State :=
  let s := s.perf src 0x005 1
  let s := { s with lnk := { s.lnk with chanSent := s.lnk.chanSent.mod zero (dst * 65536 + channel) (· + 1)
                                        chanRecv := s.lnk.chanRecv.mod zero (dst * 65536 + channel) (· + 1) } }
  if !s.works dst then s.routeDrop src dst content type
  else
    let s := s.perf dst 0x004 1
    let inj := s.injectArmed dst 1
    let s := if inj then s.fireInject dst else s
    if bad || inj then s.recordError dst 1 (errorClass 1) channel inj else s

/-! ### Bus and MCTP (R9, R43 to R45) -/

/-- An access that completes with a bus error, recorded in island 0 (R9, R43, R458). -/
def busError (s : State) : State := (s.raise 0 6 0).emit (.busResp true 0)

/-- An access that is not an aligned 64-bit one, or lies above the last island (R9, R43). -/
def badAccess (addr bytes : Nat) : Bool := addr % 8 != 0 || bytes != 8 || decide (0x3200000 ≤ addr)

/-- A management access that is turned away (R9). -/
def busAccess (s : State) (addr bytes : Nat) : State := if badAccess addr bytes then s.busError else s

/-- A control response: control type, instance ID, command, completion code, data (DSP0236). -/
def mctpResponse (s : State) (iid cmd code : Nat) (data : Bytes) : State :=
  s.emit (.mctp (le 1 0 ++ le 1 (iid % 32) ++ le 1 cmd ++ le 1 code ++ data))

/-- Set Endpoint ID (R45): operations 0 and 1 assign. -/
def setEid (s : State) (iid op eid : Nat) : State :=
  if 2 ≤ op ∨ eid < 8 ∨ 255 ≤ eid then s.mctpResponse iid 1 2 []
  else (s.setFld F.MGT_MCTP_CAP_EID eid).mctpResponse iid 1 0 (le 1 0 ++ le 1 eid ++ le 1 0)

/-- Get Endpoint ID (R45). -/
def getEid (s : State) (iid : Nat) : State := s.mctpResponse iid 2 0 (le 1 (s.fld F.MGT_MCTP_CAP_EID) ++ le 1 0 ++ le 1 0)

/-- Get Endpoint UUID (R45). -/
def getUuid (s : State) (iid : Nat) : State :=
  s.mctpResponse iid 3 0 (([0, 1, 2, 3].map (fun i => le 4 (Config.endpointUuid i).toNat)).flatten)

/-- The message types supported (R45). -/
def mctpType (t : Nat) : Bool := t == 0 || t == 0x7F || t == 0xFF

/-- Get MCTP Version Support (R45). -/
def getVersion (s : State) (iid type : Nat) : State :=
  if mctpType type then s.mctpResponse iid 4 0 (le 1 1 ++ le 4 Config.mctpVersion.toNat) else s.mctpResponse iid 4 0x80 []

/-- Get Message Type Support (R45): beside control, type 0x7F. -/
def getTypes (s : State) (iid : Nat) : State := s.mctpResponse iid 5 0 (le 1 1 ++ le 1 0x7F)

/-- Get Vendor Defined Message Support (R45): the one IANA set, under the enterprise number of STB_MGT_MCTP_CAP. -/
def getVendor (s : State) (iid selector : Nat) : State :=
  if selector ≠ 0 then s.mctpResponse iid 6 2 []
  else s.mctpResponse iid 6 0 (le 1 0xFF ++ le 1 1 ++ (le 4 (s.fld F.MGT_MCTP_CAP_ENTERPRISE)).reverse ++ zeros 2)

/-- A message of an unsupported type (R45). -/
def mctpReject (s : State) (type : Nat) : State := if mctpType type then s else s.mctpResponse 0 0 0x80 []

/-! ### Interrupts (R47, R495) -/

/-- The first waiting message is offered (R47). -/
def msiOffer (s : State) : State :=
  match s.mgt.msiWait with
  | n :: _ => if s.mgt.msiReq then s else ({ s with mgt := { s.mgt with msiReq := true } }).emit (.msi n)
  | [] => s

/-- The interrupt controller takes it. -/
def msiAck (s : State) : State :=
  if s.mgt.msiReq then { s with mgt := { s.mgt with msiReq := false, msiWait := s.mgt.msiWait.drop 1 } } else s

/-- The EVENT bits that island `n` defines, with ERR, WINTER and PMC (R495, R496). -/
def intMask (n : Nat) : Nat :=
  7 + match n with | 0 => 0xF00 | 1 => 0x3F00 | 7 => 0x100 | 8 => 0x100 | 14 => 0x1F00 | _ => 0

/-- _INT_EN written (R495): causes that wait become a message when they are enabled. -/
def intEnWrite (s : State) (n value : Nat) : State :=
  if s.disabled n then s
  else
    let before := s.enabledPending n
    let a := (F.INT_EN_ERR.at n).addr
    (s.setReg a (BitVec.ofNat 64 (value &&& intMask n))).offer n before

/-! ### The reference clock (R50) -/

/-- Islands 1 to 99. -/
def otherIslands : List Nat := (List.range 99).map (· + 1)

/-- No edge of stb_refclk for 1 µs: REFCLK_LOST, and every island but MGT is forced to Winter state. -/
def refclkLost (s : State) : State :=
  let s := s.sticky F.MGT_BOUNDARY_REFCLK_LOST
  let s := { s with mgt := { s.mgt with refclkLost := true } }
  otherIslands.foldl (fun s n => s.raise n 5 0) s

/-- The reference has run for 100 µs: every quiet period starts anew (R471), and TIM, unless it is the grandmaster, acquires its time by a step
as at start-up. -/
def refclkRestored (s : State) : State :=
  if !s.mgt.refclkLost then s
  else
    let s := { s with mgt := { s.mgt with refclkLost := false } }
    let s := otherIslands.foldl (fun s n => if s.istate n = 1 then s.restartQuiet n else s) s
    if s.grandmaster then s else s.setServo {} 0

/-! ### The power cap (R55 to R58) -/

/-- A cap code clamped to 10 to 61 (R56). -/
def clampCap (c : Nat) : Nat := max 10 (min 61 c)

/-- Enabled tensor cores, highest index first, as islands. -/
def enabledCores (s : State) : List Nat := ((List.range 84).map (fun c => 99 - c)).filter (fun n => !s.disabled n)

/-- The estimate is above the effective cap. -/
def overCap (s : State) : Bool := decide (s.fld F.MGT_PWR_STATUS_EFF_CAP * 10 < s.fld F.MGT_PWR_STATUS_EST_W)

/-- Every measure of R57 has been taken. -/
def allParked (s : State) : Bool := s.fld F.MGT_PWR_STATUS_TENSOR_STEP == 12 && s.enabledCores.all s.mgt.parked.contains

/-- The newest cap acknowledged once it is met, or when it cannot be met (R57, R58). -/
def ackCap (s : State) : State :=
  match s.mgt.capUnacked with
  | none => s
  | some code =>
    let done := { s with mgt := { s.mgt with capUnacked := none } }
    if !s.overCap then done.emit (.pwrAck code true)
    else if s.allParked then (done.setFld F.MGT_PWR_STATUS_CAP_UNMET 1).emit (.pwrAck code false)
    else s

/-- The effective cap from both codes (R56). -/
def effectiveCap (s : State) : State :=
  let old := s.fld F.MGT_PWR_STATUS_EFF_CAP
  let eff := min (s.fld F.MGT_PWR_STATUS_GW_CAP) (s.fld F.MGT_PWR_CAP_CAP_CODE)
  let s := s.setFld F.MGT_PWR_STATUS_EFF_CAP eff
  { s with mgt := { s.mgt with capRising := if eff = old then s.mgt.capRising else decide (old < eff) } }

/-- CAP_UNMET follows the estimate. -/
def unmet (s : State) : State := if s.overCap && s.allParked then s.setFld F.MGT_PWR_STATUS_CAP_UNMET 1 else
  if s.overCap then s else s.setFld F.MGT_PWR_STATUS_CAP_UNMET 0

/-- A cap offered by the gateway (R56, R58): it replaces one that is not acknowledged. -/
def capRequest (s : State) (code : Nat) : State :=
  let s := (s.setFld F.MGT_PWR_STATUS_GW_CAP (clampCap code)).effectiveCap
  ({ s with mgt := { s.mgt with capUnacked := some (code % 64) } }).unmet.ackCap

/-- CAP_CODE written (R56, R58). -/
def capWrite (s : State) (value : Nat) : State := (s.setFld F.MGT_PWR_CAP_CAP_CODE (clampCap (value % 64))).effectiveCap.unmet.ackCap

/-- PARKED shows the parked cores. -/
def setParked (s : State) (l : List Nat) : State := ({ s with mgt := { s.mgt with parked := l } }).setFld F.MGT_PWR_STATUS_PARKED l.length

/-- One measure of R57: while the estimate exceeds the cap a clock step, then a parked core; after a rise of the cap the reverse. -/
def capStep (s : State) : State :=
  let step := s.fld F.MGT_PWR_STATUS_TENSOR_STEP
  if s.overCap then
    let s := { s with mgt := { s.mgt with capRising := false } }
    let s := if step < 12 then s.setFld F.MGT_PWR_STATUS_TENSOR_STEP (step + 1)
      else match s.enabledCores.find? (fun n => !s.mgt.parked.contains n) with
        | some n => s.setParked (n :: s.mgt.parked)
        | none => s
    s.unmet.ackCap
  else if s.mgt.capRising then
    match s.mgt.parked with
    | _ :: rest => s.setParked rest
    | [] => if 0 < step then s.setFld F.MGT_PWR_STATUS_TENSOR_STEP (step - 1) else { s with mgt := { s.mgt with capRising := false } }
  else s

/-- The estimate updated (R56). -/
def powerEstimate (s : State) (w : Nat) : State :=
  let s := s.setFld F.MGT_PWR_STATUS_EST_W (min 1023 w)
  ({ s with mgt := { s.mgt with estSum := s.mgt.estSum + w, estCount := s.mgt.estCount + 1 } }).unmet.ackCap

/-- At a tick: the average of the closed epoch. -/
def powerTick (s : State) : State :=
  let s := if s.mgt.estCount = 0 then s else s.setFld F.MGT_PWR_STATUS_EPOCH_AVG_W (min 1023 (s.mgt.estSum / s.mgt.estCount))
  { s with mgt := { s.mgt with estSum := 0, estCount := 0 } }

end State

/-- FRAME_RECEIVE (R147). -/
def execFrameReceive (port : Nat) (error : Bool) (etherType : Nat) (udp : Option Nat) (payload : Bytes) (s : State) :
    Host.Outcome State Fault Refusal := s.run (fun s => s.frameReceive port error etherType udp payload)

/-- CHANNEL_TRANSFER (R53). -/
def execChannelTransfer (src dst content type channel : Nat) (bad : Bool) (s : State) : Host.Outcome State Fault Refusal :=
  s.run (fun s => s.channelTransfer src dst content type channel bad)

/-- BUS_ACCESS (R9). -/
def execBusAccess (addr bytes : Nat) (_write : Bool) (s : State) : Host.Outcome State Fault Refusal := s.run (fun s => s.busAccess addr bytes)

/-- ACCESS_TIMEOUT (R43). -/
def execAccessTimeout (_addr : Nat) (_write : Bool) (s : State) : Host.Outcome State Fault Refusal := s.run (fun s => s.busError)

/-- SET_ENDPOINT_ID (R45). -/
def execSetEndpointId (iid op eid : Nat) (s : State) : Host.Outcome State Fault Refusal := s.run (fun s => s.setEid iid op eid)

/-- GET_ENDPOINT_ID (R45). -/
def execGetEndpointId (iid : Nat) (s : State) : Host.Outcome State Fault Refusal := s.run (fun s => s.getEid iid)

/-- GET_ENDPOINT_UUID (R45). -/
def execGetEndpointUuid (iid : Nat) (s : State) : Host.Outcome State Fault Refusal := s.run (fun s => s.getUuid iid)

/-- GET_MCTP_VERSION_SUPPORT (R45). -/
def execGetMctpVersionSupport (iid type : Nat) (s : State) : Host.Outcome State Fault Refusal := s.run (fun s => s.getVersion iid type)

/-- GET_MESSAGE_TYPE_SUPPORT (R45). -/
def execGetMessageTypeSupport (iid : Nat) (s : State) : Host.Outcome State Fault Refusal := s.run (fun s => s.getTypes iid)

/-- GET_VENDOR_DEFINED_MESSAGE_SUPPORT (R45). -/
def execGetVendorDefinedMessageSupport (iid selector : Nat) (s : State) : Host.Outcome State Fault Refusal := s.run (fun s => s.getVendor iid selector)

/-- MCTP_UNSUPPORTED_TYPE (R45). -/
def execMctpUnsupportedType (type : Nat) (s : State) : Host.Outcome State Fault Refusal := s.run (fun s => s.mctpReject type)

/-- MSI_OFFER (R47). -/
def execMsiOffer (s : State) : Host.Outcome State Fault Refusal := s.run (fun s => s.msiOffer)

/-- MSI_ACK (R47). -/
def execMsiAck (s : State) : Host.Outcome State Fault Refusal := s.run (fun s => s.msiAck)

/-- INT_EN_WRITE (R495). -/
def execIntEnWrite (island value : Nat) (s : State) : Host.Outcome State Fault Refusal := s.run (fun s => s.intEnWrite island value)

/-- REFCLK_LOST (R50). -/
def execRefclkLost (s : State) : Host.Outcome State Fault Refusal := s.run (fun s => s.refclkLost)

/-- REFCLK_RESTORED (R50). -/
def execRefclkRestored (s : State) : Host.Outcome State Fault Refusal := s.run (fun s => s.refclkRestored)

/-- POWER_CAP_REQUEST (R58). -/
def execPowerCapRequest (code : Nat) (s : State) : Host.Outcome State Fault Refusal := s.run (fun s => s.capRequest code)

/-- PWR_CAP_WRITE (R56). -/
def execPwrCapWrite (value : Nat) (s : State) : Host.Outcome State Fault Refusal := s.run (fun s => s.capWrite value)

/-- CAP_STEP (R57). -/
def execCapStep (s : State) : Host.Outcome State Fault Refusal := s.run (fun s => s.capStep)

/-- PWR_ESTIMATE_UPDATE (R56). -/
def execPwrEstimateUpdate (watts : Nat) (s : State) : Host.Outcome State Fault Refusal := s.run (fun s => s.powerEstimate watts)

/-- FAST_SHED (R58). -/
def execFastShed (s : State) : Host.Outcome State Fault Refusal := s.run (fun s => s.setFld F.MGT_PWR_STATUS_FAST_HOLD 1)

/-- FAST_SHED_RELEASE (R58). -/
def execFastShedRelease (s : State) : Host.Outcome State Fault Refusal := s.run (fun s => s.setFld F.MGT_PWR_STATUS_FAST_HOLD 0)

end Sys2Proof.Machine
end

