-- ==== Sys2Proof/Machine/Job.lean ====
section
/-! DEFINITION. Job start (18): requests of mailbox 1, complete broadcasts, and a job applied at its tick. -/

namespace Sys2Proof.Machine

/-- A job request (R442). -/
structure JobReq where
  op : Nat
  rounds : Nat
  act : Nat
  deadline : Nat
  delta : List (Nat × Bool)
deriving DecidableEq, Repr

/-- Entries: N_EXCL excluded, then N_INCL included addresses. -/
def jobEntries (nEx nIn : Nat) (b : Bytes) : List (Nat × Bool) :=
  (List.range (min 1018 (nEx + nIn))).map (fun i => (bytesAt b (4 * i) 4, decide (i < nEx)))

/-- A request read. -/
def JobReq.ofBytes (b : Bytes) : JobReq :=
  { op := bytesAt b 0 1, rounds := bytesAt b 6 2, act := bytesAt b 8 6, deadline := bytesAt b 16 6,
    delta := jobEntries (bytesAt b 2 2) (bytesAt b 4 2) (b.drop 24) }

namespace State

/-- An entry names an address of the image (R443): a node or group of the fleet, or a die of a tray of it. -/
def namesImage (s : State) (a : Nat) : Bool :=
  if isLevelAddr a then s.image.trays.any (fun t => t.1 == a || groupOf t.1 == a)
  else if nodeOf a = s.myNode then unitOf a == 2047 && s.image.dies.any (fun d => s.dieAddr d.slot == a)
  else unitOf a == 2047 && slotOf a != 127 && s.image.trays.any (fun t => t.1 == nodeOf a)

/-- A response of service 1 (R443). -/
def jobRespond (s : State) (status gen : Nat) : State := s.mboxRespond 1 (le 2 status ++ zeros 2 ++ le 4 gen)

/-- The block does not hold the job any more, or holds another (R453). -/
def setStaged (s : State) (j : Option Job) : State :=
  let s := { s with stw := { s.stw with staged := j } }
  match j with
  | some j => ((s.setFld F.STW_JOB0_STAGED_GEN j.gen).setFld F.STW_JOB1_ACT_EPOCH j.act).setFld F.STW_JOB1_PENDING 1
  | none => ((s.setFld F.STW_JOB0_STAGED_GEN 0).setFld F.STW_JOB1_ACT_EPOCH s.stw.job.act).setFld F.STW_JOB1_PENDING 0

/-- A whole JOB broadcast (R446, R453): a START is staged, its Potik units written, and the newly included ones challenged; a CANCEL drops the
staged job. -/
def stageJob (s : State) (p : Bytes) : State :=
  if bytesAt p 0 1 = 2 then ((s.setStaged none).setFld F.STW_JOB1_CANCELLED 1).holdBcast 2
  else
    let j : Job := { delta := s.stw.job.delta ++ jobEntries (bytesAt p 2 2) (bytesAt p 4 2) (p.drop 8), rounds := max 1 (bytesAt p 6 2),
                     act := (s.bcast 2).actEpoch, gen := s.bgen 2 }
    let s := s.setStaged (some j)
    let dies := (s.image.dies.filter (fun d => !dieExcluded j.delta (s.dieAddr d.slot))).map (fun d => d.slot)
    if dies.isEmpty then s.holdBcast 2
    else
      let s := s.modBcast 2 (fun b => { b with challenged := dies, failed := [] })
      dies.foldl (fun s d => if s.stw.armed.contains d then s.writeAll d (s.armSettings d) .config else s.armStart d true) s

/-- A tree broadcast has become whole at this block (R446): what its kind does with it. -/
def bcastDone (s : State) (k : Nat) : State :=
  let p := s.bcastPayload k
  let act := (s.bcast k).actEpoch
  match k with
  | 2 => s.stageJob p
  | 3 => (s.baselineReceive (s.bgen 3) act p).holdBcast 3
  | 4 => (s.keepPackage p act).2.holdBcast 4
  | _ => (s.snapRequest act).holdBcast 5

/-- A part arrives (R447); the last one missing completes the broadcast. -/
def broadcastPart (s : State) (src k resend gen act deadline part parts : Nat) (payload : Bytes) : State :=
  if !s.works 14 then s.routeDrop 4 14 0 0x24
  else
    let before := s.bcastWhole k && s.bgen k == gen
    let s := s.partReceive src k resend gen act deadline part parts payload
    if !before && s.bcastWhole k && s.bgen k == gen && decide (2 ≤ k) && decide (k ≤ 5) then s.bcastDone k else s

/-- The request waiting in mailbox 1. -/
def jobRequest (s : State) : Option JobReq :=
  if s.flag (F.STW_MBOX_CTRL_BUSY.at 1) && s.serviceRuns 1 then some (JobReq.ofBytes (s.mboxRequest 1)) else none

/-- The checks that START and CANCEL share (R443, R448): NOT_MASTER, BUSY, RANGE. -/
def jobCheck (s : State) (q : JobReq) : Nat :=
  if !s.masterOf .system then 3
  else if s.bcastOpen 2 then 1
  else if q.deadline < s.epoch + 3 ∨ q.act ≤ q.deadline ∨ q.delta.any (fun e => !s.namesImage e.1) then 2
  else 0

/-- The broadcast opened, held here first, and the response OK. -/
def jobOpen (s : State) (q : JobReq) : State :=
  let b := s.mboxRequest 1
  let s := (s.openBcast 2 q.act q.deadline (b.take 8 ++ b.drop 24)).bcastDone 2
  s.jobRespond 0 (s.bgen 2)

/-- A START request (R442, R443). -/
def jobStart (s : State) : State :=
  match s.jobRequest with
  | none => s
  | some q => if q.op ≠ 1 then s else if s.jobCheck q ≠ 0 then s.jobRespond (s.jobCheck q) (s.bgen 2) else s.jobOpen q

/-- A CANCEL request (R442, R443): its ACT_EPOCH must be the staged job's. -/
def jobCancel (s : State) : State :=
  match s.jobRequest with
  | none => s
  | some q =>
    if q.op ≠ 2 then s
    else if s.jobCheck q ≠ 0 then s.jobRespond (s.jobCheck q) (s.bgen 2)
    else if !(s.stw.staged.any (fun j => j.act == q.act)) then s.jobRespond 4 (s.bgen 2)
    else s.jobOpen q

/-- At a tick (R453, R454): a staged job that the block holds and whose epoch has come is applied. -/
def jobTick (s : State) : State :=
  match s.stw.staged with
  | none => s
  | some j =>
    if s.epoch < j.act || !(s.bcast 2).holds then s
    else
      let late := decide (j.act < s.epoch)
      let s := { s with stw := { s.stw with job := j } }
      let s := (((s.setStaged none).setFld F.STW_JOB0_JOB_GEN j.gen).setFld F.STW_JOB1_LATE_APPLY (b2n late)).setFld F.VRD_STRAG_ROUNDS_PER_STEP j.rounds
      let s := s.replicaRestart
      let s := (s.image.dies.filter (fun d => dieExcluded j.delta (s.dieAddr d.slot) && s.stw.armed.contains d.slot)).foldl
        (fun s d => s.disarm d.slot) s
      (s.stw.arming.filter (fun a => a.job)).foldl (fun s a =>
        ((s.setArming a.die (some { a with job := false })).ctrlWrite a.die [(0x80, 1)] (.arm 4))) s

end State

/-- BROADCAST_PART (R447). -/
def execBroadcastPart (src kind resend gen act deadline part parts : Nat) (payload : Bytes) (s : State) : Host.Outcome State Fault Refusal :=
  s.run (fun s => s.broadcastPart src kind resend gen act deadline part parts payload)

/-- JOB_START (R442). -/
def execJobStart (s : State) : Host.Outcome State Fault Refusal := s.run (fun s => s.jobStart)

/-- JOB_CANCEL (R442). -/
def execJobCancel (s : State) : Host.Outcome State Fault Refusal := s.run (fun s => s.jobCancel)

end Sys2Proof.Machine
end

