-- ==== Sys2Proof/Machine/Verify.lean ====
section
/-! DEFINITION. Staging and verification of an image (R416 to R424): what the block reads from STAGING, and the checks in their order. -/

namespace Sys2Proof.Machine

/-- An entry of the section table (R418), with the reserved bits that must be 0. -/
structure Section where
  type : Nat
  fill : Bool
  region : Nat
  reserved : Bool
  offset : Nat
  len : Nat
  scrc : Nat
deriving DecidableEq, Repr

/-- The entry that 32 bytes spell. -/
def Section.ofBytes (b : Bytes) : Section :=
  { type := bytesAt b 0 1, fill := bit (bytesAt b 1 1) 0, region := bytesAt b 2 2 % 1024
    reserved := bytesAt b 1 1 / 2 != 0 || bytesAt b 2 2 / 1024 != 0 || bytesAt b 4 4 != 0 || (!bit (bytesAt b 1 1) 0 && bytesAt b 2 2 % 1024 != 0)
    offset := bytesAt b 8 8, len := bytesAt b 16 8, scrc := bytesAt b 24 8 }

/-- The route of a 16-byte entry (R420), and whether its reserved bytes and codes are as they must be. -/
def routeOf (b : Bytes) : Route :=
  { src := bytesAt b 0 1, dst := bytesAt b 1 1, channel := bytesAt b 2 2, content := bytesAt b 4 1, types := bytesAt b 8 8 }

def routeShape (b : Bytes) : Bool := b.length == 16 && bytesAt b 5 3 == 0 && decide (bytesAt b 4 1 ≤ 8)

/-- The bit of TYPES that names a record type (R420). -/
def typeBit (t : Nat) : Nat := if t < 0x20 then t else 32 + (t - 0x20)

/-- A route carries a record type. -/
def Route.carries (r : Route) (t : Nat) : Bool := r.content == 0 && bit r.types (typeBit t)

/-- The record types. -/
def recTypes : List Nat := (List.range 13).map (· + 1) ++ (List.range 6).map (· + 0x20)

/-- Types that ALN takes in itself (R503). -/
def alnOwn (t : Nat) : Bool := [0x01, 0x02, 0x03, 0x20, 0x23].contains t

/-- Where R503 sends a type that ALN passes on. -/
def alnTarget (t : Nat) : Nat :=
  match t with
  | 0x04 => 12 | 0x06 => 12 | 0x0B => 12
  | 0x07 => 11
  | 0x09 => 15
  | 0x21 => 7 | 0x22 => 7
  | _ => 14

/-- Routes that every image carries (R503): source, destination, content. -/
def alwaysRoutes : List (Nat × Nat × Nat) :=
  [(4, 5, 1), (5, 6, 2), (6, 7, 5), (11, 7, 6), (14, 7, 6), (15, 7, 6), (4, 12, 7), (3, 12, 7), (7, 12, 7), (14, 12, 7), (13, 12, 7)]

/-- R421 without what the image's other sections decide: endpoints, and one destination for each type and content of a source. -/
def routesClash (rs : List Route) : Bool :=
  (rs.zipIdx).any (fun a => a.1.src == a.1.dst || decide (15 < a.1.src) || decide (15 < a.1.dst) ||
    (rs.zipIdx).any (fun b => decide (a.2 < b.2) && a.1.src == b.1.src && a.1.content == b.1.content &&
      (if a.1.content = 0 then recTypes.any (fun t => a.1.carries t && b.1.carries t) else a.1.dst != b.1.dst)))

/-- The record types that the streams of an image admit (R166). -/
def admitted (im : Image) : List Nat := recTypes.filter (fun t => im.streams.any (fun c => classAllowed t c.cls))

/-- This block is a master or a deputy of a level under the image. -/
def Image.leads (im : Image) : Bool :=
  let me := nodeAddr im.group im.node
  im.groupMaster == me || im.groupDeputy == some me || im.systemMaster == me || im.systemDeputy == some me

/-- A route that R421 or R503 requires is missing. -/
def routesMissing (im : Image) : Bool :=
  let has := fun s d c => im.routes.any (fun r => r.src == s && r.dst == d && r.content == c)
  let sends := fun t d => im.routes.any (fun r => r.src == 4 && r.dst == d && r.carries t)
  let models := !im.models.isEmpty || im.base0.isSome
  alwaysRoutes.any (fun e => !has e.1 e.2.1 e.2.2) ||
  (models && (!has 5 14 3 || !has 14 5 4)) ||
  (admitted im).any (fun t => !alnOwn t && !(im.routes.any (fun r => r.src == 4 && r.carries t))) ||
  (admitted im).any (fun t => [0x04, 0x05, 0x06, 0x07, 0x08, 0x09, 0x0A, 0x0B, 0x0D, 0x24, 0x25].contains t && !sends t (alnTarget t)) ||
  (im.leads && (!sends 0x21 7 || !sends 0x22 7))

/-- Two spans of the same location overlap. -/
def Region.overlaps (a b : Region) : Bool :=
  a.external == b.external && decide (a.base < b.base + b.size) && decide (b.base < a.base + a.size)

/-- A region keeps its place from a map (R357). -/
def Region.keptFrom (m : List Region) (r : Region) : Bool :=
  m.any (fun o => o.external == r.external && o.base == r.base && o.size == r.size)

/-- The map breaks R355. -/
def mapBad (m : List Region) : Bool :=
  (match m with
   | r :: _ => !(r.kind == 0 && !r.external && r.base == 0xF00000000 && r.size == 0x100000000)
   | [] => true) ||
  m.any (fun r => decide (19 < r.kind) || r.base % 4096 != 0 || r.size % 4096 != 0 || r.external != decide (18 ≤ r.kind) ||
    decide ((if r.external then 2 ^ 48 else 2 ^ 36) < r.base + r.size)) ||
  (m.zipIdx).any (fun a => (m.zipIdx).any (fun b => decide (a.2 < b.2) && a.1.overlaps b.1))

/-- The map breaks R357 beside the running one: a region moves onto a part of it. -/
def mapMoves (old new : List Region) : Bool :=
  (new.drop 1).any (fun r => !r.keptFrom old && old.any (fun o => r.overlaps o))

/-- A table exceeds a limit (R76, R166, R169, R282, R355, R367, R373, R378, R420). -/
def limitBad (im : Image) : Bool :=
  (match im.sched with | some c => decide (c.p < 100000) || decide (1000000000 < c.p) | none => false) ||
  decide (32768 < im.streams.length) || decide (1024 < im.regions.length) || decide (1024 < im.dests.length) ||
  decide (256 < im.dict.length) || decide (16 < im.archives.length) || decide (4 < im.models.length) || decide (1024 < im.replicas.length) ||
  im.streams.any (fun c => decide (2000000 < c.cir) || decide (2000000 < c.pir) || decide (262144 < c.cbs) || decide (262144 < c.pbs))

/-- The roles break R3, or name a block that the block table does not hold (R424). -/
def rolesBad (im : Image) : Bool :=
  let held := fun a => im.blocks.any (fun b => b.2 == a)
  let named := [im.groupMaster, im.systemMaster] ++ im.groupDeputy.toList ++ im.systemDeputy.toList ++ im.groupMasters ++ im.groupDeputies
  named.any (fun a => !held a) || im.groupDeputy == some im.groupMaster || im.systemDeputy == some im.systemMaster ||
  !im.groupMasters.contains im.systemMaster

namespace State

/-! ### Reading the staged image -/

/-- `n` bytes of STAGING from an offset of the image. -/
def stg (s : State) (off n : Nat) : Bytes := s.storeBytes (staging.base + off) n

/-- IMAGE_LEN, SECTIONS and the section table. -/
def imageLen (s : State) : Nat := bytesAt (s.stg 16 8) 0 8
def sectionCount (s : State) : Nat := bytesAt (s.stg 12 2) 0 2
def sections (s : State) : List Section := (List.range (min 64 s.sectionCount)).map (fun i => Section.ofBytes (s.stg (256 + 32 * i) 32))

/-- The section of a type, with its place in the table. -/
def sectionOf (s : State) (t : Nat) : Option (Section × Nat) := s.sections.zipIdx.find? (fun e => e.1.type == t)

/-- A section's bytes. -/
def sectionBytes (s : State) (t : Nat) : Bytes := match s.sectionOf t with | some (c, _) => s.stg c.offset c.len | none => []

/-- The place of a type's entry, 0x7F without one. -/
def sectionNo (s : State) (t : Nat) : Nat := match s.sectionOf t with | some (_, i) => i | none => 0x7F

/-- The entries of a section of 16-byte records. -/
def sixteens (b : Bytes) : List Bytes := chunks 16 (b.length / 16 + 1) b

/-- A word of the staged image reads as poison (R424). -/
def stagedPoison (s : State) : Bool :=
  let n := min s.imageLen s.mgt.stagedLen
  s.sto.poison.any (fun e => e.2 && decide (staging.base ≤ e.1 * 8) && decide (e.1 * 8 < staging.base + n))

/-! ### The checks of R424 -/

/-- Reason 1: MAGIC, FORMAT or HCRC. -/
def badMagic (s : State) : Bool :=
  let h := s.stg 0 256
  bytesAt h 0 4 != 0x4C50524D || bytesAt h 4 2 != 1 || (crc32c (h.take 252)).toNat != bytesAt h 252 4

/-- Reason 3: IMAGE_LEN, or the first section that lies outside the image. -/
def badLength (s : State) : Option Nat :=
  if s.mgt.stagedLen < s.imageLen ∨ 2 ^ 32 < s.imageLen then some 0x7F
  else s.sections.findIdx? (fun c => decide (c.offset < 256 + 32 * s.sectionCount) || decide (s.imageLen < c.offset + c.len))

/-- Reason 4: the digest of KEY is not that of the generation in use; a digest of zeros accepts none (R417). -/
def badKey (s : State) : Bool := s.imageKeyDigest == zeros 48 || Config.sha384 (s.stg 32 96) != s.imageKeyDigest

/-- Reason 5: SIGNATURE (R417). -/
def badSignature (s : State) : Bool :=
  !Config.ecdsaVerify (s.stg 32 96) (Config.sha384 (s.stg 0 128 ++ s.stg 224 (s.imageLen - 224))) (s.stg 128 96)

/-- GENERATION of the staged image. -/
def stagedGen (s : State) : Nat := bytesAt (s.stg 8 4) 0 4

/-- Reason 6. -/
def badGeneration (s : State) : Bool := s.stagedGen == 0 || s.img.any (fun im => decide (s.stagedGen ≤ im.generation))

/-- Reason 7, as far as the layouts are the spec's own (R418, R419, R420, R422): the entry at fault. -/
def badSection (s : State) : Option Nat :=
  let cs := s.sections
  if s.sectionCount = 0 ∨ 64 < s.sectionCount then some 0x7F
  else if [0x01, 0x02, 0x03, 0x04, 0x05, 0x0E].any (fun t => (s.sectionOf t).isNone) then some 0x7F
  else
    cs.zipIdx.findSome? (fun e =>
      let c := e.1
      let bs := s.stg c.offset c.len
      if c.reserved || c.type == 0 || decide (0x0F < c.type) || c.offset % 64 != 0 ||
         (cs.take e.2).any (fun d => d.type == c.type || decide (c.offset < d.offset + d.len)) ||
         (crc64 bs).toNat != c.scrc ||
         (c.type == 0x03 && (bs.length % 16 != 0 || decide (256 < bs.length / 16) || (sixteens bs).any (fun r => !r.isEmpty && !routeShape r))) ||
         (c.type == 0x04 && (sixteens bs).any (fun r => !r.isEmpty && !((islandRec r).any islandRecOk)))
      then some e.2 else none)

/-- Reason 9: R355, R357 and R430. -/
def badRegion (s : State) (im : Image) : Bool :=
  mapBad im.regions ||
  (match s.img with
   | none => false
   | some old =>
     mapMoves old.regions im.regions ||
     s.sections.any (fun c => c.fill && (match im.regions[c.region]? with | some r => r.keptFrom old.regions | none => false))) ||
  s.sections.any (fun c => c.fill && (match im.regions[c.region]? with | some r => decide (r.size < c.len) || r.kind == 0 | none => true))

/-- Reason 10: R77, as it stands when verification runs. -/
def badSchedule (s : State) (im : Image) : Bool :=
  match s.img, s.tim.sched, im.sched with
  | some _, some c, some n =>
    if n.p = c.p then false
    else
      let d := n.t0 - c.t0
      let step : Int := (c.p : Int) * 65536
      decide (d < 0) || d % step != 0 || (n.e0 : Int) != (c.e0 : Int) + d / step ||
        (s.isArmed && (match s.tickTime s.epoch with | some t => decide (n.t0 < t) | none => false))
  | _, _, _ => false

/-- This block's place in the image's block table (R424). -/
def myBlock (s : State) (im : Image) : Option Nat :=
  (im.blocks.find? (fun b => b.1 == s.fld F.MGT_EUI64_EUI64)).map (fun b => b.2)

/-- The image as verification leaves it: the content of its sections, with what the spec's own layouts say read from STAGING. -/
def stagedImage (s : State) (content : Image) : Image :=
  let place := (s.myBlock content).getD 0
  { content with
    generation := s.stagedGen
    routes := ((sixteens (s.sectionBytes 0x03)).filter (fun r => r.length == 16)).map routeOf
    islandRegs := (sixteens (s.sectionBytes 0x04)).filterMap islandRec
    modelsCrc := match s.sectionOf 0x0A with | some (c, _) => c.scrc | none => 0
    group := place / 2 ^ 24 % 256
    node := place / 2 ^ 18 % 64 }

/-- The outcome of the checks in their order (R424): reason and section table entry of the first failure. What depends on the inner encoding of
sections that the spec does not lay out comes as `fail`, a reason with its entry. -/
def verifyImage (s : State) (im : Image) (fail : Option (Nat × Nat)) : Option (Nat × Nat) :=
  let said := fun r => match fail with | some (k, e) => if k = r then some (r, e) else none | none => none
  let when := fun (b : Bool) (r t : Nat) => if b then some (r, s.sectionNo t) else none
  if s.stagedPoison then some (12, 0x7F)
  else if s.badMagic then some (1, 0x7F)
  else if bytesAt (s.stg 6 2) 0 2 ≠ Config.revision then some (2, 0x7F)
  else (s.badLength.map (fun e => (3, e)))
    <|> (if s.badKey then some (4, 0x7F) else none)
    <|> (if s.badSignature then some (5, 0x7F) else none)
    <|> (if s.badGeneration then some (6, 0x7F) else none)
    <|> (s.badSection.map (fun e => (7, e)))
    <|> said 7
    <|> when (routesClash im.routes || routesMissing im) 8 0x03
    <|> said 8
    <|> when (s.badRegion im) 9 0x05
    <|> said 9
    <|> when (s.badSchedule im) 10 0x02
    <|> when (limitBad im) 11 0xFF
    <|> said 11
    <|> when ((s.myBlock im).isNone || rolesBad im) 13 0x01
    <|> said 13

/-! ### Staging (R423) -/

/-- The staging copy's requests still waiting are dropped. -/
def dropStaging (s : State) : State :=
  { s with sto := { s.sto with waiting := s.sto.waiting.filter (fun r => r.write || !staging.holds r.dest) } }

/-- STB_MGT_IMG_LEN written (R423): LENGTH, the W1C bits, and LOAD. -/
def imageLoad (s : State) (value : Nat) : State :=
  let a := F.MGT_IMG_LEN_LENGTH.addr
  let s := s.setReg a (writeReg [(0, 33, .rw), (34, 1, .w1c), (35, 1, .w1c)] (s.reg a) (BitVec.ofNat 64 value))
  if !bit value 33 then s
  else
    let n := s.fld F.MGT_IMG_LEN_LENGTH
    if s.commitArmed || s.imgState == 1 || s.imgState == 3 || decide (2 ^ 32 < n) then s.setFld F.MGT_IMG_LEN_STAGE_REFUSED 1
    else
      let s := { s with mgt := { s.mgt with stagedLen := n, verified := none } }
      if !s.works 8 then s.setImgState 0
      else memRange false (n / (4095 * 64) + 1) (s.fld F.MGT_IMG_SRC_ADDR) n staging.base (s.setImgState 1)

/-- The staging copy ends (R423): STAGED, or FAILED with reason STAGE when the gateway refused a request of it. -/
def stagingComplete (s : State) (ok : Bool) : State :=
  if s.imgState ≠ 1 then s
  else if ok then s.setImgState 2
  else s.dropStaging.imgFail 16 0x7F

/-- VERIFY (R424). -/
def imageVerify (s : State) : State :=
  if s.imgState ≠ 2 then s.setFld F.MGT_IMG_LEN_CMD_REFUSED 1
  else (s.setImgState 3).setFld F.MGT_IMG_GEN_STAGED_GEN s.stagedGen

/-- Verification ends (R424). -/
def verificationDone (s : State) (content : Image) (fail : Option (Nat × Nat)) : State :=
  if s.imgState ≠ 3 then s
  else
    let im := s.stagedImage content
    match s.verifyImage im fail with
    | some (r, e) => s.imgFail r e
    | none => ({ s with mgt := { s.mgt with verified := some im } }).setImgState 4

end State

/-- IMAGE_LOAD (R423). -/
def execImageLoad (value : Nat) (s : State) : Host.Outcome State Fault Refusal := s.run (fun s => s.imageLoad value)

/-- STAGING_COMPLETE (R423). -/
def execStagingComplete (ok : Bool) (s : State) : Host.Outcome State Fault Refusal := s.run (fun s => s.stagingComplete ok)

/-- IMAGE_VERIFY (R424). -/
def execImageVerify (s : State) : Host.Outcome State Fault Refusal := s.run (fun s => s.imageVerify)

/-- VERIFICATION_DONE (R424). -/
def execVerificationDone (content : Image) (fail : Option (Nat × Nat)) (s : State) : Host.Outcome State Fault Refusal :=
  s.run (fun s => s.verificationDone content fail)

end Sys2Proof.Machine
end

