-- ==== Sys2Proof/Machine/Carry.lean ====
section
/-! DEFINITION. What a commit changes at its switch (R422, R426), part by part: registers, roles, trees, tables, time, codec, export, steward. -/

namespace Sys2Proof.Machine

/-- The bits of RW fields of the block register at a bank address; mailbox responses and the identity buffers 2 and 3 are RO (R438, R487). -/
def rwBits (a : Nat) : Word :=
  let off := a % 0x4000000
  let idx := a / 0x4000000
  if off = 0x701108 ∧ idx / 4 % 2 = 1 then 0
  else if off = 0x1640 ∧ 2 ≤ idx % 4 then 0
  else match islandRow (off / 0x80000) (off % 0x80000) with
    | some r => rwMask r.flds
    | none => 0

/-- PERIOD_MS as it acts: 1 to 4,000 (R468). -/
def clampQuiet (v : Word) : Word := setBits v 0 16 (max 1 (min 4000 (getBits v 0 16)))

namespace State

/-! ### Registers (R422) -/

/-- A register that a commit does not bring to its reset value although it has RW fields: the fleet time, and the request buffer of a mailbox that is
BUSY. -/
def keptAtCommit (s : State) (a : Nat) : Bool :=
  let off := a % 0x4000000
  a == F.TIM_TIME_LO_FRAC.addr || a == F.TIM_TIME_HI_SEC_HI.addr || (off == 0x701108 && s.flag (F.STW_MBOX_CTRL_BUSY.at (a / 0x4000000 % 4)))

/-- RW fields of the islands' own registers take their reset values. -/
def resetOwn (s : State) : State :=
  s.regs.foldl (fun s e =>
    let m := if e.1 % 0x80000 < 0x1000 || s.keptAtCommit e.1 then 0 else rwBits e.1
    if m = 0 then s else s.setReg e.1 ((e.2 &&& ~~~m) ||| (blockReset e.1 &&& m))) s

/-- HOLD, _INT_EN and _QUIET as a commit writes them act as a write does (R468, R495); other registers take the value in their RW bits. -/
def loadReg (s : State) (n off a v : Nat) : State :=
  let m := rwBits a
  let new := (s.reg a &&& ~~~m) ||| (BitVec.ofNat 64 v &&& m)
  if off = 0x08 then s.holdWrite n (bit v 3)
  else if off = 0x28 then s.intEnWrite n v
  else if off = 0x40 then s.setReg a (clampQuiet new)
  else s.setReg a new

/-- A record of the ISLAND section taken; a data register at the entry that its index register selects. -/
def islandTake (s : State) (r : Nat × Nat × Nat) : State :=
  match islandRow r.1 r.2.1 with
  | none => s
  | some row =>
    let base := r.1 * 0x80000
    if s.disabled r.1 then s
    else s.loadReg r.1 r.2.1 (entryAddr (base + r.2.1) (row.index (fun x => s.reg (base + x)))) r.2.2

/-- The record names a register behind an index. -/
def isEntry (r : Nat × Nat × Nat) : Bool := (islandRow r.1 r.2.1).any (fun row => row.idx.isSome)

/-- Every register at the commit tick: own RW fields at reset, then the records, index registers before the entries they select. -/
def commitRegs (s : State) (im : Image) : State :=
  let s := s.resetOwn
  let s := (im.islandRegs.filter (fun r => !isEntry r)).foldl islandTake s
  let s := (im.islandRegs.filter isEntry).foldl islandTake s
  let s := im.loads.foldl (fun s l => s.loadReg l.1 l.2.1 (entryAddr (l.1 * 0x80000 + l.2.1) l.2.2.1) l.2.2.2) s
  s.setFld F.TRC_CTRL_SNAP_MIB im.snapMib

/-- Entries of a register behind an index removed, so that each reads its reset value. -/
def clearTable (s : State) (a : Nat) : State := { s with regs := s.regs.filter (fun e => e.1 % 0x4000000 != a) }

/-! ### Roles and the standing tree (R24, R33, R34) -/

/-- STB_MGT_ROLE from the image. -/
def commitRole (s : State) (im : Image) : State :=
  let me := nodeAddr im.group im.node
  let s := s.setReg F.MGT_ROLE_NODE_AGG.addr 0
  let s := ((s.setFld F.MGT_ROLE_NODE_AGG 1).setFld F.MGT_ROLE_GROUP_MASTER (b2n (im.groupMaster == me))).setFld
    F.MGT_ROLE_GROUP_DEPUTY (b2n (im.groupDeputy == some me))
  let s := (s.setFld F.MGT_ROLE_SYSTEM_MASTER (b2n (im.systemMaster == me))).setFld F.MGT_ROLE_SYSTEM_DEPUTY (b2n (im.systemDeputy == some me))
  ((s.setFld F.MGT_ROLE_GROUP im.group).setFld F.MGT_ROLE_NODE im.node).setFld F.MGT_ROLE_ADDR_MODE im.addrMode

/-- The trees and the role state of the image; P starts at the first epoch opened under it. -/
def commitTree (s : State) (im : Image) (e : Nat) : State :=
  let me := nodeAddr im.group im.node
  let node : TreeSt := { parent := some im.groupMaster, alt := im.nodeAlt <|> im.groupDeputy }
  let group : TreeSt := { parent := some im.systemMaster, alt := im.groupAlt <|> im.systemDeputy, children := im.groupNodes.filter (fun a => a != me) }
  let system : TreeSt := { children := im.groupMasters.filter (fun a => a != me) }
  let drop := fun (s : State) (level : Nat) => (s.modOutlet level (fun o => { o with req := none })).setFld (F.ALN_LEVEL_STATE_REQ_RES.at level) 0
  let s := if s.mgt.nodeTree.parent = node.parent then s else drop s 0
  let s := if s.mgt.groupTree.parent = group.parent then s else drop s 1
  let leads := im.packages.foldl (fun t c => Tab.put (fun _ => {}) t c.package { lead := c.lead, alt := c.alt, dies := c.dies }) []
  { s with mgt := { s.mgt with nodeTree := node, groupTree := group, systemTree := system, group := { presence := e }, system := { presence := e }
                               leads := leads } }

/-- The system master of the image is the grandmaster (R61): a block that becomes it with its time known runs as its SOURCE says (R71). -/
def commitGrandmaster (s : State) (was : Bool) : State := if s.grandmaster && !was then s.freeLock else s

/-! ### Time (R77, R90, R62) -/

/-- STB_TIM_SCHED shows the schedules. -/
def showSched (s : State) : State :=
  let s := s.setReg F.TIM_SCHED_PERIOD_NS.addr 0
  let s := match s.tim.sched with | some c => s.setFld F.TIM_SCHED_PERIOD_NS c.p | none => s
  match s.tim.pending with
  | some n => (s.setFld F.TIM_SCHED_PENDING 1).setFld F.TIM_SCHED_PENDING_E0 (n.e0 % 2 ^ 32)
  | none => s

/-- A pending schedule takes over (R77). -/
def schedTakeover (s : State) : State :=
  match s.tim.pending with
  | none => s
  | some n => ({ s with tim := { s.tim with before := s.tim.sched, sched := some n, pending := none } }).showSched

/-- The schedule of the image (R77): with the running period nothing but a pending one changes; a new period waits for its T0. -/
def commitSched (s : State) (im : Image) : State :=
  match im.sched, s.tim.sched with
  | none, _ => s
  | some n, none => ({ s with tim := { s.tim with sched := some n, pending := none } }).showSched
  | some n, some c =>
    if n.p = c.p then ({ s with tim := { s.tim with pending := none } }).showSched
    else
      let s := ({ s with tim := { s.tim with pending := some n } }).showSched
      if n.e0 ≤ s.epoch ∧ s.tim.open_ then s.schedTakeover else s

/-- The time links of the image: exchanges go on where the link is the same. -/
def commitLinks (s : State) (old im : Image) : State :=
  let s := s.clearTable F.TIM_ASYM_DATA_ASYM.addr
  let links := s.tim.links.keep (fun k => old.timeLinks[k]? == im.timeLinks[k]?)
  let s := { s with tim := { s.tim with links := links, closures := if old.triangles = im.triangles then s.tim.closures else [] } }
  (im.timeLinks.zipIdx).foldl (fun s e =>
    let s := (s.setFld (F.TIM_ASYM_DATA_ASYM.at e.2) (toField 32 e.1.asym)).setFld (F.TIM_ASYM_DATA_PEER.at e.2) e.1.peer
    (s.setFld (F.TIM_ASYM_DATA_LONG_HAUL.at e.2) (b2n e.1.longHaul)).setFld (F.TIM_ASYM_DATA_USE.at e.2) e.1.use) s

/-- The pulse outputs (R80, R422): one whose configuration the image names acts as written at the tick, any other is off. -/
def commitPulses (s : State) (im : Image) : State :=
  (List.range 8).foldl (fun s n =>
    let a := (F.TIM_PULSE_CFG_MODE.at n).addr
    if im.islandRegs.any (fun r => r.1 * 0x80000 + r.2.1 == a) then s.pulseModeWrite n (s.reg a).toNat s.tim.time else s.setPulse n {}) s

/-! ### Routes, ingest, alignment, evaluation tables -/

/-- STB_MGT_ROUTE_DATA (R54). -/
def commitRoutes (s : State) (im : Image) : State :=
  let s := s.clearTable F.MGT_ROUTE_DATA_SRC.addr
  ((im.routes.take 256).zipIdx).foldl (fun s e =>
    ((s.setFld (F.MGT_ROUTE_DATA_SRC.at e.2) e.1.src).setFld (F.MGT_ROUTE_DATA_DST.at e.2) e.1.dst).setFld (F.MGT_ROUTE_DATA_ACTIVE.at e.2) 1) s

/-- Ingest streams and queues (R166 to R171): every stream takes X from its next record, every bucket is full. -/
def commitIngest (s : State) (im : Image) : State :=
  let s := (((s.clearTable F.ING_STREAM_KEY_SENDER.addr).clearTable F.ING_STREAM_RATE_CIR.addr).clearTable F.ING_STREAM_BURST_CBS.addr).clearTable
    F.ING_QUEUE_DATA_DEPTH_KIB.addr
  let s := (im.streams.zipIdx).foldl (fun s e =>
    let (c, k) := e
    let s := (((s.setFld (F.ING_STREAM_KEY_SENDER.at k) c.sender).setFld (F.ING_STREAM_KEY_CLASS.at k) c.cls).setFld (F.ING_STREAM_KEY_VALID.at k) 1).setFld
      (F.ING_STREAM_KEY_QUEUE.at k) c.queue
    let s := (s.setFld (F.ING_STREAM_KEY_SEQ_CHECK.at k) (b2n c.seqCheck)).setFld (F.ING_STREAM_KEY_COLOUR_AWARE.at k) (b2n c.aware)
    let s := (s.setFld (F.ING_STREAM_RATE_CIR.at k) c.cir).setFld (F.ING_STREAM_RATE_PIR.at k) c.pir
    (s.setFld (F.ING_STREAM_BURST_CBS.at k) c.cbs).setFld (F.ING_STREAM_BURST_PBS.at k) c.pbs) s
  let s := (im.queueKib.zipIdx).foldl (fun s e => s.setFld (F.ING_QUEUE_DATA_DEPTH_KIB.at e.2) e.1) s
  ({ s with ing := { s.ing with streams := [] } }).setFld F.ING_STATUS_INGEST_QUEUES im.ingestQueues

/-- ALN's levels and references (R176, R189, R197). -/
def commitAlign (s : State) (im : Image) : State :=
  let s := { s with aln := { s.aln with refs := [], raws := [] } }
  [0, 1, 2].foldl (fun s l =>
    let (sp, p, v) := im.splits.getD l (0, 0, false)
    ((s.setFld (F.ALN_LEVEL_CFG_SPLIT.at l) sp).setFld (F.ALN_LEVEL_CFG_PARTNER.at l) p).setFld (F.ALN_LEVEL_CFG_PARTNER_VALID.at l) (b2n v)) s

/-- External entries of FEA are RW fields that no record names (R218, R422). -/
def commitExt (s : State) : State := { s with fea := { s.fea with ext := [], extDue := [] } }

/-- Sequence models (R282), their MIN_PAST as the registers hold it. -/
def commitModels (s : State) (im : Image) : State :=
  (List.range 4).foldl (fun s m =>
    match im.models[m]? with
    | none => s.setReg (F.STW_MDL_CFG_VALID.at m).addr (blockReset (F.STW_MDL_CFG_VALID.at m).addr)
    | some c =>
      let s := ((s.setFld (F.STW_MDL_CFG_VALID.at m) 1).setFld (F.STW_MDL_CFG_SUBJECT_CLASS.at m) c.cls).setFld (F.STW_MDL_CFG_LAYERS_M1.at m) (c.layers - 1)
      ((s.setFld (F.STW_MDL_CFG_WINDOW_M1.at m) (c.window - 1)).setFld (F.STW_MDL_CFG_OUTPUTS_M1.at m) (c.nOut - 1)).setFld (F.STW_MDL_CFG_H.at m) c.h) s

/-- Verdict policies by subject class (R301). -/
def commitPolicies (s : State) (im : Image) : State :=
  ((im.policies.take 4).zipIdx).foldl (fun s e =>
    let w := fun (f : Fld) (v : Nat) (s : State) => s.setReg (f.at e.2).addr (BitVec.ofNat 64 v)
    w F.VRD_POLICY_SRC_SCORE_ENS e.1.1 (w F.VRD_POLICY_TH_WATCH_TH e.1.2.1 (w F.VRD_POLICY_CNT_WATCH_M e.1.2.2 s))) s

/-- The Autumn budget of the image (R314): its SPARES counts as written. -/
def commitBudget (s : State) : State := s.sparesWrite (s.fld F.VRD_BUDGET_SPARES)

/-- The replica table (R334). -/
def commitReplicas (s : State) (old im : Image) : State :=
  (List.range (max old.replicas.length im.replicas.length)).foldl (fun s k =>
    match im.replicas[k]? with
    | none => s.setReg (F.STW_REPLICA_DATA_TAG.at k).addr 0
    | some x =>
      let s := (s.setFld (F.STW_REPLICA_DATA_TAG.at k) x.tag).setFld (F.STW_REPLICA_DATA_MEMBERS.at k) x.members.length
      (s.setFld (F.STW_REPLICA_DATA_VALID.at k) 1).setFld (F.STW_REPLICA_DATA_EVALUATED.at k) (b2n (s.evaluates x.members))) s

/-! ### Codec and archive (R367, R371, R373) -/

/-- The dictionary of the image differs from the active one. -/
def newDict (s : State) (im : Image) : Bool := !im.dict.isEmpty && im.dict != s.ownDict.2.2

/-- The idle bank holds the image's dictionary. -/
def loadDict (s : State) (im : Image) : State :=
  let s := (List.range 256).foldl (fun s i => s.setFld (F.COD_DICT_DATA_VALUE.at i) (im.dict.getD i 0)) s
  s.setFld F.COD_DICT_CTRL_IDLE_ENTRIES im.dict.length

/-- The dictionary swap at the commit tick. -/
def commitDict (s : State) (im : Image) : State :=
  if s.newDict im then ((s.loadDict im).setFld F.COD_DICT_CTRL_ACTIVATE 1).dictSwap else s

/-- Live blocks end at a commit (R371): under the map and the streams they began with. -/
def flushLiveBlocks (s : State) (old : Image) : State :=
  let s := (old.archives.zipIdx).foldl (fun s e => s.flushCoder (.archive e.2)) s
  s.flushCoder .trc

/-- Archive streams: an unchanged one in kept regions goes on; any other starts anew, and its pins go. -/
def commitArchives (s : State) (old im : Image) : State :=
  let place := fun (m : Image) (k : Nat) => m.regions[k]?
  let same := fun (k : Nat) => match old.archives[k]?, im.archives[k]? with
    | some a, some b => a == b && place old a.archive == place im b.archive && place old a.index == place im b.index && place old a.source == place im b.source
    | _, _ => false
  let arch := s.cod.arch.keep same
  let pins := s.cod.pins.filter (fun e => match e.2 with | some p => same p.1 | none => false)
  let s := { s with cod := { s.cod with arch := arch, pins := pins } }
  (List.range 16).foldl (fun s k =>
    match im.archives[k]? with
    | none => s.setReg (F.COD_ARCH_CFG_SOURCE.at k).addr 0
    | some c =>
      let s := (((s.setFld (F.COD_ARCH_CFG_SOURCE.at k) c.source).setFld (F.COD_ARCH_CFG_DECIMATE.at k) c.decimate).setFld (F.COD_ARCH_CFG_ELEM.at k) c.elem).setFld
        (F.COD_ARCH_CFG_VALID.at k) 1
      ((s.setFld (F.COD_ARCH_CFG_ARCH_RAW_KIB.at k) c.rawKib).setFld (F.COD_ARCH_CFG_ARCHIVE.at k) c.archive).setFld (F.COD_ARCH_CFG_INDEX.at k) c.index) s

/-! ### Export (R378, R383, R387, R395) -/

/-- The new table keeps a destination: the place of the entry with its address, link and level address. -/
def keptDest (im : Image) (d : DestCfg) : Option Nat := im.dests.findIdx? (fun n => n.dmac == d.dmac && n.link == d.link && n.level == d.level)

/-- Queues and holds go over to the new table; the records of removed destinations are lost. Virtual times and tags start at 0. -/
def commitQueues (s : State) (old im : Image) : State :=
  let dst := fun (d : Nat) => match old.dests[d]? with | some c => keptDest im c | none => none
  let s := s.exp.queues.foldl (fun s e => if (dst (e.1 / 8)).isNone then s.loseAt (e.1 / 8) e.2.recs else s) s
  let qs := s.exp.queues.foldl (fun (t : Tab EQueue) e => match dst (e.1 / 8) with
    | some i => Tab.put (fun _ => {}) t (i * 8 + e.1 % 8) { recs := e.2.recs }
    | none => t) []
  let ls := s.exp.losses.foldl (fun (t : Tab Loss) e => match dst e.1 with | some i => Tab.put (fun _ => {}) t i e.2 | none => t) []
  let tx := s.exp.tx.foldl (fun (t : Tab (Option TxFrame)) e => match e.2 with
    | some f => (match dst f.dest with | some i => Tab.put none' t e.1 (some { f with dest := i }) | none => t)
    | none => t) []
  let gone := s.exp.losses.filter (fun e => (dst e.1).isNone)
  let frags := s.exp.frags.keep (fun p => (tx.get none' p).isSome)
  let s := { s with exp := { s.exp with queues := qs, losses := ls, v := [], tx := tx, frags := frags } }
  gone.foldl (fun s e =>
    let (r, s) := s.mkRec 12 0x0B 10 s.myNode (2 ^ flagLoss) (lossBody 3 e.2 0)
    (s.toExp 12 r).incFld F.EXP_CNT_LOSS_MARKERS) s

/-- STB_EXP_DEST_DATA, with HELD as the links' states say. -/
def commitDests (s : State) (im : Image) : State :=
  let s := s.clearTable F.EXP_DEST_DATA_DMAC.addr
  (im.dests.zipIdx).foldl (fun s e =>
    let (c, d) := e
    let s := ((s.setFld (F.EXP_DEST_DATA_DMAC.at d) c.dmac).setFld (F.EXP_DEST_DATA_LINK.at d) c.link).setFld (F.EXP_DEST_DATA_VALID.at d) 1
    let s := (s.setFld (F.EXP_DEST_DATA_COARSEN_OK.at d) (b2n c.coarsenOk)).setFld (F.EXP_DEST_DATA_WEIGHT.at d) c.weight
    s.setFld (F.EXP_DEST_DATA_HELD.at d) (b2n (s.linkHeld c.link))) s

/-! ### Steward, cores, packages, job -/

/-- The steward programs start from their tick handlers (R434); with STW out of operation they wait. -/
def commitPrograms (s : State) (im : Image) : State :=
  let s := { s with stw := { s.stw with overruns := [] } }
  let s := (List.range 16).foldl (fun s p =>
    match im.programs[p]? with
    | none => s.setReg (F.STW_PROG_DATA_SERVICE.at p).addr 0
    | some (svc, cores) =>
      ((s.setFld (F.STW_PROG_DATA_SERVICE.at p) svc).setFld (F.STW_PROG_DATA_CORES.at p) cores).setFld (F.STW_PROG_DATA_STATE.at p)
        (if s.works 14 then 1 else 3)) s
  let s := (List.range 4).foldl (fun s m => s.setFld (F.STW_MBOX_CTRL_NO_OWNER.at m) (b2n (s.mboxOwner m).isNone)) s
  s.showQuery.mboxWaiting

/-- Canary seeds (R272). -/
def commitSeeds (s : State) (im : Image) : State :=
  let cores := (im.canarySeeds.zipIdx).foldl (fun t e => Tab.mod (fun _ => {}) t e.2 (fun (c : Core) => { c with lfsr := lfsrSeed e.1 })) s.tdsp.cores
  { s with tdsp := { s.tdsp with cores := cores } }

/-- The image's pattern packages are held from the commit (R345). -/
def commitPackages (s : State) (im : Image) (e : Nat) : State := im.packages_.foldl (fun s b => (s.keepPackage b e).2) s

/-- The job's excluded dies that the image no longer names drop from the set (R453). -/
def commitJob (s : State) : State :=
  { s with stw := { s.stw with job := { s.stw.job with delta := s.stw.job.delta.filter (fun d => s.namesImage d.1) } } }

/-- The store's regions: the replaced map serves the epochs opened under it (R357). -/
def commitMap (s : State) (old : Image) (e : Nat) : State := { s with sto := { s.sto with old := old.regions, oldFrom := e } }

/-- At a tick the replaced map retires when no epoch opened before its end remains (R357). -/
def mapRetire (s : State) : State :=
  if s.sto.old.isEmpty then s
  else if s.aln.epochs.any (fun x => decide (x.epoch < s.sto.oldFrom) && (x.st == 0 || x.st == 1)) ||
          s.fea.rows.any (fun r => decide (r.epoch < s.sto.oldFrom) && !bit r.passes 2) || s.tre.flight.any (fun f => decide (f.2.1 < s.sto.oldFrom)) ||
          s.seqs.any (fun q => q.2.running.any (fun e => decide (e < s.sto.oldFrom)) || q.2.waiting.any (fun e => decide (e < s.sto.oldFrom))) ||
          s.vrd.batches.any (fun b => decide (b.epoch < s.sto.oldFrom)) ||
          [0, 1, 2].any (fun l => s.issuesLevel l && decide (s.lastIssued l + 1 < s.sto.oldFrom)) then s
  else { s with sto := { s.sto with old := [], oldFrom := 0 } }

end State
end Sys2Proof.Machine
end

