-- ==== Sys2Proof/Machine/Commit.lean ====
section
/-! DEFINITION. The commit of a verified image (R425 to R431): arming, shadows, the guard instant, and the switch. -/

namespace Sys2Proof.Machine
namespace State

/-! ### Arming and shadows (R425, R427, R429) -/

/-- The first epoch from `e` on whose opening tick's guard instant, 10 µs before it, has not passed at `now`. -/
def guardAhead (s : State) (e : Nat) (now : Int) : Nat :=
  match s.tim.sched with
  | none => e
  | some c =>
    let step : Int := max 1 ((c.p : Int) * 65536)
    let first := (now + 10000 * 65536 - c.t0 + step - 1) / step + (c.e0 : Int)
    max e first.toNat

/-- STB_MGT_IMG_COMMIT written (R425, R427, R429): ARM in state VERIFIED begins the loading of the shadows; the new schedule's T0 is checked. -/
def commitArm (s : State) (value : Nat) (now : Int) : State :=
  let a := F.MGT_IMG_COMMIT_COMMIT_EPOCH.addr
  let s := s.setReg a (writeReg [(0, 48, .rw), (56, 8, .rw)] (s.reg a) (BitVec.ofNat 64 value))
  if !bit value 48 || s.commitArmed then s
  else
    match s.mgt.verified with
    | none => s.setFld F.MGT_IMG_LEN_CMD_REFUSED 1
    | some im =>
      if s.imgState ≠ 4 then s.setFld F.MGT_IMG_LEN_CMD_REFUSED 1
      else
        let e := s.guardAhead (max (s.fld F.MGT_IMG_COMMIT_COMMIT_EPOCH) (if s.tim.open_ then s.epoch + 1 else 0)) now
        let s := (s.setFld F.MGT_IMG_COMMIT_ARM 1).setImgState 5
        let s := { s with mgt := { s.mgt with aim := e, deferrals := 0, fixed := false } }
        let s := (List.range 84).foldl (fun s c => if s.disabled (16 + c) then s.setShadow (16 + c) true else s) s
        let s := if s.flag F.COD_DICT_CTRL_ACTIVATE then (s.setFld F.COD_DICT_CTRL_ACTIVATE 0).setFld F.COD_DICT_CTRL_ACT_REFUSED 1 else s
        let s := s.treShadow (im.trees.getD {})
        if s.pastSchedule e then s.commitFail 10 else s

/-- The FILL sections copied into their regions of the new map (R425). -/
def fillSections (s : State) (im : Image) : State :=
  (s.sections.filter (fun c => c.fill)).foldl (fun s c =>
    match im.regions[c.region]? with
    | none => s
    | some r =>
      if r.external then memRange true (c.len / (4095 * 64) + 1) r.base c.len 0 s
      else s.storeWrite r.base (s.stg c.offset c.len) false) s

/-- Island `n` has what it needs to complete its shadow: not in reset; TRE's idle bank and COD's idle bank free; STO able to copy (R429, R425). -/
def shadowCan (s : State) (n : Nat) (im : Image) : Bool :=
  decide (n < 100) && s.istate n != 2 && !s.shadowReady n &&
  (n != 6 || !s.flag F.TRE_STATUS_OLD_BUSY) && (n != 8 || s.works 8) && (n != 9 || !s.newDict im || !s.retiring s.cod.idle)

/-- What island `n` loads (R425). -/
def shadowLoad (s : State) (n : Nat) (im : Image) : State :=
  match n with
  | 6 => if s.tre.shadow then s else s.treShadow (im.trees.getD {})
  | 8 => s.fillSections im
  | 9 => if s.newDict im then s.loadDict im else s
  | _ => s

/-! ### The switch (R422, R426) -/

/-- Every island's configuration becomes the image's. -/
def commitTables (s : State) (old im : Image) (e : Nat) : State :=
  let s := ((s.commitRegs im).commitRoutes im).commitIngest im
  let s := ((s.commitAlign im).commitExt).commitModels im
  let s := ((s.commitPolicies im).commitBudget).commitReplicas old im
  let s := ((s.commitArchives old im).commitDict im).commitLinks old im
  let s := ((s.commitSched im).commitPulses im).commitPrograms im
  let s := (s.commitSeeds im).commitPackages im e
  let s := (s.effectiveCap).unmet.ackCap
  (if s.fld F.TRC_STATUS_STATE = 0 then s.traceMode else s).commitJob

/-- Engines that hold state across the switch: history, baseline, windows, trees. -/
def commitEngines (s : State) (old : Option Image) (e : Nat) : State :=
  let s := match old with | some o => s.historyCommit o | none => s
  ((s.baselineCommit).windowCommit old).treSwap e

/-- STB_MGT_IMG_* once COMMITTED is recorded. -/
def recordCommit (s : State) (im : Image) (e : Nat) : State :=
  let s := ((s.setFld F.MGT_IMG_STATUS_COMMITTED 1).setFld F.MGT_IMG_GEN_RUNNING_GEN im.generation).setFld F.MGT_IMG_EPOCH_EPOCH e
  let s := { s with mgt := { s.mgt with stagedLen := 0, verified := none, deferrals := 0 } }
  let s := (((s.setFld F.MGT_IMG_COMMIT_ARM 0).setImgState 0).clearShadows).pend 0 10
  s.trace 0 7 (le 4 im.generation ++ le 6 e)

/-- The switch at the tick that opens epoch `e`; 0 for a first commit, which waits for no tick (R426, R428). -/
def commitSwitch (s : State) (e : Nat) : State :=
  match s.mgt.verified with
  | none => s
  | some im =>
    let old := s.img
    let was := s.grandmaster
    let role := s.reg F.MGT_ROLE_NODE_AGG.addr
    let o := old.getD {}
    let s := s.flushLiveBlocks o
    let s := { s with img := some im, prevImg := old.map (fun x => (e, x)) }
    let s := ((s.commitRole im).commitTree im e).commitQueues o im
    let s := ((s.commitTables o im e).commitDests im).bucketsFull
    let s := ((s.commitEngines old e).commitMap o e).commitGrandmaster was
    let s := if s.reg F.MGT_ROLE_NODE_AGG.addr = role then s else s.roleChanged
    let s := s.recordCommit im e
    if old.isNone && s.fld F.MGT_BOOT_STAGE == 3 then s.setFld F.MGT_BOOT_STAGE 4 else s

/-- Island `n`'s shadow completes (R425): with every shadow the state is READY, and without a running image the switch follows at once (R428). -/
def shadowDone (s : State) (n : Nat) : State :=
  match s.mgt.verified with
  | none => s
  | some im =>
    if !s.commitArmed || !s.shadowCan n im then s
    else
      let s := (s.shadowLoad n im).setShadow n true
      if !s.allShadows then s
      else
        let s := s.setImgState 6
        if s.img.isNone then s.commitSwitch 0 else s

/-- The guard instant (R426, R427): READY fixes the commit, and anything else defers it to the next tick. -/
def guardInstant (s : State) : State :=
  if !s.commitArmed || s.img.isNone || s.mgt.fixed then s
  else if s.imgState = 6 then { s with mgt := { s.mgt with fixed := true } }
  else s.commitDefer (s.mgt.aim + 1)

/-- At the tick that opens epoch `e` (R426): a fixed commit aimed at it switches. -/
def commitTick (s : State) (e : Nat) : State :=
  if s.commitArmed && s.mgt.fixed && s.img.isSome && decide (s.mgt.aim ≤ e) then s.commitSwitch e else s

/-- A forward step skips the commit's tick (R504): its guard is judged at the step, and a ready commit switches at the epoch that the step opens. -/
def commitSkipped (s : State) (e : Nat) : State :=
  if !s.commitArmed || s.img.isNone || e < s.mgt.aim then s
  else if s.mgt.fixed || s.imgState == 6 then s.commitSwitch e
  else s.commitDefer (e + 1)

/-- CANCEL (R427): before the guard instant the shadows are discarded and the image is VERIFIED again. -/
def commitCancel (s : State) : State :=
  if !s.commitArmed || s.mgt.fixed then s
  else ((s.clearShadows).setFld F.MGT_IMG_COMMIT_ARM 0).setImgState 4

end State

/-- COMMIT_ARM (R425): the value written to STB_MGT_IMG_COMMIT, and the instant. -/
def execCommitArm (value : Nat) (now : Int) (s : State) : Host.Outcome State Fault Refusal := s.run (fun s => (s.atTime now).commitArm value now)

/-- SHADOW_READY (R425). -/
def execShadowReady (island : Nat) (s : State) : Host.Outcome State Fault Refusal := s.run (fun s => s.shadowDone island)

/-- GUARD_INSTANT (R426). -/
def execGuardInstant (s : State) : Host.Outcome State Fault Refusal := s.run (fun s => s.guardInstant)

/-- COMMIT_CANCEL (R427). -/
def execCommitCancel (s : State) : Host.Outcome State Fault Refusal := s.run (fun s => s.commitCancel)

end Sys2Proof.Machine
end

