-- ==== Sys2Proof/Machine/Register.lean ====
section
/-! DEFINITION. Register accesses (R8 to R12, R43, R44, R91, R119, R492 to R498): what each register of the block window shows, and what
a read and a write of it do. -/

namespace Sys2Proof.Machine

/-- An entry of the profile table as four words (R274). -/
def Profile.bytes (p : Profile) : Bytes :=
  le 2 p.id ++ le 1 (p.fmtA % 16 + p.fmtB % 16 * 16) ++ le 1 (p.fmtC % 16) ++ le 1 (p.model % 16) ++ le 1 (p.group % 32) ++
    le 1 (b2n p.repro + 2 * b2n p.ftz + 4 * b2n p.ovfSat + 8 * b2n p.cLast) ++ le 1 (p.round % 4) ++ le 1 p.ulpTol ++ le 1 (p.relLog2 % 64) ++
    le 1 (b2n p.aKMajor + 2 * b2n p.bKMajor + 4 * b2n p.cRowMajor) ++ zeros 21

/-- Bytes in units of `u`, rounded up. -/
def unitsOf (u n : Nat) : Nat := (n + u - 1) / u

namespace State

/-! ### What the registers show -/

/-- A word of an entry of the associative memory (STB_TRE_ENTRY_DATA). -/
def treeEntryWord (s : State) (idx : Nat) : Nat :=
  match (s.tbank (idx / 2 ^ 19 % 2)).tables.entries.lookup (idx % 2 ^ 19) with
  | none => 0
  | some e =>
    let w := idx / 2 ^ 20 % 16
    let v := if w < 8 then e.value else e.mask
    v % 2 ^ 480 / 2 ^ (64 * (w % 8)) % 2 ^ 64

/-- The leaf word of an entry (STB_TRE_LEAF). -/
def treeLeafWord (s : State) (idx : Nat) : Nat :=
  match (s.tbank (idx / 2 ^ 19 % 2)).tables.entries.lookup (idx % 2 ^ 19) with
  | none => 0
  | some e => e.leaf % 2 ^ 32 + e.cls % 16 * 2 ^ 32 + e.cause % 16 * 2 ^ 36 + e.feature % 256 * 2 ^ 40 + b2n e.valid * 2 ^ 48

/-- A split and its plan (STB_TRE_PLAN_DATA). -/
def treePlanWord (s : State) (idx : Nat) : Nat :=
  match (s.tbank (idx / 2 ^ 15 % 2)).tables.plans[idx / 2 ^ 9 % 64]? with
  | none => 0
  | some p =>
    let split := match p.splits[idx % 2 ^ 9]? with
      | some (slot, th) => slot % 256 + th % 65536 * 2 ^ 8 + 2 ^ 24
      | none => 0
    split + min 511 p.splits.length * 2 ^ 32 + p.cls % 4 * 2 ^ 41

/-- An ensemble and a base value (STB_TRE_ENS_DATA). -/
def treeEnsWord (s : State) (idx : Nat) : Nat :=
  match (s.tbank (idx / 8 % 2)).tables.ensembles[idx % 8]? with
  | none => 0
  | some e =>
    e.trees.length % 2 ^ 14 + (e.classes - 1) % 16 * 2 ^ 14 + e.link % 4 * 2 ^ 18 + b2n e.average * 2 ^ 20 + e.explK % 16 * 2 ^ 21 +
      e.cls % 4 * 2 ^ 25 + 2 ^ 27 + e.bases.getD (idx / 16) 0 % 2 ^ 32 * 2 ^ 32

/-- The region that STB_STO_MAP_INDEX selects, in the running or the retiring map (R357). -/
def mapRegion (s : State) (idx : Nat) : Option Region :=
  if bit idx 10 then s.sto.old[idx % 1024]? else s.image.regions[idx % 1024]?

/-- STB_STO_MAP_DATA0. -/
def mapWord0 (s : State) (idx : Nat) : Nat :=
  match s.mapRegion idx with
  | none => 0
  | some r => r.kind % 256 + b2n r.external * 2 ^ 8 + 2 ^ 9 + writerOf r.kind % 128 * 2 ^ 10 + r.base / 4096 % 2 ^ 36 * 2 ^ 28

/-- STB_STO_MAP_DATA1. -/
def mapWord1 (s : State) (idx : Nat) : Nat :=
  (match s.mapRegion idx with | some r => r.size / 4096 % 2 ^ 36 + r.inst % 65536 * 2 ^ 36 | none => 0) + b2n (!s.sto.old.isEmpty) * 2 ^ 63

/-- A word of the profile table (STB_ARB_PROF_DATA); 0 for a profile that the image does not declare. -/
def profileWord (s : State) (idx : Nat) : Nat :=
  match s.image.profiles.find? (fun p => p.id == idx % 2 ^ 15) with
  | some p => bytesAt p.bytes (8 * (idx / 2 ^ 15)) 8
  | none => 0

/-- STB_MGT_IMG_SHADOW0 or SHADOW1: the bit of a disabled core reads 1. -/
def shadowView (s : State) (hi : Bool) (w : Word) : Word :=
  let off := 64 * b2n hi
  (List.range (if hi then 36 else 64)).foldl (fun w i => if s.disabled (off + i) then setBits w i 1 1 else w) w

/-- The buckets of a link and class (STB_EXP_BUCKETS), signed. -/
def bucketWord (s : State) (idx : Nat) : Nat :=
  let l := idx % 16
  let c := idx / 16
  toField 32 (clampSigned 32 (s.exp.linkBits.get zeroI l)) +
    (if c < 5 then toField 32 (clampSigned 32 (s.exp.classBits.get zeroI (l * 8 + c))) * 2 ^ 32 else 0)

/-- The register at address `addr` as it stands, entry address `a` at index `idx`: the bank's value with the fields that follow other state. -/
def view (s : State) (addr a idx : Nat) : Word :=
  let w := s.reg a
  let put := fun (f : Fld) (v : Nat) (w : Word) => setBits w f.lo f.w v
  match addr with
  | 0x1538 => s.shadowView false w
  | 0x1540 => s.shadowView true w
  | 0x81010 => put F.TIM_SERVO_STATE s.tim.servo.st (put F.TIM_SERVO_RATE (toField 40 s.tim.servo.rate) w)
  | 0x81300 => put F.TIM_GM_GM (b2n s.grandmaster) (put F.TIM_GM_PPS_LOCKED (b2n (s.grandmaster && s.ppsSource && s.tim.servo.st == 3)) w)
  | 0x181208 => put F.ING_QUEUE_DATA_USED_KIB (unitsOf 1024 (recsSize (s.ing.queues.get nil idx))) w
  | 0x301010 => put F.TRE_BANK0_LOADING (b2n (s.tre.shadow && s.commitArmed && !s.shadowReady 6 && s.fld F.TRE_STATUS_ACTIVE_BANK == 1)) w
  | 0x301018 => put F.TRE_BANK0_LOADING (b2n (s.tre.shadow && s.commitArmed && !s.shadowReady 6 && s.fld F.TRE_STATUS_ACTIVE_BANK == 0)) w
  | 0x301108 => BitVec.ofNat 64 (s.treeEntryWord idx)
  | 0x301110 => BitVec.ofNat 64 (s.treeLeafWord idx)
  | 0x301208 => BitVec.ofNat 64 (s.treePlanWord idx)
  | 0x301308 => BitVec.ofNat 64 (s.treeEnsWord idx)
  | 0x401108 => BitVec.ofNat 64 (s.mapWord0 idx)
  | 0x401110 => BitVec.ofNat 64 (s.mapWord1 idx)
  | 0x481210 => put F.COD_ARCH_STATUS_LAG_EPOCHS (min 0xFFFF (s.epoch - s.fld (F.COD_ARCH_STATUS_NEWEST.at idx))) w
  | 0x581108 => BitVec.ofNat 64 (s.profileWord idx)
  | 0x601008 =>
    put F.EXP_STATUS_HOLD_USED_MIB (unitsOf (2 ^ 20) (s.shareUsed 0 + s.shareUsed 1))
      (put F.EXP_STATUS_XBUF_USED_MIB (unitsOf (2 ^ 20) (s.shareUsed 2)) w)
  | 0x601118 => BitVec.ofNat 64 (s.bucketWord idx)
  | 0x702008 => s.poolWord false
  | 0x702010 => s.poolWord true
  | 0x781108 => s.packageWord idx
  | _ =>
    if 0x81200 ≤ addr ∧ addr < 0x81280 ∧ addr % 0x20 = 0 then setBits w 8 5 (s.tim.caps.get nil ((addr - 0x81200) / 0x20)).length
    else if 0x801000 ≤ addr ∧ addr % 0x80000 = 0x1000 then put F.Tnn_TILE_PARKED (b2n (s.mgt.parked.contains (addr / 0x80000))) w
    else w

/-- The index selects a defined entry (R497). -/
def entryDefined (s : State) (addr idx : Nat) : Bool :=
  match addr with
  | 0x1408 => decide (idx < s.image.routes.length)
  | 0x1640 => let (b, w) := (idx % 4, idx / 4); decide (w < (match b with | 0 => 512 | 1 => 38 | _ => 12))
  | 0x81408 => decide (idx < s.image.timeLinks.length)
  | 0x81418 => decide (idx < s.image.triangles.length)
  | 0x181208 => decide (idx < s.image.ingestQueues)
  | 0x201108 => decide (idx < 3)
  | 0x201110 => decide (idx < 3)
  | 0x201118 => decide (idx < 3)
  | 0x381108 => decide (idx < 3)
  | 0x481208 => decide (idx < s.image.archives.length)
  | 0x481210 => decide (idx < s.image.archives.length)
  | 0x481218 => decide (idx < s.image.archives.length)
  | 0x601108 => decide (idx < 12)
  | 0x601110 => decide (idx % 16 < 12) && decide (idx / 16 < 5)
  | 0x601118 => decide (idx % 16 < 12)
  | 0x601208 => decide (idx < s.image.dests.length)
  | 0x601210 => decide (idx < s.image.dests.length)
  | 0x681108 => decide (idx < 100)
  | 0x702308 => decide (idx < s.image.replicas.length)
  | 0x702420 => decide (2 ≤ idx) && decide (idx ≤ 5)
  | 0x702428 => decide (2 ≤ idx) && decide (idx ≤ 5)
  | 0x702430 => decide (2 ≤ idx) && decide (idx ≤ 5)
  | _ => if 0x181108 ≤ addr ∧ addr ≤ 0x181140 then decide (idx < s.image.streams.length) else true

/-- The row, the index and the entry address of the register at `addr`; none for an offset without a register and for a disabled core's registers
other than _ID and _STATUS (R43). -/
def target (s : State) (addr : Nat) : Option (RegRow × Nat × Nat) :=
  let n := addr / 0x80000
  let off := addr % 0x80000
  if s.disabled n && off != 0 && off != 0x10 then none
  else (islandRow n off).map (fun row => let i := row.index (fun x => s.reg (n * 0x80000 + x)); (row, i, entryAddr addr i))

/-- An index register advances by one word (R497): STB_MGT_ID_INDEX and STB_STW_MBOX_INDEX alone. -/
def advance (s : State) (addr : Nat) : State :=
  match addr with
  | 0x1640 => s.setFld F.MGT_ID_INDEX_WORD (s.fld F.MGT_ID_INDEX_WORD + 1)
  | 0x701108 => s.setFld F.STW_MBOX_INDEX_WORD (s.fld F.STW_MBOX_INDEX_WORD + 1)
  | _ => s

/-! ### Reading -/

/-- A read of a register in range: the value as `busResp` carries it, with its effects. `cyc` is what _CYC counts now, 0 for a disabled core (R412). -/
def regRead (s : State) (addr : Nat) (now : Int) (cyc : Nat) : Nat × State :=
  let s := s.perf 0 0x100 1
  let old := s.out
  let taken := fun (t : State) => (match t.out.getLast? with | some (.busResp _ v) => v | _ => 0, { t with out := old })
  if addr % 0x80000 = 0x50 then (if s.disabled (addr / 0x80000) then 0 else cyc % 2 ^ 64, s)
  else if addr = 0x81000 then taken (s.timeLoRead now)
  else if 0x81200 ≤ addr ∧ addr < 0x81280 ∧ addr % 0x20 = 8 then taken (s.captureRead ((addr - 0x81200) / 0x20))
  else
    match s.target addr with
    | none => (0, s)
    | some (row, i, a) =>
      if s.entryDefined addr i then ((readReg row.flds (s.view addr a i)).toNat, (s.setReg a (afterRead row.flds (s.reg a))).advance addr)
      else (0, s.advance addr)

/-! ### Writing -/

/-- A register stored by its access codes. -/
def regStore (s : State) (addr : Nat) (v : Word) : State :=
  match s.target addr with
  | none => s
  | some (row, i, a) => if s.entryDefined addr i then s.setReg a (writeReg row.flds (s.reg a) v) else s

/-- _CTRL written (R468, R470, R473). -/
def islandCtrl (s : State) (n : Nat) (v : Nat) : State :=
  if s.disabled n then s
  else
    let s := s.holdWrite n (bit v 3)
    let s := if bit v 0 then s.fence n else s
    let s := if bit v 1 then s.unfence n else s
    if bit v 2 then s.islandReset n else s

/-- STB_MGT_ID_DATA written: buffers 0 and 1 alone take it. -/
def idDataWrite (s : State) (v : Word) : State :=
  (if s.fld F.MGT_ID_INDEX_BUF < 2 then s.regStore 0x1640 v else s).advance 0x1640

/-- STB_STW_MBOX_DATA written: the request buffer alone takes it, and not while its mailbox is BUSY (R438). -/
def mboxDataWrite (s : State) (v : Word) : State :=
  let m := s.fld F.STW_MBOX_INDEX_MBOX
  (if s.flag F.STW_MBOX_INDEX_RESP || s.flag (F.STW_MBOX_CTRL_BUSY.at m) then s else s.regStore 0x701108 v).advance 0x701108

/-- STB_STW_MBOX_CTRL written: REQ_LEN, DONE, and DOORBELL (R438). -/
def mboxCtrlWrite (s : State) (v : Word) : State :=
  let m := s.fld F.STW_MBOX_INDEX_MBOX
  let d := s.flag (F.STW_MBOX_CTRL_DOORBELL.at m)
  let s := (s.regStore 0x701110 v).setFld (F.STW_MBOX_CTRL_DOORBELL.at m) (b2n d)
  if bit v.toNat 13 then s.doorbell m else s

/-- STB_COD_DICT_CTRL written (R367, R429): IDLE_ENTRIES is a write to the idle bank. -/
def dictCtrlWrite (s : State) (v : Word) : State :=
  let n := s.fld F.COD_DICT_CTRL_IDLE_ENTRIES
  let on := s.flag F.COD_DICT_CTRL_ACTIVATE
  let s := (s.regStore 0x481100 v).setFld F.COD_DICT_CTRL_ACTIVATE (b2n on)
  let s := if s.fld F.COD_DICT_CTRL_IDLE_ENTRIES ≠ n ∧ (s.retiring s.cod.idle ∨ s.commitArmed) then
      (s.setFld F.COD_DICT_CTRL_IDLE_ENTRIES n).setFld F.COD_DICT_CTRL_LOAD_REFUSED 1
    else s
  if bit v.toNat 2 then s.dictActivate else s

/-- STB_TRC_CTRL written (R401, R402). -/
def traceCtrlWrite (s : State) (v : Word) : State :=
  let s := (s.regStore 0x681000 v).traceMode
  let s := if bit v.toNat 3 then s.rearmWrite else s
  if bit v.toNat 2 then s.trigWrite else s

/-- STB_TRC_SNAP written (R408). -/
def snapWrite (s : State) (v : Word) : State :=
  let was := s.fld F.TRC_SNAP_EPOCH
  let req := s.flag F.TRC_SNAP_REQ
  let s := (s.regStore 0x681030 v).setFld F.TRC_SNAP_REQ (b2n req)
  if bit v.toNat 48 then (s.setIf (s.flag F.TRC_SNAP_BUSY) F.TRC_SNAP_EPOCH was).snapRequest (v.toNat % 2 ^ 48) else s

/-- STB_VRD_BUDGET written (R314, R316). -/
def budgetWrite (s : State) (v : Word) : State := (s.regStore 0x381300 v).sparesWrite (v.toNat / 2 ^ 16 % 2 ^ 16)

/-- STB_MGT_IMG_CTRL written (R424, R427). -/
def imgCtrlWrite (s : State) (v : Nat) : State :=
  let s := if bit v 1 then s.commitCancel else s
  if bit v 0 then s.imageVerify else s

/-- A write of a register of the common block (R493). -/
def commonWrite (s : State) (n off : Nat) (v : Nat) : State :=
  let addr := n * 0x80000 + off
  let w := BitVec.ofNat 64 v
  match off with
  | 0x08 => s.islandCtrl n v
  | 0x18 => if bit v 16 && !s.disabled n then s.errFirstClear n else s
  | 0x28 => s.intEnWrite n v
  | 0x38 => s.injectArm n w
  | 0x40 => s.regStore addr (clampQuiet w)
  | _ => s.regStore addr w

/-- A write of a register in range (R10 to R12), with the effects that its chapter gives it. -/
def regWrite (s : State) (addr v : Nat) (now : Int) : State :=
  let s := s.perf 0 0x100 1
  let w := BitVec.ofNat 64 v
  if addr % 0x80000 < 0x1000 then s.commonWrite (addr / 0x80000) (addr % 0x80000) (v % 2 ^ 64)
  else
    match addr with
    | 0x1200 => s.capWrite v
    | 0x1508 => s.imageLoad v
    | 0x1510 => s.imgCtrlWrite v
    | 0x1518 => (s.atTime now).commitArm v now
    | 0x1640 => s.idDataWrite w
    | 0x1648 => s.idCtrl v
    | 0x81008 => s.timeSet (v % 2 ^ 32)
    | 0x81408 => if s.entryDefined 0x81408 (s.fld F.TIM_ASYM_INDEX_LINK) then s.asymWrite (s.fld F.TIM_ASYM_INDEX_LINK) v else s
    | 0x281108 => s.extWrite (s.fld F.FEA_EXT_INDEX_ENTRY) (v % 2 ^ 64)
    | 0x381300 => s.budgetWrite w
    | 0x481100 => s.dictCtrlWrite w
    | 0x481110 => s.dictWrite v
    | 0x681000 => s.traceCtrlWrite w
    | 0x681030 => s.snapWrite w
    | 0x701108 => s.mboxDataWrite w
    | 0x701110 => s.mboxCtrlWrite w
    | _ =>
      if 0x81100 ≤ addr ∧ addr < 0x81200 ∧ addr % 0x20 = 0 then s.pulseModeWrite ((addr - 0x81100) / 0x20) v now
      else s.regStore addr w

/-! ### The two windows (R9, R119, R498) -/

/-- A read on the management bus. -/
def busRead (s : State) (addr bytes : Nat) (now : Int) (cyc : Nat) : State :=
  if badAccess addr bytes then s.busError
  else let (v, s) := s.regRead addr now cyc; s.emit (.busResp false v)

/-- A write on the management bus. -/
def busWrite (s : State) (addr bytes v : Nat) (now : Int) : State :=
  if badAccess addr bytes then s.busError else (s.regWrite addr v now).emit (.busResp false 0)

/-- A Potik window access that is aligned, of 32 or 64 bits (R9). -/
def dieAccess (addr bytes : Nat) : Bool := (bytes == 4 || bytes == 8) && addr % bytes == 0 && decide (addr < 0x10000)

/-- A read in die space. -/
def dieRead (s : State) (die addr bytes : Nat) (now : Int) : State :=
  if !dieAccess addr bytes then s
  else s.onPtk die (fun p => let (v, p) := (p.atTime now).read addr bytes; p.emit (.dieResp p.die v))

/-- A write in die space. -/
def dieWrite (s : State) (die addr bytes v : Nat) (now : Int) : State :=
  if !dieAccess addr bytes then s
  else
    let (f, s) := s.draw
    s.onPtk die (fun p => (p.atTime now).access f addr bytes v)

end State

/-- REGISTER_READ (R10): of the block window, or of the Potik window of a die. -/
def execRegisterRead (die : Option Nat) (addr bytes : Nat) (now : Int) (cyc : Nat) (s : State) : Host.Outcome State Fault Refusal :=
  s.run (fun s => match die with
    | none => s.busRead addr bytes now cyc
    | some d => s.dieRead d addr bytes now)

/-- REGISTER_WRITE (R10): of the block window, or of the Potik window of a die. -/
def execRegisterWrite (die : Option Nat) (addr bytes value : Nat) (now : Int) (s : State) : Host.Outcome State Fault Refusal :=
  s.run (fun s => match die with
    | none => s.busWrite addr bytes value now
    | some d => s.dieWrite d addr bytes value now)

/-- MAILBOX_DOORBELL (R438). -/
def execMailboxDoorbell (mailbox : Nat) (s : State) : Host.Outcome State Fault Refusal := s.run (fun s => s.doorbell (mailbox % 4))

end Sys2Proof.Machine
end

