-- ==== Sys2Proof/Machine/Query.lean ====
section
/-! DEFINITION. The query service's operations (R439 to R441). The request at the front of the queue is answered, each operation by a command of its
own. -/

namespace Sys2Proof.Machine

/-- A register of STB_MGT_IMG_* (R440). -/
def imgRegister (addr : Nat) : Bool := decide (0x1500 ≤ addr) && decide (addr < 0x1548)

/-- Bits packed eight to a byte, the first in bit 0. -/
def packBits : List Bool → Bytes
  | b0 :: b1 :: b2 :: b3 :: b4 :: b5 :: b6 :: b7 :: rest =>
    BitVec.ofNat 8 (b2n b0 + 2 * b2n b1 + 4 * b2n b2 + 8 * b2n b3 + 16 * b2n b4 + 32 * b2n b5 + 64 * b2n b6 + 128 * b2n b7) :: packBits rest
  | [] => []
  | l => [BitVec.ofNat 8 ((l.zipIdx.map (fun e => b2n e.1 * 2 ^ e.2)).sum)]

namespace State

/-- The front request, taken from the queue, when it is of operation `op` and the service runs (R441): its body, and how to answer it. -/
def queryFront (s : State) (op : Nat) : Option (Query × Bytes × State) :=
  match s.stw.queries with
  | [] => none
  | q :: rest =>
    if !s.serviceRuns 0 || bytesAt q.req 1 1 != op then none
    else some (q, q.req.drop 12, { s with stw := { s.stw with queries := rest } })

/-- The operation is answered DENIED unless QUERY_MASK names it (R440); otherwise as `f` says: a status, a body, the state. -/
def query (s : State) (op : Nat) (f : Bytes → State → Nat × Bytes × State) : State :=
  match s.queryFront op with
  | none => s
  | some (q, body, s) =>
    if !bit s.image.queryMask op then s.queryReply q 3 []
    else let (st, out, s) := f body s; s.queryReply q st out

/-- The status of a register operation before anything is performed: RANGE, DENIED, or 0 (R440). -/
def regQuery (addr count : Nat) : Nat :=
  if addr % 8 ≠ 0 ∨ count = 0 ∨ 64 < count ∨ 0x4000000 < addr + 8 * count then 5
  else if (List.range count).any (fun i => imgRegister (addr + 8 * i)) then 3
  else 0

/-- One register read; above the last island a bus error, which reads 0 (R43, R440). -/
def queryRead (s : State) (addr : Nat) (now : Int) (cyc : Nat) : Bool × Nat × State :=
  if 0x3200000 ≤ addr then (true, 0, s.raise 0 6 0) else (false, s.regRead addr now cyc)

/-- READ_REG (R440). `cycs` are the readings of _CYC by place. -/
def readReg' (now : Int) (cycs : List Nat) (b : Bytes) (s : State) : Nat × Bytes × State :=
  let addr := bytesAt b 0 4
  let n := bytesAt b 4 2
  match regQuery addr n with
  | 0 =>
    let (bad, out, s) := (List.range n).foldl (fun (acc : Bool × Bytes × State) i =>
      let (e, v, s) := acc.2.2.queryRead (addr + 8 * i) now (cycs.getD i 0)
      (acc.1 || e, acc.2.1 ++ le 8 v, s)) (false, [], s)
    (if bad then 7 else 0, out, s)
  | st => (st, [], s)

/-- WRITE_REG (R440). -/
def writeReg' (now : Int) (b : Bytes) (s : State) : Nat × Bytes × State :=
  let addr := bytesAt b 0 4
  let n := bytesAt b 4 2
  match regQuery addr n with
  | 0 =>
    let (bad, s) := (List.range n).foldl (fun (acc : Bool × State) i =>
      let a := addr + 8 * i
      if 0x3200000 ≤ a then (true, acc.2.raise 0 6 0) else (acc.1, acc.2.regWrite a (bytesAt b (6 + 8 * i) 8) now)) (false, s)
    (if bad then 7 else 0, [], s)
  | st => (st, [], s)

/-- READ_REGION (R440): the bytes, poisoned words as 0, and the poison map. The contents of a region in the memory stacks come through the gateway,
`none` when it refuses. -/
def readRegion (ext : Option (Bytes × List Bool)) (b : Bytes) (s : State) : Nat × Bytes × State :=
  let off := bytesAt b 2 8
  let n := bytesAt b 10 4
  match s.image.regions[bytesAt b 0 2]? with
  | none => (5, [], s)
  | some r =>
    if 57344 < n ∨ r.size < off + n then (5, [], s)
    else if !s.works 8 then (7, [], s)
    else
      let a := r.base + off
      let words := (List.range ((a + n + 7) / 8 - a / 8)).map (· + a / 8)
      if r.external then
        match ext with
        | none => (7, [], s)
        | some (d, ps) => (0, (d ++ zeros n).take n ++ packBits ((ps ++ List.replicate words.length false).take words.length), s)
      else
        let ps := words.map (fun w => s.sto.poison.get no w)
        let bs := (List.range n).map (fun i => if s.sto.poison.get no ((a + i) / 8) then 0 else s.storeByte (a + i))
        (0, bs ++ packBits ps, s)

/-- ARCHIVE_PIN (R375, R440). -/
def archivePin (b : Bytes) (s : State) : Nat × Bytes × State :=
  let region := bytesAt b 0 2
  let place := bytesAt b 2 4
  if s.image.archives.isEmpty then (6, [], s)
  else
    match s.image.archives.findIdx? (fun c => c.index == region) with
    | none => (5, [], s)
    | some k =>
      if ((s.arch k).entries.get none' place).isNone then (5, [], s)
      else match s.pin k place with
        | (some p, s) => (0, le 1 p, s)
        | (none, s) => (7, [], s)

/-- ARCHIVE_UNPIN (R375, R440). -/
def archiveUnpin (b : Bytes) (s : State) : Nat × Bytes × State :=
  let p := bytesAt b 0 1
  if 4 ≤ p then (5, [], s)
  else if (s.cod.pins.get none' p).isNone then (7, [], s)
  else (0, [], s.unpin p)

/-- The table entry that an external code takes: the one with its subject and slot, else the first that holds nothing. -/
def extPlace (s : State) (w : Nat) : Option Nat :=
  let word := fun k => (s.reg (F.FEA_EXT_DATA_SUBJECT.at k).addr).toNat
  match (List.range 4096).find? (fun k => word k != 0 && word k % 2 ^ 40 == w % 2 ^ 40) with
  | some k => some k
  | none => (List.range 4096).find? (fun k => word k == 0)

/-- EXT_WRITE (R218, R440). -/
def extQuery (b : Bytes) (s : State) : Nat × Bytes × State :=
  if s.image.features.isEmpty then (6, [], s)
  else
    let (full, s) := (List.range (b.length / 8)).foldl (fun (acc : Bool × State) i =>
      let w := bytesAt b (8 * i) 8
      match acc.2.extPlace w with
      | some k => (acc.1, acc.2.extWrite k w)
      | none => (true, acc.2)) (false, s)
    (if full then 7 else 0, [], s)

/-- SET_BUDGET (R314, R440): a field of all ones is left unchanged. -/
def setBudget (b : Bytes) (s : State) : Nat × Bytes × State :=
  if !s.masterOf .group then (3, [], s)
  else
    let s := if bytesAt b 0 2 = 0xFFFF then s else s.sparesWrite (bytesAt b 0 2)
    let s := s.setIf (bytesAt b 2 1 != 0xFF) F.VRD_BUDGET_RATE (bytesAt b 2 1)
    (0, [], s.setIf (bytesAt b 3 1 != 0xFF) F.VRD_BUDGET_RESERVE (bytesAt b 3 1))

/-- The bytes of a package received so far, without a gap, from the first. -/
def joinParts : Nat → List (Nat × Bytes) → Bytes → Bytes
  | 0, _, acc => acc
  | fuel + 1, ps, acc =>
    match ps.find? (fun p => decide (p.1 ≤ acc.length) && decide (acc.length < p.1 + p.2.length)) with
    | none => acc
    | some p => joinParts fuel ps (acc ++ p.2.drop (acc.length - p.1))

/-- PACKAGE_PART (R346, R347, R440): the part that completes header and body has the package checked, kept and sent down the standing tree, with the
activation epoch and the deadline that the service gives it. -/
def packagePart (act deadline : Nat) (b : Bytes) (s : State) : Nat × Bytes × State :=
  if s.image.packageKey.isNone then (6, [], s)
  else if !s.masterOf .system then (7, [], s)
  else
    let id := bytesAt b 0 4
    let ps := (s.stw.pkgParts.get nil id).filter (fun p => p.1 != bytesAt b 4 4) ++ [(bytesAt b 4 4, b.drop 8)]
    let whole := joinParts (ps.length + 1) ps []
    let need := 160 + bytesAt whole 28 4
    if 160 + 16 * 2 ^ 20 < need then (5, [], s)
    else if whole.length < 160 ∨ whole.length < need then
      (0, [], { s with stw := { s.stw with pkgParts := s.stw.pkgParts.put nil id ps } })
    else
      let s := { s with stw := { s.stw with pkgParts := s.stw.pkgParts.put nil id [] } }
      let p := whole.take need
      match s.keepPackage p act with
      | (false, s) => (7, [], s)
      | (true, s) => (0, [], (s.openBcast 4 act deadline p).holdBcast 4)

/-- TRIGGER (R402, R440). -/
def triggerQuery (s : State) : Nat × Bytes × State :=
  if s.fld F.TRC_CTRL_MODE ≠ 1 then (6, [], s)
  else (if s.fld F.TRC_STATUS_STATE = 1 then 0 else 7, [], s.trigWrite)

/-- SNAPSHOT (R408, R440): refused while one is busy. -/
def snapshotQuery (b : Bytes) (s : State) : Nat × Bytes × State :=
  (if s.flag F.TRC_SNAP_BUSY then 7 else 0, [], s.snapRequest (bytesAt b 0 6))

/-- STATUS (R440). -/
def statusQuery (s : State) : Nat × Bytes × State :=
  (0, le 4 (s.fld F.MGT_IMG_GEN_RUNNING_GEN) ++ le 8 (s.reg F.MGT_ROLE_NODE_AGG.addr).toNat ++ le 6 s.epoch ++
    le 8 (s.reg F.MGT_IMG_STATUS_STATE.addr).toNat, s)

end State

/-- QUERY_REQUEST (R441): header and body of an MCTP query, after the enterprise number. -/
def execQueryRequest (request : Bytes) (s : State) : Host.Outcome State Fault Refusal :=
  s.run (fun s => s.queryReceive { mbox := false, req := request })

/-- READ_REG (R440). -/
def execReadReg (now : Int) (cycs : List Nat) (s : State) : Host.Outcome State Fault Refusal :=
  s.run (fun s => s.query 1 (State.readReg' now cycs))

/-- WRITE_REG (R440). -/
def execWriteReg (now : Int) (s : State) : Host.Outcome State Fault Refusal := s.run (fun s => s.query 2 (State.writeReg' now))

/-- READ_REGION (R440). -/
def execReadRegion (ext : Option (Bytes × List Bool)) (s : State) : Host.Outcome State Fault Refusal :=
  s.run (fun s => s.query 3 (State.readRegion ext))

/-- ARCHIVE_PIN (R440). -/
def execArchivePin (s : State) : Host.Outcome State Fault Refusal := s.run (fun s => s.query 4 State.archivePin)

/-- ARCHIVE_UNPIN (R440). -/
def execArchiveUnpin (s : State) : Host.Outcome State Fault Refusal := s.run (fun s => s.query 5 State.archiveUnpin)

/-- EXT_WRITE (R440). -/
def execExtWrite (s : State) : Host.Outcome State Fault Refusal := s.run (fun s => s.query 6 State.extQuery)

/-- SET_BUDGET (R440). -/
def execSetBudget (s : State) : Host.Outcome State Fault Refusal := s.run (fun s => s.query 7 State.setBudget)

/-- PACKAGE_PART (R440). -/
def execPackagePart (act deadline : Nat) (s : State) : Host.Outcome State Fault Refusal :=
  s.run (fun s => s.query 8 (State.packagePart act deadline))

/-- TRIGGER (R440). -/
def execTrigger (s : State) : Host.Outcome State Fault Refusal := s.run (fun s => s.query 9 (fun _ => State.triggerQuery))

/-- SNAPSHOT (R440). -/
def execSnapshot (s : State) : Host.Outcome State Fault Refusal := s.run (fun s => s.query 10 State.snapshotQuery)

/-- STATUS (R440). -/
def execStatus (s : State) : Host.Outcome State Fault Refusal := s.run (fun s => s.query 11 (fun _ => State.statusQuery))

end Sys2Proof.Machine
end

