-- ==== Sys2Proof/Machine/Tick.lean ====
section
/-! DEFINITION. The Equinox tick of the block and of a Potik (R76 to R79), the step that follows it (R74, R504), the first tick (R481, R483), and
the Solstice snapshot (R408 to R410). -/

namespace Sys2Proof.Machine

/-- The epoch that opens at `t`, when `t` is a tick of the schedule (R76). -/
def Sched.at_ (c : Sched) (t : Int) : Option Nat :=
  let p : Int := (c.p : Int) * 65536
  if 0 < p ∧ c.t0 ≤ t ∧ (t - c.t0) % p = 0 then some (c.e0 + ((t - c.t0) / p).toNat) else none

/-- The last epoch that the schedule opens up to `t`. -/
def Sched.upTo (c : Sched) (t : Int) : Option Nat :=
  let p : Int := (c.p : Int) * 65536
  if 0 < p ∧ c.t0 ≤ t then some (c.e0 + ((t - c.t0) / p).toNat) else none

namespace State

/-! ### What a tick does (R76) -/

/-- The canary figures of the closed epoch (R273): count and mean of d by layer; a mean above 2^-CANARY_ALARM_LOG2 sets DRIFT and raises
island 14's interrupt. -/
def canaryTick (s : State) : State :=
  let sums := s.tdsp.canarySum
  let s := { s with tdsp := { s.tdsp with canarySum := [] } }
  let limit := (127 - getBits s.tdsp.cfg 24 6) * 2 ^ 23
  (List.range 64).foldl (fun s l =>
    let x := sums.get (fun _ => (0, 0)) l
    let mean := if x.1 = 0 then 0 else divFp32 x.2 (intFp32 x.1)
    let s := (s.setFld (F.STW_TDSP_CANARY_DATA_MEAN_D.at l) mean).setFld (F.STW_TDSP_CANARY_DATA_COUNT.at l) (min 0xFFFF x.1)
    if 0 < x.1 && !leFp32 mean limit then (s.setFld (F.STW_TDSP_CANARY_DATA_DRIFT.at l) 1).pend 14 8 else s) s

/-- The node aggregator's schedule written into its armed Potik units at a change of it (R79). -/
def tellSched (s : State) : State :=
  match s.tim.pending <|> s.tim.sched with
  | none => s
  | some n => if s.works 14 then s.stw.armed.foldl (fun s d =>
      s.onPtk d (fun p => { p with schedNext := if p.sched = some n then none else some n })) s
    else s

/-- A pending schedule whose origin has come takes over (R77). -/
def takeSched (s : State) (e : Nat) : State :=
  if s.tim.pending.any (fun n => decide (n.e0 ≤ e)) then s.schedTakeover else s

/-- Epoch `e` opens when the block's time is `t`: its stamps count from there (R74, R76). -/
def openAt (s : State) (e : Nat) (t : Int) : State :=
  ({ s with tim := { s.tim with time := t, opened := t, open_ := true, stepped := false } }).setFld F.TIM_EPOCH_EPOCH e

/-- Roles at a tick (R22, R24). -/
def rolesTick (s : State) : State :=
  let s := ((s.presenceTick .group).presenceTick .system).leadTick
  { s with ing := { s.ing with heard := [] } }

/-- Settings that apply from the next tick: asymmetries (R90), the dispatcher's (R261), MIN_PAST, recovered cores (R466). -/
def latchTick (s : State) : State :=
  let s := s.asymTick.latchMinPast
  let cfg := s.reg F.STW_TDSP_CFG_CANARY_SHIFT.addr
  { s with tdsp := { s.tdsp with cfg := cfg, rejoin := [] } }

/-- What every opening of an epoch brings, after the switch of an image. -/
def openWork (s : State) (e : Nat) : State :=
  let s := ((((s.openEpochs e).rolesTick).latchTick).canaryTick).headsTick
  let s := (((s.jobTick).baselineInstall).dictSwap).extTick
  let s := (((s.pmcTick).powerTick).digTick).tstTick
  let s := ((s.exportLossMarkers).traceTick).mapRetire
  s.tellSched

/-- The block's time reaches the next tick (R76, R78): an armed block opens a new epoch. -/
def equinoxTick (s : State) : State :=
  if !s.isArmed || !s.tim.open_ then s
  else
    let e := s.epoch + 1
    let s := s.takeSched e
    match s.tickTime e with
    | none => s
    | some t => ((s.openAt e t).commitTick e).openWork e

/-! ### Steps (R74, R504) -/

/-- A due step of the block, in the first cycle after a tick: a step that passes ticks opens the epoch of the new time at once, and the actions
of the ticks it skips take place there. -/
def stepApply (s : State) : State :=
  match s.tim.servo.stepDue with
  | none => s
  | some m =>
    let s := (s.moveTime (-m)).setServo s.tim.servo.stepped m
    let s := { s with tim := { s.tim with stepped := true } }
    let t := s.tim.time
    let reach := fun (c : Sched) => (c.upTo t).filter (fun e => decide (s.epoch < e))
    let dst := (s.tim.pending.bind reach) <|> (s.tim.sched.bind reach)
    match dst with
    | none => s
    | some e =>
      if !s.tim.open_ then s
      else
        let s := (s.takeSched e).openAt e t
        let s := { s with tim := { s.tim with stepped := true } }
        (s.commitSkipped e).openWork e

/-! ### The first tick (R24, R481) -/

/-- The servo lets the block arm: SLEW, LOCKED or HOLDOVER; a grandmaster is LOCKED. -/
def mayArm (s : State) (now : Int) : Bool :=
  let st := s.tim.servo.st
  (if s.grandmaster then st == 3 else st == 2 || st == 3 || st == 4) &&
  (match s.mgt.released with | some r => st != 4 || decide (r + 100000 * 65536 ≤ now) | none => true)

/-- The block arms at the first qualifying tick (R481): its first epoch opens, stb_ready rises, and the node aggregator arms its Potik units. -/
def blockArm (s : State) (now : Int) : State :=
  match s.tim.sched.bind (fun c => c.at_ now) with
  | none => s
  | some e =>
    if s.fld F.MGT_BOOT_STAGE ≠ 4 || s.inReset || s.img.isNone || !s.mayArm now then s
    else
      let s := (s.takeSched e).openAt e now
      let s := (s.setFld F.MGT_BOOT_STAGE 5).modRole .group (fun r => { r with presence := e })
      let s := s.modRole .system (fun r => { r with presence := e })
      let s := ({ s with mgt := { s.mgt with ready := true } }).openWork e
      if !s.flag F.MGT_ROLE_NODE_AGG || !s.works 14 then s
      else (s.jobDies.filter (fun d => !s.stw.armed.contains d.slot && (s.armingOf d.slot).isNone)).foldl (fun s d => s.armStart d.slot false) s

/-! ### The Solstice snapshot (R408 to R410) -/

/-- An item of island `n`, stamped with its latch instant. -/
def snapItem (s : State) (f : SnapFigures) (n code : Nat) (payload : Bytes) : TrcEntry :=
  { source := n, code := code, payload := payload, epoch := s.epoch, offset := f.latch.getD n 0, quality := s.quality n }

/-- The ISLAND item; `state` overrides byte 6. -/
def islandItem (s : State) (f : SnapFigures) (n : Nat) (state : Option Nat) : TrcEntry :=
  let st := if s.istate n = 1 then 1 else if s.istate n = 2 then 2
    else if s.mgt.parked.contains n then 3 else if decide (16 ≤ n) && s.flag (F.Tnn_TILE_HELD.at (n - 16)) then 4 else 0
  s.snapItem f n 1 (le 1 (s.reg (F.STATUS_STATE.at n).addr).toNat ++ zeros 1 ++ le 2 (s.fld (F.ERR_FIRST_DETECTOR.at n)) ++
    le 2 (s.fld (F.SPRING_COUNT.at n)) ++ le 1 (state.getD st))

/-- The QUEUE item of a queue's records. -/
def queueItem (s : State) (f : SnapFigures) (n k : Nat) (q : List Rec) : List TrcEntry :=
  match q with
  | [] => []
  | r :: _ => [s.snapItem f n 2 (le 2 k ++ le 4 r.src ++ le 4 r.seq ++ le 1 r.type ++ le 3 (min 0xFFFFFF (recsSize q / 1024)))]

/-- The CHANNEL item of a physical channel that has carried transfers. -/
def channelItem (s : State) (f : SnapFigures) (n k : Nat) : TrcEntry :=
  let x := (f.chans.find? (fun c => c.1 == n && c.2.1 == k)).map (fun c => c.2.2)
  s.snapItem f n 3 (le 2 k ++ le 4 (s.lnk.chanSent.get zero (n * 65536 + k)) ++ le 4 (s.lnk.chanRecv.get zero (n * 65536 + k)) ++
    le 3 (min 0xFFFFFF (x.getD (0, false)).1) ++ le 1 (b2n (x.getD (0, false)).2 + 2 * b2n (!s.works n)))

/-- LNK_CREDIT items, per port and class. -/
def creditItems (s : State) (f : SnapFigures) : List TrcEntry :=
  (List.range 32).map (fun i => s.snapItem f 2 4 (le 1 (i / 8) ++ le 1 (i % 8) ++ le 2 (toField 16 (s.lnk.credits.get zeroI i)) ++ le 2 (f.frames.getD i 0)))

/-- MEM_CREDIT items, per memory port. -/
def memItems (s : State) (f : SnapFigures) : List TrcEntry :=
  (List.range 16).map (fun p => s.snapItem f 8 5 (le 1 p ++ zeros 1 ++ le 2 (s.sto.out.get nil p).length ++ le 2 (s.sto.credits.get zero p) ++
    le 1 (s.fld F.MGT_BOUNDARY_MEM_GRANT)))

/-- BUCKET items, per egress link and class. -/
def bucketItems (s : State) (f : SnapFigures) : List TrcEntry :=
  (List.range 60).map (fun i => s.snapItem f 12 6 (le 1 (i / 5) ++ le 1 (i % 5) ++
    le 4 (toField 32 (clampSigned 32 (s.exp.linkBits.get zeroI (i / 5)))) ++
    le 4 (toField 32 (clampSigned 32 (s.exp.classBits.get zeroI (i / 5 * 8 + i % 5)))) ++ le 1 (b2n (s.linkHeld (i / 5)))))

/-- EPOCH_WAIT items, per level and open epoch. -/
def waitItems (s : State) (f : SnapFigures) : List TrcEntry :=
  (s.aln.epochs.filter (fun x => x.st == 0)).map (fun x =>
    let left := (s.expectedSenders x.level).filter (fun a => !x.contribs.any (fun c => c.sender == a))
    s.snapItem f 4 7 (le 1 x.level ++ zeros 1 ++ le 6 x.epoch ++ le 4 left.length))

/-- TILE items, per pool core and per core held by an open dispute. -/
def tileItems (s : State) (f : SnapFigures) : List TrcEntry :=
  ((List.range 84).filter (fun c => s.inPool c || s.tdsp.disputes.any (fun d => d.x == c))).map (fun c =>
    let st := if s.flag (F.Tnn_TILE_HELD.at c) then 3 else if (s.core c).jobs.isEmpty then 0 else if f.starved.contains c then 2 else 1
    s.snapItem f 14 8 (le 1 (16 + c) ++ le 1 st ++ le 2 (s.fld (F.Tnn_TILE_LAYER.at c)) ++ le 4 (s.fld (F.Tnn_TILE_TILES.at c))))

/-- ARB_JOB items: the job in progress and those queued. -/
def arbItems (s : State) (f : SnapFigures) : List TrcEntry :=
  ((s.tdsp.arb.toList ++ s.tdsp.arbQ).zipIdx).map (fun e =>
    s.snapItem f 11 9 (le 1 e.1.kind ++ zeros 1 ++ le 4 (min 0xFFFFFFFF (f.ages.getD e.2 0))))

/-- DIG_ROUND items, per open round. -/
def roundItems (s : State) (f : SnapFigures) : List TrcEntry :=
  (s.dig.rounds.zipIdx).map (fun e => s.snapItem f 10 10 (le 2 e.1.round ++ le 2 e.1.chunks ++ le 4 (min 0xFFFFFFFF (f.rounds.getD e.2 0))))

/-- The items of island `n`, in code and index order. -/
def islandItems (s : State) (f : SnapFigures) (n : Nat) : List TrcEntry :=
  let keys := fun (t : Tab EQueue) => t.map (fun e => e.1)
  let queues := match n with
    | 3 => (s.ing.queues.map (fun e => s.queueItem f 3 e.1 e.2)).flatten
    | 12 => ((keys s.exp.queues).map (fun k => s.queueItem f 12 k (s.queue (k / 8) (k % 8)).recs)).flatten
    | _ => []
  let chans := (s.lnk.chanRecv.filter (fun e => e.1 / 65536 == n)).map (fun e => s.channelItem f n (e.1 % 65536))
  let own := match n with
    | 2 => s.creditItems f
    | 4 => s.waitItems f
    | 8 => s.memItems f
    | 10 => s.roundItems f
    | 11 => s.arbItems f
    | 12 => s.bucketItems f
    | 14 => s.tileItems f
    | _ => []
  s.islandItem f n none :: (queues ++ chans ++ own)

/-- The snapshot's items (R409, R410): when they do not fit in SNAP_MIB, the last one is TRC's ISLAND item with 0xFF. -/
def snapItems (s : State) (f : SnapFigures) : List TrcEntry :=
  let all := ((List.range 100).map (s.islandItems f)).flatten
  let room := s.fld F.TRC_CTRL_SNAP_MIB * 2 ^ 20 / 24
  if all.length ≤ room then all else all.take (room - 1) ++ [s.islandItem f 13 (some 0xFF)]

/-- At the tick of the requested epoch, or at a later one with MISSED, the snapshot is taken (R408 to R410). -/
def snapshotTake (s : State) (f : SnapFigures) : State :=
  if !s.flag F.TRC_SNAP_REQ || s.flag F.TRC_SNAP_BUSY || decide (s.epoch < s.fld F.TRC_SNAP_EPOCH) || !s.works 13 || !s.tim.open_ then s
  else
    let missed := decide (s.fld F.TRC_SNAP_EPOCH < s.epoch)
    let items := s.snapItems f
    let s := (s.setFld F.TRC_SNAP_REQ 0).setFld F.TRC_SNAP_BUSY 1
    let s := s.setIf missed F.TRC_SNAP_MISSED 1
    let s := { s with trc := { s.trc with snap := items, snapExported := 0, snapEpoch := s.epoch } }
    let s := s.trace 13 0x11 (le 1 (b2n missed) ++ zeros 3 ++ le 6 s.epoch)
    s.exportTrace false

end State

/-! ### Potik's tick (R79, R100, R109, R162, R483) -/

namespace Potik

/-- A schedule change whose origin has come (R77, R79). -/
def takeSched (p : Potik) (e : Nat) : Potik :=
  if p.schedNext.any (fun n => decide (n.e0 ≤ e)) then { p with sched := p.schedNext, schedNext := none } else p

/-- What closes with the epoch that ends: watch instances, the live trace block, the health figures. -/
def closeEpoch (p : Potik) : Potik :=
  let p := p.watchesTick.traceTick.healthRoll
  { p with healthDue := some p.epoch }

/-- Epoch `e` opens at `t`. -/
def openAt (p : Potik) (e : Nat) (t : Int) : Potik :=
  ({ p with time := t, opened := t, open_ := true, stepped := false, sweepDue := true
            sampleLocal := p.flag F.PTK_SMP_CTRL_MODE } |>.setFld F.PTK_TIME_STATUS_EPOCH e).setFld F.PTK_CEN_STATUS_SWEEPING 1

/-- Potik arms (R153, R156, R483): its record counter starts at 0, its first sweep is a key sweep, and nothing of an earlier arming is reported. -/
def arm (p : Potik) : Potik :=
  let p := (p.setFld F.PTK_CTRL_ARMED 1).setFld F.PTK_REC_SEQ_NEXT 0
  { p with keyNext := true, ctxValid := false, wraps := [], raws := [], losses := [], trcLoss := {}, healthDue := none, sensors := [] }

/-- Potik disarms (R140, R483): a running test is aborted, and the shaper sends what it holds. -/
def disarm (p : Potik) (sig : Nat) : Potik :=
  let p := (p.endTest 2 sig).wrapEvents.lossMarkers
  let p := ((p.setFld F.PTK_CTRL_ARMED 0).setFld F.PTK_CEN_STATUS_SWEEPING 0).setFld F.PTK_TRC_CTRL_FROZEN 0
  { p with open_ := false, sweepDue := false, healthDue := none, trcMode := 0, ring := [], post := none }

/-- Potik's own time reaches a tick (R79): an armed one closes its epoch and opens the next, one whose ARM has been set arms, and one whose ARM has
been cleared disarms. -/
def tick (p : Potik) (now : Int) (sig : Nat) : Potik :=
  let sched := match p.schedNext with
    | some n => if n.t0 ≤ now then some n else p.sched
    | none => p.sched
  match sched.bind (fun c => c.at_ now) with
  | none => p
  | some e =>
    if p.armed && p.open_ then
      if e ≤ p.epoch then p
      else
        let p := ({ p with time := now }).closeEpoch
        if p.flag F.PTK_CTRL_ARM then ((((p.takeSched e).openAt e now).tileWindow).wrapEvents).lossMarkers else p.disarm sig
    else if p.flag F.PTK_CTRL_ARM && decide (2 ≤ p.servo.st) then (({ p with time := now }).takeSched e).arm.traceTick.openAt e now
    else { p with time := now }

/-- A due step, in the first cycle after the tick (R74, R102): one that passes ticks opens the epoch of the new time. -/
def stepApply (p : Potik) : Potik :=
  match p.servo.stepDue with
  | none => p
  | some m =>
    let p := { (p.moveTime (-m)).setServo p.servo.stepped with stepped := true }
    let reach := fun (c : Sched) => (c.upTo p.time).filter (fun e => decide (p.epoch < e))
    match (p.schedNext.bind reach) <|> (p.sched.bind reach) with
    | none => p
    | some e =>
      if !p.armed || !p.open_ then p
      else
        let t := p.time
        let p := (((p.closeEpoch.takeSched e).openAt e t).tileWindow).wrapEvents.lossMarkers
        { p with stepped := true }

end Potik

/-- EQUINOX_TICK (R76). -/
def execEquinoxTick (s : State) : Host.Outcome State Fault Refusal := s.run (fun s => s.equinoxTick)

/-- PTK_TICK (R79). -/
def execPtkTick (die : Nat) (now : Int) (sig : Nat) (s : State) : Host.Outcome State Fault Refusal := s.run (fun s => s.onPtk die (fun p => p.tick now sig))

/-- STEP_APPLY (R74). -/
def execStepApply (die : Option Nat) (s : State) : Host.Outcome State Fault Refusal :=
  s.run (fun s => match die with | none => s.stepApply | some d => s.onPtk d (fun p => p.stepApply))

/-- SNAPSHOT_TAKE (R409). -/
def execSnapshotTake (f : SnapFigures) (s : State) : Host.Outcome State Fault Refusal := s.run (fun s => s.snapshotTake f)

/-- BLOCK_ARM (R481). -/
def execBlockArm (now : Int) (s : State) : Host.Outcome State Fault Refusal := s.run (fun s => s.blockArm now)

end Sys2Proof.Machine
end

