-- ==== Sys2Proof/Machine/Dispatch.lean ====
section
/-! DEFINITION. One arm per command: each arm is one call of that command's meaning. -/

namespace Sys2Proof.Machine

def exec (i : Instr) (s : State) : Host.Outcome State Fault Refusal :=
  match i with
  | .equinoxTick => Sys2Proof.Machine.execEquinoxTick s
  | .ptkTick die now sig => Sys2Proof.Machine.execPtkTick die now sig s
  | .presenceReceive tier src epoch => Sys2Proof.Machine.execPresenceReceive tier src epoch s
  | .takeover tier => Sys2Proof.Machine.execTakeover tier s
  | .takeoverReceive tier acting epoch resendFrom => Sys2Proof.Machine.execTakeoverReceive tier acting epoch resendFrom s
  | .parentSwitch => Sys2Proof.Machine.execParentSwitch s
  | .yield tier => Sys2Proof.Machine.execYield tier s
  | .deputyLost tier => Sys2Proof.Machine.execDeputyLost tier s
  | .leadLost package => Sys2Proof.Machine.execLeadLost package s
  | .lnkDown port => Sys2Proof.Machine.execLnkDown port s
  | .lnkUp port => Sys2Proof.Machine.execLnkUp port s
  | .frameReceive port error etherType udp payload => Sys2Proof.Machine.execFrameReceive port error etherType udp payload s
  | .channelTransfer src dst content type channel bad => Sys2Proof.Machine.execChannelTransfer src dst content type channel bad s
  | .chunkCheck round marked trailer payload now => Sys2Proof.Machine.execChunkCheck round marked trailer payload now s
  | .roundEnd round => Sys2Proof.Machine.execRoundEnd round s
  | .memGrantChange grant => Sys2Proof.Machine.execMemGrantChange grant s
  | .memReadReturn port tag pieces => Sys2Proof.Machine.execMemReadReturn port tag pieces s
  | .memRefused port tag => Sys2Proof.Machine.execMemRefused port tag s
  | .busAccess addr bytes write => Sys2Proof.Machine.execBusAccess addr bytes write s
  | .accessTimeout addr write => Sys2Proof.Machine.execAccessTimeout addr write s
  | .registerWrite die addr bytes value now => Sys2Proof.Machine.execRegisterWrite die addr bytes value now s
  | .setEndpointId iid op eid => Sys2Proof.Machine.execSetEndpointId iid op eid s
  | .getEndpointId iid => Sys2Proof.Machine.execGetEndpointId iid s
  | .getEndpointUuid iid => Sys2Proof.Machine.execGetEndpointUuid iid s
  | .getMctpVersionSupport iid type => Sys2Proof.Machine.execGetMctpVersionSupport iid type s
  | .getMessageTypeSupport iid => Sys2Proof.Machine.execGetMessageTypeSupport iid s
  | .getVendorDefinedMessageSupport iid selector => Sys2Proof.Machine.execGetVendorDefinedMessageSupport iid selector s
  | .mctpUnsupportedType type => Sys2Proof.Machine.execMctpUnsupportedType type s
  | .msiOffer => Sys2Proof.Machine.execMsiOffer s
  | .msiAck => Sys2Proof.Machine.execMsiAck s
  | .intEnWrite island value => Sys2Proof.Machine.execIntEnWrite island value s
  | .captureEdge input falling time => Sys2Proof.Machine.execCaptureEdge input falling time s
  | .captureRead input => Sys2Proof.Machine.execCaptureRead input s
  | .timeLoRead now => Sys2Proof.Machine.execTimeLoRead now s
  | .timeSet hi => Sys2Proof.Machine.execTimeSet hi s
  | .mcsDown port => Sys2Proof.Machine.execMcsDown port s
  | .mcsUp port => Sys2Proof.Machine.execMcsUp port s
  | .mcsAlarm => Sys2Proof.Machine.execMcsAlarm s
  | .tamper written => Sys2Proof.Machine.execTamper written s
  | .powerOnReset written => Sys2Proof.Machine.execPowerOnReset written s
  | .coldReset written => Sys2Proof.Machine.execColdReset written s
  | .warmReset written => Sys2Proof.Machine.execWarmReset written s
  | .resetRelease which now => Sys2Proof.Machine.execResetRelease which now s
  | .refclkLost => Sys2Proof.Machine.execRefclkLost s
  | .refclkRestored => Sys2Proof.Machine.execRefclkRestored s
  | .powerCapRequest code => Sys2Proof.Machine.execPowerCapRequest code s
  | .pwrCapWrite value => Sys2Proof.Machine.execPwrCapWrite value s
  | .capStep => Sys2Proof.Machine.execCapStep s
  | .pwrEstimateUpdate watts => Sys2Proof.Machine.execPwrEstimateUpdate watts s
  | .fastShed => Sys2Proof.Machine.execFastShed s
  | .fastShedRelease => Sys2Proof.Machine.execFastShedRelease s
  | .syncReceive link seqId twoStep t1 t2 corr => Sys2Proof.Machine.execSyncReceive link seqId twoStep t1 t2 corr s
  | .followUpReceive link seqId t1 corr => Sys2Proof.Machine.execFollowUpReceive link seqId t1 corr s
  | .followUpTimeout link => Sys2Proof.Machine.execFollowUpTimeout link s
  | .delayReqReceive link seqId rx corr => Sys2Proof.Machine.execDelayReqReceive link seqId rx corr s
  | .delayRespReceive link seqId t4 corr => Sys2Proof.Machine.execDelayRespReceive link seqId t4 corr s
  | .pdelayReqReceive link seqId rx tx corr => Sys2Proof.Machine.execPdelayReqReceive link seqId rx tx corr s
  | .pdelayRespReceive link seqId twoStep t2 rx corr => Sys2Proof.Machine.execPdelayRespReceive link seqId twoStep t2 rx corr s
  | .pdelayRespFollowUpReceive link seqId t3 corr => Sys2Proof.Machine.execPdelayRespFollowUpReceive link seqId t3 corr s
  | .announceReceive link domain => Sys2Proof.Machine.execAnnounceReceive link domain s
  | .ptpDiscard => Sys2Proof.Machine.execPtpDiscard s
  | .syncInterval now => Sys2Proof.Machine.execSyncInterval now s
  | .announceInterval => Sys2Proof.Machine.execAnnounceInterval s
  | .holdoverEntry => Sys2Proof.Machine.execHoldoverEntry s
  | .unqualEntry held => Sys2Proof.Machine.execUnqualEntry held s
  | .stepApply die => Sys2Proof.Machine.execStepApply die s
  | .asymWrite link value => Sys2Proof.Machine.execAsymWrite link value s
  | .closureReport => Sys2Proof.Machine.execClosureReport s
  | .loopEvaluation => Sys2Proof.Machine.execLoopEvaluation s
  | .pulseEdge n => Sys2Proof.Machine.execPulseEdge n s
  | .pulseModeWrite n value now => Sys2Proof.Machine.execPulseModeWrite n value now s
  | .ptkPtpReceive die rxSeq m => Sys2Proof.Machine.execPtkPtpReceive die rxSeq m s
  | .ptkRxStamp die seq fec time => Sys2Proof.Machine.execPtkRxStamp die seq fec time s
  | .ptkDelayReqInterval die fec tap => Sys2Proof.Machine.execPtkDelayReqInterval die fec tap s
  | .domainWindow die domain n first last tEnd => Sys2Proof.Machine.execDomainWindow die domain n first last tEnd s
  | .sweepHandoff die s0 elems => Sys2Proof.Machine.execSweepHandoff die s0 elems s
  | .ptkCounterWrite die off value => Sys2Proof.Machine.execPtkCounterWrite die off value s
  | .sampleArm die g k before slots now => Sys2Proof.Machine.execSampleArm die g k before slots now s
  | .sampleCapture die g addr insn lat priv src pev skid now => Sys2Proof.Machine.execSampleCapture die g addr insn lat priv src pev skid now s
  | .sampleAbandon die g => Sys2Proof.Machine.execSampleAbandon die g s
  | .sampleDrain die now => Sys2Proof.Machine.execSampleDrain die now s
  | .smpRead die => Sys2Proof.Machine.execSmpRead die s
  | .healthRound die k => Sys2Proof.Machine.execHealthRound die k s
  | .healthAck die err code => Sys2Proof.Machine.execHealthAck die err code s
  | .healthAckTimeout die => Sys2Proof.Machine.execHealthAckTimeout die s
  | .activityRead die dt values => Sys2Proof.Machine.execActivityRead die dt values s
  | .wsBeat die => Sys2Proof.Machine.execWsBeat die s
  | .tileOffer die desc id unit bytes vf now => Sys2Proof.Machine.execTileOffer die desc id unit bytes vf now s
  | .tileStreamEnd die data poison => Sys2Proof.Machine.execTileStreamEnd die data poison s
  | .tileSeedWrite die value => Sys2Proof.Machine.execTileSeedWrite die value s
  | .csChunkEnd die lane round seq payload retain poison => Sys2Proof.Machine.execCsChunkEnd die lane round seq payload retain poison s
  | .redigestRequest die value vf now => Sys2Proof.Machine.execRedigestRequest die value vf now s
  | .redigestAnswer die payload now => Sys2Proof.Machine.execRedigestAnswer die payload now s
  | .redigestTimeout die now => Sys2Proof.Machine.execRedigestTimeout die now s
  | .testWaitRise die core vf now => Sys2Proof.Machine.execTestWaitRise die core vf now s
  | .testWaitFall die core sig now => Sys2Proof.Machine.execTestWaitFall die core sig now s
  | .testDone die pass sig now => Sys2Proof.Machine.execTestDone die pass sig now s
  | .testNoAnswer die sig now => Sys2Proof.Machine.execTestNoAnswer die sig now s
  | .traceBeat die source sync data now => Sys2Proof.Machine.execTraceBeat die source sync data now s
  | .ptkTraceTrigger die => Sys2Proof.Machine.execPtkTraceTrigger die s
  | .ptkRingSent die => Sys2Proof.Machine.execPtkRingSent die s
  | .ptkRecordEnqueue die r => Sys2Proof.Machine.execPtkRecordEnqueue die r s
  | .ptkFrameStart die dt => Sys2Proof.Machine.execPtkFrameStart die dt s
  | .ptkTamper die => Sys2Proof.Machine.execPtkTamper die s
  | .recordFrame => Sys2Proof.Machine.execRecordFrame s
  | .reassemblyTimeout src seq => Sys2Proof.Machine.execReassemblyTimeout src seq s
  | .recordIngest dt => Sys2Proof.Machine.execRecordIngest dt s
  | .registerBatch die now => Sys2Proof.Machine.execRegisterBatch die now s
  | .packageData die now => Sys2Proof.Machine.execPackageData die now s
  | .controlResponse r now => Sys2Proof.Machine.execControlResponse r now s
  | .controlResend tag => Sys2Proof.Machine.execControlResend tag s
  | .alnRecordAccept queue => Sys2Proof.Machine.execAlnRecordAccept queue s
  | .epochClose level => Sys2Proof.Machine.execEpochClose level s
  | .reductionDone level => Sys2Proof.Machine.execReductionDone level s
  | .coarsenRequest src step fromEpoch => Sys2Proof.Machine.execCoarsenRequest src step fromEpoch s
  | .coarsenResend level => Sys2Proof.Machine.execCoarsenResend level s
  | .bypassBroadcast src partner begin_ actEpoch => Sys2Proof.Machine.execBypassBroadcast src partner begin_ actEpoch s
  | .bypassRefusal src => Sys2Proof.Machine.execBypassRefusal src s
  | .featurePass level epoch => Sys2Proof.Machine.execFeaturePass level epoch s
  | .baselineProduct cls epoch subjects => Sys2Proof.Machine.execBaselineProduct cls epoch subjects s
  | .baseDeadline cls epoch => Sys2Proof.Machine.execBaseDeadline cls epoch s
  | .modelOutputs cls epoch outs => Sys2Proof.Machine.execModelOutputs cls epoch outs s
  | .modelDeadline cls epoch => Sys2Proof.Machine.execModelDeadline cls epoch s
  | .extDataWrite entry value => Sys2Proof.Machine.execExtDataWrite entry value s
  | .treeEvaluate cls epoch subject => Sys2Proof.Machine.execTreeEvaluate cls epoch subject s
  | .treeLookupsDone cls epoch subject errs => Sys2Proof.Machine.execTreeLookupsDone cls epoch subject errs s
  | .treeDeadline level epoch => Sys2Proof.Machine.execTreeDeadline level epoch s
  | .scrubRead bank slice row bad backingPoison => Sys2Proof.Machine.execScrubRead bank slice row bad backingPoison s
  | .bankRetire => Sys2Proof.Machine.execBankRetire s
  | .tileDispatch home tile => Sys2Proof.Machine.execTileDispatch home tile s
  | .tileComplete core wrong => Sys2Proof.Machine.execTileComplete core wrong s
  | .residueMismatch core loc rx => Sys2Proof.Machine.execResidueMismatch core loc rx s
  | .disputeRerunDone core clean ry agrees loc => Sys2Proof.Machine.execDisputeRerunDone core clean ry agrees loc s
  | .weightReload core => Sys2Proof.Machine.execWeightReload core s
  | .replayDispatch => Sys2Proof.Machine.execReplayDispatch s
  | .replayEnqueue r => Sys2Proof.Machine.execReplayEnqueue r s
  | .arbJobStart => Sys2Proof.Machine.execArbJobStart s
  | .arbJobDone => Sys2Proof.Machine.execArbJobDone s
  | .arbTimeout place => Sys2Proof.Machine.execArbTimeout place s
  | .arbResidue loc => Sys2Proof.Machine.execArbResidue loc s
  | .modelRunStart model => Sys2Proof.Machine.execModelRunStart model s
  | .modelRunEnd model outs kv => Sys2Proof.Machine.execModelRunEnd model outs kv s
  | .issueInstant level epoch => Sys2Proof.Machine.execIssueInstant level epoch s
  | .batchSigned => Sys2Proof.Machine.execBatchSigned s
  | .sparesWrite value => Sys2Proof.Machine.execSparesWrite value s
  | .verdictBatchReceive records => Sys2Proof.Machine.execVerdictBatchReceive records s
  | .integrityOutcome r => Sys2Proof.Machine.execIntegrityOutcome r s
  | .digestReport r => Sys2Proof.Machine.execDigestReport r s
  | .tensorWatchReceive r => Sys2Proof.Machine.execTensorWatchReceive r s
  | .weightDigestReceive r => Sys2Proof.Machine.execWeightDigestReceive r s
  | .replicaDeadline set ordinal => Sys2Proof.Machine.execReplicaDeadline set ordinal s
  | .focusEnd set => Sys2Proof.Machine.execFocusEnd set s
  | .testResultReceive r now => Sys2Proof.Machine.execTestResultReceive r now s
  | .testOverdue die core package => Sys2Proof.Machine.execTestOverdue die core package s
  | .storeAccess island write addr data poison errs => Sys2Proof.Machine.execStoreAccess island write addr data poison errs s
  | .patrolScrub errs skip => Sys2Proof.Machine.execPatrolScrub errs skip s
  | .dictActivate => Sys2Proof.Machine.execDictActivate s
  | .dictDataWrite value => Sys2Proof.Machine.execDictDataWrite value s
  | .dictBankRetire => Sys2Proof.Machine.execDictBankRetire s
  | .codeBlock elem own raw room => Sys2Proof.Machine.execCodeBlock elem own raw room s
  | .decodeBlock tgen serial block => Sys2Proof.Machine.execDecodeBlock tgen serial block s
  | .liveFlush coder => Sys2Proof.Machine.execLiveFlush coder s
  | .archiveAppend stream => Sys2Proof.Machine.execArchiveAppend stream s
  | .archiveWriteDone stream => Sys2Proof.Machine.execArchiveWriteDone stream s
  | .pinExpire pin => Sys2Proof.Machine.execPinExpire pin s
  | .exportEnqueue n r => Sys2Proof.Machine.execExportEnqueue n r s
  | .exportFrameStart port => Sys2Proof.Machine.execExportFrameStart port s
  | .bucketRefill => Sys2Proof.Machine.execBucketRefill s
  | .heldSummaryMerge => Sys2Proof.Machine.execHeldSummaryMerge s
  | .traceMessage island code payload => Sys2Proof.Machine.execTraceMessage island code payload s
  | .trcTrigWrite => Sys2Proof.Machine.execTrcTrigWrite s
  | .reserveFull => Sys2Proof.Machine.execReserveFull s
  | .postEpochsExpire => Sys2Proof.Machine.execPostEpochsExpire s
  | .rearm => Sys2Proof.Machine.execRearm s
  | .trcRearmWrite => Sys2Proof.Machine.execTrcRearmWrite s
  | .boostExpire => Sys2Proof.Machine.execBoostExpire s
  | .snapRequest epoch => Sys2Proof.Machine.execSnapRequest epoch s
  | .snapshotTake f => Sys2Proof.Machine.execSnapshotTake f s
  | .ptkSnapshot die s0 beats waits testNs tileBytes held => Sys2Proof.Machine.execPtkSnapshot die s0 beats waits testNs tileBytes held s
  | .pmcFreeze => Sys2Proof.Machine.execPmcFreeze s
  | .pmcUnfreeze => Sys2Proof.Machine.execPmcUnfreeze s
  | .pmcClear => Sys2Proof.Machine.execPmcClear s
  | .pmcOverflow island counter => Sys2Proof.Machine.execPmcOverflow island counter s
  | .imageLoad value => Sys2Proof.Machine.execImageLoad value s
  | .stagingComplete ok => Sys2Proof.Machine.execStagingComplete ok s
  | .imageVerify => Sys2Proof.Machine.execImageVerify s
  | .verificationDone content fail => Sys2Proof.Machine.execVerificationDone content fail s
  | .commitArm value now => Sys2Proof.Machine.execCommitArm value now s
  | .shadowReady island => Sys2Proof.Machine.execShadowReady island s
  | .guardInstant => Sys2Proof.Machine.execGuardInstant s
  | .commitCancel => Sys2Proof.Machine.execCommitCancel s
  | .programFault program => Sys2Proof.Machine.execProgramFault program s
  | .tickOverrun program => Sys2Proof.Machine.execTickOverrun program s
  | .programRestart program => Sys2Proof.Machine.execProgramRestart program s
  | .mailboxDoorbell mailbox => Sys2Proof.Machine.execMailboxDoorbell mailbox s
  | .mailboxResponse mailbox response => Sys2Proof.Machine.execMailboxResponse mailbox response s
  | .readReg now cycs => Sys2Proof.Machine.execReadReg now cycs s
  | .writeReg now => Sys2Proof.Machine.execWriteReg now s
  | .readRegion ext => Sys2Proof.Machine.execReadRegion ext s
  | .archivePin => Sys2Proof.Machine.execArchivePin s
  | .archiveUnpin => Sys2Proof.Machine.execArchiveUnpin s
  | .extWrite => Sys2Proof.Machine.execExtWrite s
  | .setBudget => Sys2Proof.Machine.execSetBudget s
  | .packagePart act deadline => Sys2Proof.Machine.execPackagePart act deadline s
  | .trigger => Sys2Proof.Machine.execTrigger s
  | .snapshot => Sys2Proof.Machine.execSnapshot s
  | .status => Sys2Proof.Machine.execStatus s
  | .jobStart => Sys2Proof.Machine.execJobStart s
  | .jobCancel => Sys2Proof.Machine.execJobCancel s
  | .broadcastPart src kind resend gen act deadline part parts payload => Sys2Proof.Machine.execBroadcastPart src kind resend gen act deadline part parts payload s
  | .heads entries => Sys2Proof.Machine.execHeads entries s
  | .broadcastRequest kind => Sys2Proof.Machine.execBroadcastRequest kind s
  | .requestReceive src kind gen first => Sys2Proof.Machine.execRequestReceive src kind gen first s
  | .acknowledgement root kind status gen covered holes final => Sys2Proof.Machine.execAcknowledgement root kind status gen covered holes final s
  | .finalise kind => Sys2Proof.Machine.execFinalise kind s
  | .armedCheck die => Sys2Proof.Machine.execArmedCheck die s
  | .errorDetect island code loc => Sys2Proof.Machine.execErrorDetect island code loc s
  | .errorInterval => Sys2Proof.Machine.execErrorInterval s
  | .winterLeave island => Sys2Proof.Machine.execWinterLeave island s
  | .hourInterval => Sys2Proof.Machine.execHourInterval s
  | .fence island => Sys2Proof.Machine.execFence island s
  | .unfence island => Sys2Proof.Machine.execUnfence island s
  | .islandReset island => Sys2Proof.Machine.execIslandReset island s
  | .islandResetRelease island => Sys2Proof.Machine.execIslandResetRelease island s
  | .holdWrite island value => Sys2Proof.Machine.execHoldWrite island value s
  | .errFirstClear island => Sys2Proof.Machine.execErrFirstClear island s
  | .injectArm island value => Sys2Proof.Machine.execInjectArm island value s
  | .bistDone failed words tamper => Sys2Proof.Machine.execBistDone failed words tamper s
  | .certCheck value => Sys2Proof.Machine.execCertCheck value s
  | .keygen value => Sys2Proof.Machine.execKeygen value s
  | .keygenDone => Sys2Proof.Machine.execKeygenDone s
  | .program value => Sys2Proof.Machine.execProgram value s
  | .programDone wrong => Sys2Proof.Machine.execProgramDone wrong s
  | .blockArm now => Sys2Proof.Machine.execBlockArm now s
  | .ptkReset die => Sys2Proof.Machine.execPtkReset die s
  | .ptkSign die => Sys2Proof.Machine.execPtkSign die s
  | .ptkSignDone die => Sys2Proof.Machine.execPtkSignDone die s
  | .ptkArmWrite die value => Sys2Proof.Machine.execPtkArmWrite die value s
  | .presenceAcknowledgement tier epoch => Sys2Proof.Machine.execPresenceAcknowledgement tier epoch s
  | .lnkCreditReturn port tc => Sys2Proof.Machine.execLnkCreditReturn port tc s
  | .memCreditReturn port => Sys2Proof.Machine.execMemCreditReturn port s
  | .counterWrap die c before slots now => Sys2Proof.Machine.execCounterWrap die c before slots now s
  | .wsBeatArrival die b vf now => Sys2Proof.Machine.execWsBeatArrival die b vf now s
  | .controlRequest die etherType smac frame now => Sys2Proof.Machine.execControlRequest die etherType smac frame now s
  | .queryRequest request => Sys2Proof.Machine.execQueryRequest request s
  | .ptkResetRelease die a b tamperHigh => Sys2Proof.Machine.execPtkResetRelease die a b tamperHigh s
  | .pulseWidthEnd n => Sys2Proof.Machine.execPulseWidthEnd n s
  | .registerRead die addr bytes now cyc => Sys2Proof.Machine.execRegisterRead die addr bytes now cyc s

end Sys2Proof.Machine
end

