-- ==== Sys2Proof/Safety.lean ====
section
/-! DEFINITION. What counts as a safe run, and the terms in which statements are made: completion, frames over the register bank, and what the
block's own messages leave behind. -/

/-- The commands of the power cap (R55 to R58). -/
def Sys2Proof.Instr.isPower : Sys2Proof.Instr → Bool
  | .powerCapRequest _ => true
  | .pwrCapWrite _ => true
  | .capStep => true
  | .pwrEstimateUpdate _ => true
  | .fastShed => true
  | .fastShedRelease => true
  | _ => false

namespace Sys2Proof.Machine

/-- A safe state: the register bank, the shared store and the waiting list of interrupt messages are in their canonical form. -/
def State.safe (s : State) : Prop :=
  s.regs.wf blockReset = true ∧ s.sto.mem.wf (fun _ => (0 : Byte)) = true ∧ s.sto.poison.wf no = true ∧ s.mgt.msiWait.Nodup

/-- The machine has run `n` steps from `s` and reached `t` with no fault and no refusal. -/
def Runs : Nat → State → State → Prop
  | 0, s, t => t = s
  | n + 1, s, t => ∃ u, step s = .next u ∧ Runs n u t

/-- Commands executed one after another; none when one of them does not answer a next state. -/
def execInOrder : List Instr → State → Option State
  | [], s => some s
  | c :: cs, s => match exec c s with | .next t => execInOrder cs t | _ => none

/-- Command `c` answers a next state in state `s`, and `P` holds of it. -/
def Completes (c : Instr) (s : State) (P : State → Prop) : Prop := ∃ t, exec c s = .next t ∧ P t

/-- A whole register as a field. -/
def Fld.whole (a : Nat) : Fld := ⟨a, 0, 64, 0⟩

/-- Field `g` shares no bit with field `f`. -/
def Fld.apart (f g : Fld) : Prop := g.addr ≠ f.addr ∨ g.lo + g.w ≤ f.lo ∨ f.lo + f.w ≤ g.lo

/-- The registers in which messages and counts of the block leave their trace: _INT_PEND, _PMCn and _PMSELn of every island, the drops of a
route, and the registers of EXP and TRC. -/
def ledger (a : Nat) : Bool :=
  a % 0x80000 == 0x30 || (decide (0x58 ≤ a % 0x80000) && decide (a % 0x80000 < 0xD8)) || a % 0x4000000 == 0x1408 ||
    ((a % 0x4000000 / 0x80000 == 12 || a % 0x4000000 / 0x80000 == 13) && decide (0x1000 ≤ a % 0x80000))

namespace State

/-- Every register field that shares no bit with one of `fs` reads in `t` as in `s`. -/
def onlyFields (fs : List Fld) (s t : State) : Prop := ∀ g : Fld, g.lo + g.w ≤ 64 → (∀ f ∈ fs, f.apart g) → t.fld g = s.fld g

/-- Every such field outside the ledger registers reads in `t` as in `s`. -/
def onlyFields' (fs : List Fld) (s t : State) : Prop :=
  ∀ g : Fld, g.lo + g.w ≤ 64 → ledger g.addr = false → (∀ f ∈ fs, f.apart g) → t.fld g = s.fld g

/-- Between `s` and `t` lie nothing but register writes and what has been sent. -/
def onlyBank (s t : State) : Prop := t = { s with regs := t.regs, out := t.out }

/-- Between `s` and `t` lies nothing but what messages and counts of the block leave: ledger registers, waiting interrupt messages, the queues of
EXP, the rings of TRC, and Control requests in flight. -/
def onlyMessages (s t : State) : Prop :=
  (∀ a, ledger a = false → t.reg a = s.reg a) ∧
  t = { s with regs := t.regs, mgt := { s.mgt with msiWait := t.mgt.msiWait }, exp := t.exp, trc := t.trc,
               stw := { s.stw with ctrl := t.stw.ctrl, nextTag := t.stw.nextTag }, out := t.out }

/-- As `onlyMessages`, and the register fields `fs` besides. -/
def onlyMessagesAnd (fs : List Fld) (s t : State) : Prop :=
  s.onlyFields' fs t ∧
  t = { s with regs := t.regs, mgt := { s.mgt with msiWait := t.mgt.msiWait }, exp := t.exp, trc := t.trc,
               stw := { s.stw with ctrl := t.stw.ctrl, nextTag := t.stw.nextTag }, out := t.out }

/-- The power state is legal (R56, R57): both codes in 10 to 61, the effective cap their minimum, at most 12 clock steps, and distinct enabled
cores parked only after all of them. -/
def powerLegal (s : State) : Prop :=
  10 ≤ s.fld F.MGT_PWR_STATUS_GW_CAP ∧ s.fld F.MGT_PWR_STATUS_GW_CAP ≤ 61 ∧
  10 ≤ s.fld F.MGT_PWR_CAP_CAP_CODE ∧ s.fld F.MGT_PWR_CAP_CAP_CODE ≤ 61 ∧
  s.fld F.MGT_PWR_STATUS_EFF_CAP = min (s.fld F.MGT_PWR_STATUS_GW_CAP) (s.fld F.MGT_PWR_CAP_CAP_CODE) ∧
  s.fld F.MGT_PWR_STATUS_TENSOR_STEP ≤ 12 ∧ (s.mgt.parked ≠ [] → s.fld F.MGT_PWR_STATUS_TENSOR_STEP = 12) ∧
  s.mgt.parked.Nodup ∧ (∀ n ∈ s.mgt.parked, n ∈ s.enabledCores)

/-- Every byte of the shared store and its poison reads in `t` as in `s`. -/
def sameStore (s t : State) : Prop := ∀ a, t.storeByte a = s.storeByte a ∧ t.poisoned a = s.poisoned a

end State

/-- The reply fields: the counts of queries, and mailbox 0's control register and response buffer. -/
def replyFields : List Fld :=
  .whole F.STW_QUERY_REQUESTS.addr :: .whole (F.STW_MBOX_CTRL_BUSY.at 0).addr :: (List.range 512).map (fun w => Fld.whole (State.mboxAddr 0 true w))

/-- The twelve bytes that head a response to a query (R440, R441). -/
def Query.head (q : Query) (status len : Nat) : Bytes :=
  le 1 1 ++ le 1 (bytesAt q.req 1 1 % 128 + 128) ++ le 2 (bytesAt q.req 2 2) ++ le 2 status ++ zeros 2 ++ le 4 len

namespace State

/-- Query `q`, of operation `op`, is the front one, and its service runs. -/
def asks (s : State) (op : Nat) (q : Query) (rest : List Query) : Prop :=
  s.stw.queries = q :: rest ∧ s.serviceRuns 0 = true ∧ bytesAt q.req 1 1 = op

/-- `s` with the waiting queries `rest`. -/
def withQueries (s : State) (rest : List Query) : State := { s with stw := { s.stw with queries := rest } }

/-- Query `q` is answered between `s` and `t`: a message of the endpoint, or the response in mailbox 0 with DONE (a body beyond the mailbox is
answered FAILED, log entry 8). -/
def answered (q : Query) (status : Nat) (body : Bytes) (s t : State) : Prop :=
  t.fld F.STW_QUERY_REQUESTS = min 65535 (s.fld F.STW_QUERY_REQUESTS + 1) ∧
  (q.mbox = false → t.out.getLast? = some (.mctp (le 1 0x7F ++ [0, 0, 0xE4, 0x31] ++ q.head status body.length ++ body))) ∧
  (q.mbox = true → s.flag (F.STW_MBOX_CTRL_BUSY.at 0) = true → body.length ≤ 4084 →
    t.flag (F.STW_MBOX_CTRL_BUSY.at 0) = false ∧ t.flag (F.STW_MBOX_CTRL_DONE.at 0) = true ∧
    t.fld (F.STW_MBOX_CTRL_RESP_LEN.at 0) = 12 + body.length ∧
    ∀ w, 8 * w < 12 + body.length → t.reg (State.mboxAddr 0 true w) = BitVec.ofNat 64 (bytesAt (q.head status body.length ++ body) (8 * w) 8))

end State

/-- The operation of the query that a command answers. -/
def queryOp : Instr → Option Nat
  | .readReg _ _ => some 1
  | .writeReg _ => some 2
  | .readRegion _ => some 3
  | .archivePin => some 4
  | .archiveUnpin => some 5
  | .extWrite => some 6
  | .setBudget => some 7
  | .packagePart _ _ => some 8
  | .trigger => some 9
  | .snapshot => some 10
  | .status => some 11
  | _ => none

/-- A record of the block's own goes to EXP between `s` and `t` (R153, R379): numbered from the counter of its source, and at the end of
its queue where it has one destination, not held and with room. -/
def State.sends (type cls src : Nat) (body : Bytes) (s t : State) : Prop :=
  t.exp.seqs.get zero src = (s.exp.seqs.get zero src + 1) % 2 ^ 32 ∧
  ∀ d, s.silent = false → s.works 12 = true → s.destsOf { type := type, cls := cls, src := src } = [d] → s.destHeld d = false →
    recsSize (s.queue d (cls - 8)).recs + 32 + (pad8 body).length + State.markerSize ≤ (s.destCfg d).depthKib.getD (cls - 8) 0 * 1024 →
    ∃ r : Rec, (t.queue d (cls - 8)).recs = (s.queue d (cls - 8)).recs ++ [r] ∧ r.type = type ∧ r.cls = cls ∧ r.src = src ∧
      r.seq = s.exp.seqs.get zero src ∧ r.epoch = s.epoch ∧ r.body = pad8 body

/-! ### The servo of TIM -/

/-- The servo of TIM has taken offset `o` with mean path delay `mean` between `s` and `t` (R69, R72 to R74): both shown in STB_TIM_OFFSET, the run of
silent intervals over, and the servo as the measurement leaves it; a step moves counter and origin of stamps at once before the block is armed,
and waits for the next tick in an armed block. `interval` replaces the sync interval (R84). -/
def State.servoTook (interval : Option Nat) (o mean : Int) (s t : State) : Prop :=
  ∃ c : ServoCfg, c = { ServoCfg.ofReg (s.reg F.TIM_SERVO_CFG_STEP_THRESH.addr) with
      interval := interval.getD (ServoCfg.ofReg (s.reg F.TIM_SERVO_CFG_STEP_THRESH.addr)).interval } ∧
  t.fld F.TIM_OFFSET_OFFSET = toField 32 (clampSigned 32 (quarters o)) ∧
  t.fld F.TIM_OFFSET_MEAN_DELAY = (max 0 (min 0xFFFFFFFF (quarters mean))).toNat ∧ t.tim.silent = 0 ∧
  t.fld F.TIM_SERVO_RELOCKS = min 65535 (s.fld F.TIM_SERVO_RELOCKS + b2n (s.tim.servo.measure c o).2.relock) ∧
  t.fld F.TIM_SERVO_RATE_SAT = (if (s.tim.servo.measure c o).2.sat then 1 else s.fld F.TIM_SERVO_RATE_SAT) ∧
  (match (s.tim.servo.measure c o).2.step with
   | none => t.tim.servo = (s.tim.servo.measure c o).1 ∧ t.tim.time = s.tim.time ∧ t.tim.opened = s.tim.opened
   | some m =>
     if s.isArmed then t.tim.servo = { (s.tim.servo.measure c o).1 with stepDue := some m } ∧ t.tim.time = s.tim.time ∧ t.tim.opened = s.tim.opened
     else t.tim.servo = (s.tim.servo.measure c o).1.stepped ∧ t.tim.time = s.tim.time - m ∧ t.tim.opened = s.tim.opened - m) ∧
  ({ s with tim := { s.tim with time := t.tim.time, opened := t.tim.opened, silent := 0, servo := t.tim.servo, pulses := t.tim.pulses } } : State).onlyMessagesAnd
    [F.TIM_OFFSET_OFFSET, F.TIM_OFFSET_MEAN_DELAY, F.TIM_SERVO_RELOCKS, F.TIM_SERVO_RATE_SAT] t

/-! ### Potik units -/

/-- The Potik of die slot `d` as a command finds it: under the die's fleet address. -/
def State.ptkOf (s : State) (d : Nat) : Potik := { s.ptk d with addr := s.dieAddr d, out := [] }

/-- Command `c` acts on the Potik of die slot `d` alone: in reset nothing changes; otherwise `P` holds of the Potik before, the Potik after
and what is sent, and every other Potik and the block are left as they are. -/
def OnDie (c : Instr) (s : State) (d : Nat) (P : Potik → Potik → List Emit → Prop) : Prop :=
  ((s.ptk d).inReset = true → exec c s = .next { s with out := [] }) ∧
  ((s.ptk d).inReset = false → Completes c s (fun t => P (s.ptkOf d) (t.ptk d) t.out ∧ (∀ k, k ≠ d → t.ptk k = s.ptk k) ∧
    t = { s with potiks := t.potiks, out := t.out }))

/-- Every register field of the Potik that shares no bit with one of `fs` reads in `q` as in `p`. -/
def Potik.onlyFields (fs : List Fld) (p q : Potik) : Prop := ∀ g : Fld, g.lo + g.w ≤ 64 → (∀ f ∈ fs, f.apart g) → q.fld g = p.fld g

/-- A record of `type` with a body joins the shaper's queue of level `l`, between `p` and `q` (R143, R145): one that the Potik creates. -/
def Potik.queues (p q : Potik) (l type : Nat) (body : Bytes) : Prop :=
  ∃ i : PItem, q.level l = p.level l ++ [i] ∧ i.r.type = type ∧ i.r.src = p.addr ∧ i.r.cls = potikLevel type ∧ i.r.comp = 0 ∧ i.r.body = pad8 body

/-- The frame holds a Control request record `r` that passes every check of R163 before its operation. -/
def ctrlFrame (p : Potik) (etherType : Nat) (frame : Bytes) (r : Rec) : Prop :=
  16 ≤ frame.length ∧ (crc32c (frame.take 12)).toNat = bytesAt frame 12 4 ∧ bytesAt frame 0 1 % 16 = 1 ∧ bytesAt frame 1 1 % 4 = 3 ∧
  (p.armed = true → etherType = p.fld F.PTK_REC_CFG_ETHERTYPE) ∧ 32 ≤ bytesAt (frame.drop 16) 4 2 * 8 ∧
  recReason ((frame.drop 16).take (bytesAt (frame.drop 16) 4 2 * 8)) false = 0 ∧
  r = Rec.parse ((frame.drop 16).take (bytesAt (frame.drop 16) 4 2 * 8)) ∧ r.type = 0x0C

end Sys2Proof.Machine
end

