-- ==== Sys2Proof/Certificates/Slice0/Obligations.lean ====
section
/-! DEFINITION. The statements for the provers (OBLIGATIONS.json has each one's rules and reading). Every statement of an effect says that
the command answers a next state (`Completes`, or an equation), and what that state holds. -/

open Sys2Proof Sys2Proof.Machine Sys2Proof.Machine.State

/-- A step takes the command at the front of the queue and runs it with the queue's rest; an empty queue idles. -/
def Obligations.StepRunsFrontCommand : Prop :=
  (∀ (c : Instr) (rest : List Instr) (s : State), step { s with pending := c :: rest } = exec c { s with pending := rest }) ∧
  (∀ s : State, s.pending = [] → step s = .next s)

/-- Every command answers a next state in every state, keeps the queue of waiting commands, and its effect does not depend on that queue. -/
def Obligations.EveryCommandCompletes : Prop :=
  ∀ (c : Instr) (s : State), ∃ t : State, exec c s = .next t ∧ t.pending = s.pending ∧
    ∀ q : List Instr, exec c { s with pending := q } = .next { t with pending := q }

/-- As many steps as commands wait run them all, first in first out, each on the state that the ones before it left, and empty the queue. -/
def Obligations.QueueRunsInOrder : Prop :=
  ∀ s : State, ∃ t : State, Runs s.pending.length s { t with pending := [] } ∧
    execInOrder s.pending { s with pending := [] } = some { t with pending := [] }

/-- What reset leaves: every register at its reset value, an empty memory and empty queues, no image, a servo in INIT and no message waiting. -/
def Obligations.ResetState : Prop :=
  (∀ a, State.reset.reg a = blockReset a) ∧ State.reset.img = none ∧ State.reset.tim.servo.st = 0 ∧ State.reset.mgt.msiWait = [] ∧
  State.reset.pending = [] ∧ (∀ a, State.reset.storeByte a = 0 ∧ State.reset.poisoned a = false) ∧
  (∀ d c, (State.reset.queue d c).recs = []) ∧ (∀ n, State.reset.trc.fifos.get nil n = []) ∧ (∀ m, State.reset.tim.caps.get nil m = []) ∧
  State.reset.safe

/-- BUS_ACCESS and ACCESS_TIMEOUT: a bus error response, recorded as BUS_ERROR of island 0; a good access passes BUS_ACCESS unchanged. -/
def Obligations.MisalignedAccessRecordsAnError : Prop :=
  (∀ (s : State) (addr bytes : Nat) (w : Bool) (c : Instr),
    (c = .accessTimeout addr w ∨ (c = .busAccess addr bytes w ∧ badAccess addr bytes = true)) → Completes c s (fun t =>
      t.out.getLast? = some (.busResp true 0) ∧
      (s.istate 0 ≠ 2 → s.disabled 0 = false → s.flag (F.ERR_FIRST_VALID.at 0) = false →
        t.flag (F.ERR_FIRST_VALID.at 0) = true ∧ t.fld (F.ERR_FIRST_DETECTOR.at 0) = 6 ∧ t.fld (F.ERR_FIRST_CLASS.at 0) = 0 ∧
        t.flag (F.ERR_FIRST_INJECTED.at 0) = false ∧ t.flag (F.ERR_FIRST_WINTER.at 0) = false ∧ t.flag (F.ERR_FIRST_LIMIT.at 0) = false) ∧
      (s.istate 0 ≠ 2 → s.disabled 0 = false → s.flag (F.ERR_FIRST_VALID.at 0) = true →
        t.fld (F.ERR_MERGED_LAST_DETECTOR.at 0) = 6 ∧
        t.fld (F.ERR_MERGED_COUNT.at 0) = min (2 ^ (F.ERR_MERGED_COUNT).w - 1) (s.fld (F.ERR_MERGED_COUNT.at 0) + 1)) ∧
      s.onlyMessagesAnd [.whole (F.ERR_FIRST_VALID.at 0).addr, .whole (F.ERR_MERGED_COUNT.at 0).addr, F.STATUS_QUIET_LEFT_MS.at 0] t)) ∧
  (∀ (s : State) (addr bytes : Nat) (w : Bool), badAccess addr bytes = false →
    exec (.busAccess addr bytes w) s = .next { s with out := [] })

/-- The seven MCTP control commands: each one's response, and nothing else changed but the endpoint ID that Set Endpoint ID assigns. -/
def Obligations.MctpControlResponses : Prop :=
  (∀ (s : State) (iid op eid : Nat), op < 2 → 8 ≤ eid → eid < 255 → Completes (.setEndpointId iid op eid) s (fun t =>
    t.fld F.MGT_MCTP_CAP_EID = eid ∧ t.out = [.mctp (le 1 0 ++ le 1 (iid % 32) ++ le 1 1 ++ le 1 0 ++ (le 1 0 ++ le 1 eid ++ le 1 0))] ∧
    s.onlyBank t ∧ s.onlyFields [F.MGT_MCTP_CAP_EID] t)) ∧
  (∀ (s : State) (iid op eid : Nat), 2 ≤ op ∨ eid < 8 ∨ 255 ≤ eid →
    exec (.setEndpointId iid op eid) s = .next { s with out := [.mctp (le 1 0 ++ le 1 (iid % 32) ++ le 1 1 ++ le 1 2 ++ [])] }) ∧
  (∀ (s : State) (iid : Nat), exec (.getEndpointId iid) s =
    .next { s with out := [.mctp (le 1 0 ++ le 1 (iid % 32) ++ le 1 2 ++ le 1 0 ++ (le 1 (s.fld F.MGT_MCTP_CAP_EID) ++ le 1 0 ++ le 1 0))] }) ∧
  (∀ (s : State) (iid : Nat), exec (.getEndpointUuid iid) s = .next { s with out := [.mctp (le 1 0 ++ le 1 (iid % 32) ++ le 1 3 ++ le 1 0 ++
    (le 4 (Config.endpointUuid 0).toNat ++ le 4 (Config.endpointUuid 1).toNat ++ le 4 (Config.endpointUuid 2).toNat ++
      le 4 (Config.endpointUuid 3).toNat))] }) ∧
  (∀ (s : State) (iid ty : Nat), exec (.getMctpVersionSupport iid ty) s = .next { s with out := [.mctp (le 1 0 ++ le 1 (iid % 32) ++ le 1 4 ++
    (if ty = 0 ∨ ty = 0x7F ∨ ty = 0xFF then le 1 0 ++ (le 1 1 ++ le 4 Config.mctpVersion.toNat) else le 1 0x80 ++ []))] }) ∧
  (∀ (s : State) (iid : Nat), exec (.getMessageTypeSupport iid) s =
    .next { s with out := [.mctp (le 1 0 ++ le 1 (iid % 32) ++ le 1 5 ++ le 1 0 ++ (le 1 1 ++ le 1 0x7F))] }) ∧
  (∀ (s : State) (iid : Nat), exec (.getVendorDefinedMessageSupport iid 0) s = .next { s with out := [.mctp (le 1 0 ++ le 1 (iid % 32) ++ le 1 6 ++
    le 1 0 ++ (le 1 0xFF ++ le 1 1 ++ (le 4 (s.fld F.MGT_MCTP_CAP_ENTERPRISE)).reverse ++ zeros 2))] }) ∧
  (∀ (s : State) (iid k : Nat), 0 < k → exec (.getVendorDefinedMessageSupport iid k) s =
    .next { s with out := [.mctp (le 1 0 ++ le 1 (iid % 32) ++ le 1 6 ++ le 1 2 ++ [])] }) ∧
  (∀ (s : State) (ty : Nat), ty ≠ 0 → ty ≠ 0x7F → ty ≠ 0xFF → exec (.mctpUnsupportedType ty) s =
    .next { s with out := [.mctp (le 1 0 ++ le 1 (0 % 32) ++ le 1 0 ++ le 1 0x80 ++ [])] }) ∧
  (∀ (s : State) (ty : Nat), ty = 0 ∨ ty = 0x7F ∨ ty = 0xFF → exec (.mctpUnsupportedType ty) s = .next { s with out := [] })

/-- MSI_OFFER, MSI_ACK and INT_EN_WRITE: one message offered at a time in order of waiting, taken by its acknowledgement, and raised by enabling a pending cause. -/
def Obligations.InterruptMessages : Prop :=
  (∀ (s : State) (n : Nat) (r : List Nat), s.mgt.msiWait = n :: r → s.mgt.msiReq = false →
    exec .msiOffer s = .next { s with mgt := { s.mgt with msiReq := true }, out := [.msi n] }) ∧
  (∀ s : State, s.mgt.msiWait = [] ∨ s.mgt.msiReq = true → exec .msiOffer s = .next { s with out := [] }) ∧
  (∀ s : State, s.mgt.msiReq = true →
    exec .msiAck s = .next { s with mgt := { s.mgt with msiReq := false, msiWait := s.mgt.msiWait.drop 1 }, out := [] }) ∧
  (∀ s : State, s.mgt.msiReq = false → exec .msiAck s = .next { s with out := [] }) ∧
  (∀ (s : State) (n v : Nat), s.disabled n = false → Completes (.intEnWrite n v) s (fun t =>
    t.reg (F.INT_EN_ERR.at n).addr = BitVec.ofNat 64 (v &&& intMask n) ∧ (∀ a, a ≠ (F.INT_EN_ERR.at n).addr → t.reg a = s.reg a) ∧
    t = { s with regs := t.regs, mgt := { s.mgt with msiWait := t.mgt.msiWait }, out := [] } ∧
    t.mgt.msiWait = if s.enabledPending n = 0 ∧ s.reg (F.INT_PEND_ERR.at n).addr &&& BitVec.ofNat 64 (v &&& intMask n) ≠ 0 ∧ n ∉ s.mgt.msiWait
      then s.mgt.msiWait ++ [n] else s.mgt.msiWait)) ∧
  (∀ (s : State) (n v : Nat), s.disabled n = true → exec (.intEnWrite n v) s = .next { s with out := [] })

/-- POWER_CAP_REQUEST and PWR_CAP_WRITE: a code is clamped to 10 to 61, and the effective cap is the lower of both codes. -/
def Obligations.PowerCapSources : Prop :=
  (∀ (s : State) (code : Nat), Completes (.powerCapRequest code) s (fun t =>
    t.fld F.MGT_PWR_STATUS_GW_CAP = max 10 (min 61 code) ∧ t.fld F.MGT_PWR_CAP_CAP_CODE = s.fld F.MGT_PWR_CAP_CAP_CODE ∧
    t.fld F.MGT_PWR_STATUS_EFF_CAP = min (max 10 (min 61 code)) (s.fld F.MGT_PWR_CAP_CAP_CODE) ∧
    (t.overCap = false → t.mgt.capUnacked = none ∧ t.out = [.pwrAck (code % 64) true]) ∧
    (t.overCap = true → t.allParked = true → t.mgt.capUnacked = none ∧ t.out = [.pwrAck (code % 64) false]) ∧
    (t.overCap = true → t.allParked = false → t.mgt.capUnacked = some (code % 64) ∧ t.out = []) ∧
    t = { s with regs := t.regs, mgt := { s.mgt with capUnacked := t.mgt.capUnacked, capRising := t.mgt.capRising }, out := t.out } ∧
    s.onlyFields [F.MGT_PWR_STATUS_GW_CAP, F.MGT_PWR_STATUS_EFF_CAP, F.MGT_PWR_STATUS_CAP_UNMET] t)) ∧
  (∀ (s : State) (v : Nat), Completes (.pwrCapWrite v) s (fun t =>
    t.fld F.MGT_PWR_CAP_CAP_CODE = max 10 (min 61 (v % 64)) ∧ t.fld F.MGT_PWR_STATUS_GW_CAP = s.fld F.MGT_PWR_STATUS_GW_CAP ∧
    t.fld F.MGT_PWR_STATUS_EFF_CAP = min (s.fld F.MGT_PWR_STATUS_GW_CAP) (max 10 (min 61 (v % 64))) ∧
    t = { s with regs := t.regs, mgt := { s.mgt with capUnacked := t.mgt.capUnacked, capRising := t.mgt.capRising }, out := t.out } ∧
    s.onlyFields [F.MGT_PWR_CAP_CAP_CODE, F.MGT_PWR_STATUS_EFF_CAP, F.MGT_PWR_STATUS_CAP_UNMET] t))

/-- CAP_STEP, PWR_ESTIMATE_UPDATE, FAST_SHED and FAST_SHED_RELEASE: one measure at a time toward the cap, the estimate, and the fast hold. -/
def Obligations.PowerCapSteps : Prop :=
  (∀ s : State, s.overCap = true → s.fld F.MGT_PWR_STATUS_TENSOR_STEP < 12 → Completes .capStep s (fun t =>
    t.fld F.MGT_PWR_STATUS_TENSOR_STEP = s.fld F.MGT_PWR_STATUS_TENSOR_STEP + 1 ∧ t.mgt.parked = s.mgt.parked)) ∧
  (∀ (s : State) (n : Nat), s.overCap = true → 12 ≤ s.fld F.MGT_PWR_STATUS_TENSOR_STEP →
    s.enabledCores.find? (fun k => !s.mgt.parked.contains k) = some n → Completes .capStep s (fun t =>
      t.mgt.parked = n :: s.mgt.parked ∧ t.fld F.MGT_PWR_STATUS_PARKED = (s.mgt.parked.length + 1) % 128 ∧
      t.fld F.MGT_PWR_STATUS_TENSOR_STEP = s.fld F.MGT_PWR_STATUS_TENSOR_STEP)) ∧
  (∀ (s : State) (n : Nat) (r : List Nat), s.overCap = false → s.mgt.capRising = true → s.mgt.parked = n :: r → Completes .capStep s (fun t =>
    t.mgt.parked = r ∧ t.fld F.MGT_PWR_STATUS_TENSOR_STEP = s.fld F.MGT_PWR_STATUS_TENSOR_STEP)) ∧
  (∀ s : State, s.overCap = false → s.mgt.capRising = true → s.mgt.parked = [] → 0 < s.fld F.MGT_PWR_STATUS_TENSOR_STEP →
    Completes .capStep s (fun t => t.fld F.MGT_PWR_STATUS_TENSOR_STEP + 1 = s.fld F.MGT_PWR_STATUS_TENSOR_STEP ∧ t.mgt.parked = [])) ∧
  (∀ s : State, Completes .capStep s (fun t =>
    t = { s with regs := t.regs, mgt := { s.mgt with capUnacked := t.mgt.capUnacked, capRising := t.mgt.capRising, parked := t.mgt.parked },
                 out := t.out } ∧
    s.onlyFields [F.MGT_PWR_STATUS_TENSOR_STEP, F.MGT_PWR_STATUS_PARKED, F.MGT_PWR_STATUS_CAP_UNMET] t)) ∧
  (∀ (s : State) (w : Nat), Completes (.pwrEstimateUpdate w) s (fun t => t.fld F.MGT_PWR_STATUS_EST_W = min 1023 w ∧
    s.onlyFields [F.MGT_PWR_STATUS_EST_W, F.MGT_PWR_STATUS_CAP_UNMET] t)) ∧
  (∀ s : State, Completes .fastShed s (fun t => t.flag F.MGT_PWR_STATUS_FAST_HOLD = true ∧ s.onlyBank t ∧
    s.onlyFields [F.MGT_PWR_STATUS_FAST_HOLD] t)) ∧
  (∀ s : State, Completes .fastShedRelease s (fun t => t.flag F.MGT_PWR_STATUS_FAST_HOLD = false ∧ s.onlyBank t ∧
    s.onlyFields [F.MGT_PWR_STATUS_FAST_HOLD] t))

/-- Any sequence of power commands keeps the caps in 10 to 61, the effective cap their minimum, at most 12 clock steps, and cores parked only after every clock step. -/
def Obligations.PowerStateStaysLegal : Prop :=
  State.reset.powerLegal ∧
  (∀ (l : List Instr) (s t : State), (∀ c ∈ l, c.isPower = true) → s.powerLegal → execInOrder l s = some t → t.powerLegal)

/-- LNK_DOWN, LNK_UP, MCS_DOWN, MCS_UP and MCS_ALARM: the port state, the frame abandoned, and the destinations held and released. -/
def Obligations.PortEdges : Prop :=
  (∀ (s : State) (k : Nat), k < 4 → Completes (.lnkDown k) s (fun t => bit (t.fld F.MGT_BOUNDARY_LNK_UP) k = false ∧
    (∀ j, j ≠ k → bit (t.fld F.MGT_BOUNDARY_LNK_UP) j = bit (s.fld F.MGT_BOUNDARY_LNK_UP) j) ∧ t.exp.tx.get none' k = none ∧
    (t.fld F.MGT_BOUNDARY_LNK_UP = 0 → t.flag F.EXP_STATUS_ALL_HELD = true ∧ ∀ d, d < s.image.dests.length → t.destHeld d = true) ∧
    s.onlyMessagesAnd [F.MGT_BOUNDARY_LNK_UP] t)) ∧
  (∀ (s : State) (k : Nat), k < 4 → Completes (.lnkUp k) s (fun t => bit (t.fld F.MGT_BOUNDARY_LNK_UP) k = true ∧
    (∀ j, j ≠ k → bit (t.fld F.MGT_BOUNDARY_LNK_UP) j = bit (s.fld F.MGT_BOUNDARY_LNK_UP) j) ∧ t.flag F.EXP_STATUS_ALL_HELD = false ∧
    s.onlyMessagesAnd [F.MGT_BOUNDARY_LNK_UP] t)) ∧
  (∀ (s : State) (i : Nat), i < 8 → Completes (.mcsDown i) s (fun t => bit (t.fld F.MGT_BOUNDARY_MCS_UP) i = false ∧
    bit (t.fld F.EXP_STATUS_LH_HELD) i = true ∧
    (∀ d, d < s.image.dests.length → s.fld (F.EXP_DEST_DATA_LINK.at d) = 4 + i → t.destHeld d = true) ∧
    s.onlyMessagesAnd [F.MGT_BOUNDARY_MCS_UP] t)) ∧
  (∀ (s : State) (i : Nat), i < 8 → s.exp.alarmWait.get zero i ≠ 1 → Completes (.mcsUp i) s (fun t =>
    bit (t.fld F.MGT_BOUNDARY_MCS_UP) i = true ∧ bit (t.fld F.EXP_STATUS_LH_HELD) i = false ∧
    s.onlyMessagesAnd [F.MGT_BOUNDARY_MCS_UP] t)) ∧
  (∀ s : State, Completes .mcsAlarm s (fun t => t.flag F.MGT_BOUNDARY_MCS_ALARM = true ∧ t.fld F.EXP_STATUS_LH_HELD = 255 ∧
    t.flag F.EXP_STATUS_ALARM_HOLD = true ∧ s.onlyMessagesAnd [F.MGT_BOUNDARY_MCS_ALARM] t))

/-- FRAME_RECEIVE and CHANNEL_TRANSFER: where a frame goes, and how a transfer is counted, checked for parity or discarded. -/
def Obligations.FramesAndChannels : Prop :=
  (∀ (s : State) (port : Nat) (et : Nat) (udp : Option Nat) (p : Bytes), s.works 2 = true → s.inReset = false → s.works 1 = true →
    (et = 0x88F7 ∨ ((et = 0x0800 ∨ et = 0x86DD) ∧ (udp = some 319 ∨ udp = some 320))) →
    Completes (.frameReceive port false et udp p) s (fun t => t.out = [.toTim port p] ∧ s.onlyMessages t)) ∧
  (∀ (s : State) (port : Nat) (udp : Option Nat) (p : Bytes), s.works 2 = true → s.inReset = false → s.works 3 = true →
    s.fld F.ING_CFG_ETHERTYPE ≠ 0x88F7 → s.fld F.ING_CFG_ETHERTYPE ≠ 0x0800 → s.fld F.ING_CFG_ETHERTYPE ≠ 0x86DD →
    Completes (.frameReceive port false (s.fld F.ING_CFG_ETHERTYPE) udp p) s (fun t =>
      ({ s with ing := { s.ing with frames := s.ing.frames ++ [p] } } : State).onlyMessages t ∧ t.out = [])) ∧
  (∀ (s : State) (port et : Nat) (udp : Option Nat) (p : Bytes), s.works 2 = true → s.inReset = false →
    Completes (.frameReceive port true et udp p) s (fun t => (s.incFld F.ING_STATUS_OTHER_FRAMES).onlyMessages t)) ∧
  (∀ (s : State) (port et : Nat) (error : Bool) (udp : Option Nat) (p : Bytes), s.works 2 = false ∨ s.inReset = true →
    exec (.frameReceive port error et udp p) s = .next { s with out := [] }) ∧
  (∀ (s : State) (src dst content ty ch : Nat) (bad : Bool), s.works dst = false → Completes (.channelTransfer src dst content ty ch bad) s (fun t =>
    ({ s with lnk := { s.lnk with chanSent := s.lnk.chanSent.mod zero (dst * 65536 + ch) (· + 1)
                                  chanRecv := s.lnk.chanRecv.mod zero (dst * 65536 + ch) (· + 1) } } : State).onlyMessages t)) ∧
  (∀ (s : State) (src dst content ty ch : Nat), s.works dst = true → s.injectArmed dst 1 = false →
    Completes (.channelTransfer src dst content ty ch false) s (fun t =>
      ({ s with lnk := { s.lnk with chanSent := s.lnk.chanSent.mod zero (dst * 65536 + ch) (· + 1)
                                    chanRecv := s.lnk.chanRecv.mod zero (dst * 65536 + ch) (· + 1) } } : State).onlyMessages t)) ∧
  (∀ (s : State) (src dst content ty ch : Nat), s.works dst = true → s.disabled dst = false → s.injectArmed dst 1 = false →
    s.flag (F.ERR_FIRST_VALID.at dst) = false → s.fld (F.QUIET_CE_LIMIT.at dst) = 0 →
    Completes (.channelTransfer src dst content ty ch true) s (fun t => t.flag (F.ERR_FIRST_VALID.at dst) = true ∧
      t.fld (F.ERR_FIRST_DETECTOR.at dst) = 1 ∧ t.fld (F.ERR_FIRST_LOCATION.at dst) = ch % 2 ^ 40 ∧ t.works dst = true))

/-- LNK_CREDIT_RETURN, MEM_CREDIT_RETURN, REFCLK_LOST and REFCLK_RESTORED: credits counted, and the loss and the return of the reference. -/
def Obligations.CreditsAndReferenceClock : Prop :=
  (∀ (s : State) (p tc : Nat), exec (.lnkCreditReturn p tc) s =
    .next { s with lnk := { s.lnk with credits := s.lnk.credits.mod zeroI (p * 8 + tc) (· + 1) }, out := [] }) ∧
  (∀ (s : State) (p : Nat), s.sto.waiting = [] → exec (.memCreditReturn p) s =
    .next { s with sto := { s.sto with credits := s.sto.credits.mod zero p (· + 1) }, out := [] }) ∧
  (∀ s : State, Completes .refclkLost s (fun t => t.mgt.refclkLost = true ∧ t.flag F.MGT_BOUNDARY_REFCLK_LOST = true ∧
    (∀ n, 1 ≤ n → n < 100 → s.disabled n = false → t.works n = false) ∧ t.istate 0 = s.istate 0)) ∧
  (∀ s : State, s.mgt.refclkLost = true → Completes .refclkRestored s (fun t => t.mgt = { s.mgt with refclkLost := false, msiWait := t.mgt.msiWait } ∧
    (∀ n, 1 ≤ n → n < 100 → s.istate n = 1 → t.fld (F.STATUS_QUIET_LEFT_MS.at n) = s.fld (F.QUIET_PERIOD_MS.at n)) ∧
    (∀ n, s.istate n ≠ 1 → t.fld (F.STATUS_QUIET_LEFT_MS.at n) = s.fld (F.STATUS_QUIET_LEFT_MS.at n)) ∧
    (s.grandmaster = false → t.tim.servo = {}))) ∧
  (∀ s : State, s.mgt.refclkLost = false → exec .refclkRestored s = .next { s with out := [] })

/-- MEM_GRANT_CHANGE, MEM_READ_RETURN and MEM_REFUSED: the grant, read data stored with its poison, and a refused request dropped as an error of STO. -/
def Obligations.MemoryPorts : Prop :=
  (∀ (s : State) (g : Nat), s.sto.waiting = [] → 8 ≤ g → g ≤ 40 →
    exec (.memGrantChange g) s = .next (if s.fld F.MGT_BOUNDARY_MEM_GRANT = g then { s with out := [] }
      else ({ s with out := [] } : State).setFld F.MGT_BOUNDARY_MEM_GRANT g)) ∧
  (∀ (s : State) (g : Nat), g < 8 ∨ 40 < g → g < 64 → s.fld F.MGT_BOUNDARY_MEM_GRANT ≠ g → s.sto.waiting = [] → Completes (.memGrantChange g) s (fun t =>
    t.fld F.MGT_BOUNDARY_MEM_GRANT = g ∧
    (if g < 8 then t.flag F.MGT_BOUNDARY_GRANT_LOW else t.flag F.MGT_BOUNDARY_GRANT_HIGH) = true ∧
    (s.istate 8 ≠ 2 → s.disabled 8 = false → s.flag (F.ERR_FIRST_VALID.at 8) = false → t.fld (F.ERR_FIRST_DETECTOR.at 8) = 0x0B))) ∧
  (∀ (s : State) (p tag : Nat) (pieces : List (Bytes × Bool)) (r : MemReq),
    (s.sto.out.get nil p).find? (fun r => r.tag == tag && !r.write) = some r → Completes (.memReadReturn p tag pieces) s (fun t =>
      t.sto.out.get nil p = (s.sto.out.get nil p).filter (fun r => r.tag != tag) ∧
      (∀ i bs bad, pieces[i]? = some (bs, bad) → ∀ k, k < 64 → t.storeByte (r.dest + 64 * i + k) = (bs ++ zeros 64).getD k 0) ∧
      (∀ i bs bad, pieces[i]? = some (bs, bad) → r.dest % 8 = 0 → ∀ k, k < 64 → t.poisoned (r.dest + 64 * i + k) = bad) ∧
      (∀ a, a < r.dest ∨ r.dest + 64 * pieces.length ≤ a → t.storeByte a = s.storeByte a) ∧
      t = { s with sto := { s.sto with out := t.sto.out, mem := t.sto.mem, poison := t.sto.poison }, out := [] })) ∧
  (∀ (s : State) (p tag : Nat) (r : MemReq), (s.sto.out.get nil p).find? (fun r => r.tag == tag) = some r → Completes (.memRefused p tag) s (fun t =>
    t.sto.out.get nil p = (s.sto.out.get nil p).filter (fun r => r.tag != tag) ∧
    (s.istate 8 ≠ 2 → s.disabled 8 = false → s.flag (F.ERR_FIRST_VALID.at 8) = false →
      t.fld (F.ERR_FIRST_DETECTOR.at 8) = 0x0A ∧ t.fld (F.ERR_FIRST_CLASS.at 8) = 0) ∧ s.sameStore t)) ∧
  (∀ (s : State) (p tag : Nat), (s.sto.out.get nil p).find? (fun r => r.tag == tag) = none → exec (.memRefused p tag) s = .next { s with out := [] })

/-- STORE_ACCESS and PATROL_SCRUB: a word written or read with its poison, a correctable and an uncorrectable error, a refused access, and the scrubber's order. -/
def Obligations.StoreAccesses : Prop :=
  (∀ (s : State) (isl a k : Nat) (w : Word) (p : Bool) (e : Nat) (r : Region), s.regionOf (a / 8 * 8) = some (k, r) → mayWrite isl r = true →
    Completes (.storeAccess isl true a w p e) s (fun t =>
      (∀ i, i < 8 → t.storeByte (a / 8 * 8 + i) = BitVec.ofNat 8 (w.toNat / 256 ^ i)) ∧ t.poisoned a = p ∧
      (∀ b, b / 8 ≠ a / 8 → t.storeByte b = s.storeByte b ∧ t.poisoned b = s.poisoned b) ∧
      (s.storeWrite (a / 8 * 8) (le 8 w.toNat) p).onlyMessages t ∧ t.out = [])) ∧
  (∀ (s : State) (isl a k : Nat) (w : Word) (p : Bool) (r : Region), s.regionOf (a / 8 * 8) = some (k, r) →
    isl = 0 ∨ s.injectArmed isl 3 = false → Completes (.storeAccess isl false a w p 0) s (fun t =>
      t.out = [.word (BitVec.ofNat 64 (ofLe (s.storeBytes (a / 8 * 8) 8))) (s.poisoned a)] ∧ s.onlyMessages t)) ∧
  (∀ (s : State) (isl a k e : Nat) (w : Word) (p : Bool) (r : Region), s.regionOf (a / 8 * 8) = some (k, r) → 2 ≤ e →
    isl = 0 ∨ s.injectArmed isl 3 = false → Completes (.storeAccess isl false a w p e) s (fun t =>
      t.poisoned a = true ∧ t.out.getLast? = some (.word (BitVec.ofNat 64 (ofLe (s.storeBytes (a / 8 * 8) 8))) true) ∧
      (∀ b, t.storeByte b = s.storeByte b) ∧ t.fld F.STO_ECC_UE = min (2 ^ F.STO_ECC_UE.w - 1) (s.fld F.STO_ECC_UE + 1))) ∧
  (∀ (s : State) (isl a k e : Nat) (w : Word) (p : Bool) (r : Region), s.regionOf (a / 8 * 8) = some (k, r) → mayWrite isl r = false →
    Completes (.storeAccess isl true a w p e) s (fun t => s.sameStore t ∧
      t.fld F.STO_VIOL_COUNT = min (2 ^ F.STO_VIOL_COUNT.w - 1) (s.fld F.STO_VIOL_COUNT + 1))) ∧
  (∀ (s : State) (isl a e : Nat) (w : Word) (p : Bool), s.regionOf (a / 8 * 8) = none → Completes (.storeAccess isl false a w p e) s (fun t =>
    s.sameStore t ∧ t.out.getLast? = some (.word 0 true))) ∧
  (∀ s : State, s.fld F.STO_CFG_SCRUB_H ≠ 0 → s.sto.scrubAt + 1 < storeWords → exec (.patrolScrub 0 false) s =
    .next { s with sto := { s.sto with scrubAt := s.sto.scrubAt + 1 }, out := [] }) ∧
  (∀ (s : State) (e : Nat), s.fld F.STO_CFG_SCRUB_H ≠ 0 → s.sto.scrubAt + 1 = storeWords → Completes (.patrolScrub e true) s (fun t =>
    t.sto.scrubAt = 0 ∧ t.fld F.STO_ECC_SCRUB_PASSES = min (2 ^ F.STO_ECC_SCRUB_PASSES.w - 1) (s.fld F.STO_ECC_SCRUB_PASSES + 1))) ∧
  (∀ (s : State) (e : Nat) (skip : Bool), s.fld F.STO_CFG_SCRUB_H = 0 → exec (.patrolScrub e skip) s = .next { s with out := [] })

/-- Decoding a block that COD has coded gives back the data, with status 0, for every element width, dictionary generation and dictionary. -/
def Obligations.CodedBlocksDecodeToTheirData : Prop :=
  ∀ (elem g : Nat) (dict : List Nat) (raw : Bytes), g < 4 → dict.length ≤ 256 → 8 ≤ raw.length → raw.length ≤ 16777216 → raw.length % 8 = 0 →
    decodeBlock g (some dict) (encodeBlock elem g dict raw) = (0, raw) ∧ (encodeBlock elem g dict raw).length ≤ 16 + raw.length

/-- The DICT rows, CODE_BLOCK and DECODE_BLOCK: banks written, switched and retired; the block or the data handed on and counted. -/
def Obligations.DictionaryBanksAndCodingJobs : Prop :=
  (∀ s : State, exec .dictActivate s = .next (({ s with out := [] } : State).setFld
    (if s.retiring s.cod.idle = true ∨ s.commitArmed = true then F.COD_DICT_CTRL_ACT_REFUSED else F.COD_DICT_CTRL_ACTIVATE) 1)) ∧
  (∀ (s : State) (v : Nat), exec (.dictDataWrite v) s = .next (if s.retiring s.cod.idle = true ∨ s.commitArmed = true
    then ({ s with out := [] } : State).setFld F.COD_DICT_CTRL_LOAD_REFUSED 1
    else ({ s with out := [] } : State).setFld (F.COD_DICT_DATA_VALUE.at (s.fld F.COD_DICT_INDEX_ENTRY)) v)) ∧
  (∀ (s : State) (b : Nat), [0, 1].find? (fun b => s.retiring b && s.fld (bankField b F.COD_BANK0_INFLIGHT) == 0) = some b →
    Completes .dictBankRetire s (fun t => t.retiring b = false ∧ t = { s with regs := t.regs, cod := { s.cod with idle := b }, out := [] } ∧
      t.fld F.COD_DICT_CTRL_IDLE_ENTRIES = (s.cod.banks.get nil b).length % 512 ∧
      (∀ i, i < 256 → t.fld (F.COD_DICT_DATA_VALUE.at i) = (s.cod.banks.get nil b).getD i 0 % 2 ^ 64) ∧
      s.onlyFields (bankField b F.COD_BANK0_RETIRING :: F.COD_DICT_CTRL_IDLE_ENTRIES :: (List.range 256).map F.COD_DICT_DATA_VALUE.at) t)) ∧
  (∀ s : State, [0, 1].find? (fun b => s.retiring b && s.fld (bankField b F.COD_BANK0_INFLIGHT) == 0) = none →
    exec .dictBankRetire s = .next { s with out := [] }) ∧
  (∀ (s : State) (elem room : Nat) (own : Bool) (raw : Bytes), s.works 9 = true → ∀ (g : Nat) (d : List Nat) (b : Bytes),
    (g, d) = (if own then (s.ownDict.1, s.ownDict.2.2) else (0, [])) → b = encodeBlock elem g d raw →
    (room < b.length → Completes (.codeBlock elem own raw room) s (fun t => t.out = [] ∧ (s.incFld F.COD_CNT_NOSPACE).onlyMessages t)) ∧
    (b.length ≤ room → Completes (.codeBlock elem own raw room) s (fun t => t.out = [.block 0 b b.length] ∧
      (s.incFld (if blockRaw b then F.COD_CNT_RAW_STORED else F.COD_CNT_CODED)).onlyMessages t))) ∧
  (∀ (s : State) (g : Nat) (ser : Option Nat) (b data : Bytes), s.works 9 = true → decodeBlock g (s.dictOf g ser) b = (0, data) →
    Completes (.decodeBlock g ser b) s (fun t => t.out = [.block 0 data data.length] ∧ s.onlyMessages t)) ∧
  (∀ (s : State) (g st : Nat) (ser : Option Nat) (b data : Bytes), s.works 9 = true → decodeBlock g (s.dictOf g ser) b = (st, data) →
    1 ≤ st → st ≤ 6 → Completes (.decodeBlock g ser b) s (fun t =>
      t.fld (decErr st) = min 255 (s.fld (decErr st) + 1) ∧ s.onlyBank t ∧ s.onlyFields [decErr st] t ∧
      t.out = [.block st [] (if st = 1 then b.length else blockRawLen b)])) ∧
  (∀ (s : State) (elem room g : Nat) (own : Bool) (raw b : Bytes) (ser : Option Nat), s.works 9 = false →
    exec (.codeBlock elem own raw room) s = .next { s with out := [] } ∧ exec (.decodeBlock g ser b) s = .next { s with out := [] })

/-- ARCHIVE_APPEND, ARCHIVE_WRITE_DONE and PIN_EXPIRE: an epoch joins its live block, a written block gets its index entry, and a pin lapses. -/
def Obligations.ArchiveStreams : Prop :=
  (∀ (s : State) (k e : Nat) (c : ArchCfg) (content : Bytes) (bad : Bool), s.image.archives[k]? = some c → s.works 9 = true →
    e = archNext c ((s.arch k).next.getD (s.epoch - 1)) → s.slotPassed (s.regionNo c.source) c.slots e = false →
    s.readSlot (s.regionNo c.source) c.slots e = some (content, bad) →
    (s.arch k).raw.length + (pad8 content).length ≤ c.rawKib * 1024 → Completes (.archiveAppend k) s (fun t =>
      (t.arch k).raw = (s.arch k).raw ++ pad8 (if bad then zeros content.length else content) ∧ (t.arch k).count = (s.arch k).count + 1 ∧
      (t.arch k).last = e ∧ (t.arch k).next = some (e + 2 ^ c.decimate) ∧ (t.arch k).bad = ((s.arch k).bad || bad) ∧
      ((s.arch k).raw = [] → (t.arch k).first = e) ∧ ((s.arch k).raw ≠ [] → (t.arch k).first = (s.arch k).first) ∧
      (∀ j, j ≠ k → t.arch j = s.arch j) ∧ s.sameStore t)) ∧
  (∀ (s : State) (k p : Nat) (c : ArchCfg) (e : IndexEntry), s.image.archives[k]? = some c → (s.arch k).writing = some e →
    s.freePlace k (max 1 (s.indexPlaces c)) 5 (s.arch k).place = some p → Completes (.archiveWriteDone k) s (fun t =>
      (t.arch k).writing = none ∧ (t.arch k).entries.get none' p = some e ∧ (t.arch k).place = (p + 1) % max 1 (s.indexPlaces c) ∧
      (∀ i, i < 32 → t.storeByte ((s.regionNo c.index).base + 65536 + 32 * p + i) = (indexBytes e).getD i 0) ∧
      (∀ a, a < (s.regionNo c.index).base + 65536 + 32 * p ∨ (s.regionNo c.index).base + 65536 + 32 * p + 32 ≤ a → t.storeByte a = s.storeByte a) ∧
      t.fld (F.COD_ARCH_CNT_BLOCKS.at k) = min 65535 (s.fld (F.COD_ARCH_CNT_BLOCKS.at k) + 1) ∧
      (∀ j, j ≠ k → t.arch j = s.arch j))) ∧
  (∀ (s : State) (pin : Nat), exec (.pinExpire pin) s =
    .next { s with cod := { s.cod with pins := s.cod.pins.put none' pin none }, out := [] })

/-- RECORD_FRAME and REASSEMBLY_TIMEOUT: packed records parsed, a bad frame discarded, a fragment kept, and a reassembly given up. -/
def Obligations.RecordsEnterIngest : Prop :=
  (∀ (s : State) (f : Bytes) (rest : List Bytes), s.ing.frames = f :: rest → s.works 3 = true →
    (f.length < 16 ∨ (crc32c (f.take 12)).toNat ≠ bytesAt f 12 4 ∨ bytesAt f 0 1 % 16 ≠ 1) →
    exec .recordFrame s = .next (({ s with ing := { s.ing with frames := rest }, out := [] } : State).incFld F.ING_STATUS_OTHER_FRAMES)) ∧
  (∀ (s : State) (f : Bytes) (rest : List Bytes), s.ing.frames = f :: rest → s.works 3 = true →
    16 ≤ f.length → (crc32c (f.take 12)).toNat = bytesAt f 12 4 → bytesAt f 0 1 % 16 = 1 → bit (bytesAt f 1 1) 0 = true → bit (bytesAt f 1 1) 1 = true →
    exec .recordFrame s = .next { s with out := [], ing := { s.ing with
      frames := rest, arrived := s.ing.arrived ++ packedRecords (f.drop 16).length (f.drop 16) } }) ∧
  (∀ (s : State) (f : Bytes) (rest : List Bytes), s.ing.frames = f :: rest → s.works 3 = true →
    16 ≤ f.length → (crc32c (f.take 12)).toNat = bytesAt f 12 4 → bytesAt f 0 1 % 16 = 1 → bit (bytesAt f 1 1) 1 = false →
    (bytesAt f 4 4, bytesAt f 8 4) ∉ s.ing.dead → s.ing.reasm.find? (fun r => r.src == bytesAt f 4 4 && r.seq == bytesAt f 8 4) = none →
    s.ing.reasm.length < 256 → Completes .recordFrame s (fun t => t.ing.frames = rest ∧ t.ing.arrived = s.ing.arrived ∧
      (∀ r ∈ s.ing.reasm, r ∈ t.ing.reasm) ∧
      ∃ r ∈ t.ing.reasm, r.src = bytesAt f 4 4 ∧ r.seq = bytesAt f 8 4 ∧ r.frags.get none' (bytesAt f 2 2) = some (f.drop 16))) ∧
  (∀ (s : State) (f : Bytes) (rest : List Bytes), s.ing.frames = f :: rest → s.works 3 = false → Completes .recordFrame s (fun t =>
    ({ s with ing := { s.ing with frames := rest } } : State).onlyMessages t)) ∧
  (∀ (s : State) (src seq : Nat), s.ing.reasm.any (fun r => r.src == src && r.seq == seq) = true → Completes (.reassemblyTimeout src seq) s (fun t =>
    t.ing = { s.ing with reasm := s.ing.reasm.filter (fun r => !(r.src == src && r.seq == seq)), dead := ((src, seq) :: s.ing.dead).take 256 } ∧
    (src, seq) ∈ t.ing.dead ∧ s.onlyFields [F.ING_STATUS_REASM_OPEN] t)) ∧
  (∀ (s : State) (src seq : Nat), s.ing.reasm.any (fun r => r.src == src && r.seq == seq) = false →
    exec (.reassemblyTimeout src seq) s = .next { s with out := [] })

/-- RECORD_INGEST: a record that fails the header check is counted under its reason, an accepted green one joins its queue, and a red one is dropped. -/
def Obligations.RecordsCheckedAndQueued : Prop :=
  (∀ (s : State) (dt : Nat) (b : Bytes) (rest : List Bytes), s.ing.arrived = b :: rest → s.works 3 = true → s.injectArmed 3 5 = false →
    s.headerFailure b false ≠ 0 → Completes (.recordIngest dt) s (fun t => t.ing.arrived = rest ∧ t.ing.queues = s.ing.queues ∧
      t.fld (hdrErrField (s.headerFailure b false)) = min 255 (s.fld (hdrErrField (s.headerFailure b false)) + 1))) ∧
  (∀ (s : State) (dt k : Nat) (b : Bytes) (rest : List Bytes) (r : Rec), s.ing.arrived = b :: rest → s.works 3 = true → s.injectArmed 3 5 = false →
    s.headerFailure b false = 0 → r = Rec.parse b → s.streamNo (senderOf r.src) r.cls = some k →
    (s.flag (F.ING_STREAM_KEY_SEQ_CHECK.at k) = false ∨ (s.ing.streams.get (fun _ => {}) k).xSet = false) →
    (s.police k r.size (if s.flag (F.ING_STREAM_KEY_COLOUR_AWARE.at k) then s.image.colours.getD r.cls 0 else 0) dt).1 = 0 →
    recsSize (s.ing.queues.get nil (s.fld (F.ING_STREAM_KEY_QUEUE.at k))) + r.size ≤
      s.fld (F.ING_QUEUE_DATA_DEPTH_KIB.at (s.fld (F.ING_STREAM_KEY_QUEUE.at k))) * 1024 →
    Completes (.recordIngest dt) s (fun t => t.ing.arrived = rest ∧
      t.ing.queues.get nil (s.fld (F.ING_STREAM_KEY_QUEUE.at k)) =
        s.ing.queues.get nil (s.fld (F.ING_STREAM_KEY_QUEUE.at k)) ++ [r.withFlagIf (s.closedAt r) flagLate] ∧
      (∀ q, q ≠ s.fld (F.ING_STREAM_KEY_QUEUE.at k) → t.ing.queues.get nil q = s.ing.queues.get nil q) ∧
      t.fld (F.ING_STREAM_CNT0_RECEIVED.at k) = min (2 ^ F.ING_STREAM_CNT0_RECEIVED.w - 1) (s.fld (F.ING_STREAM_CNT0_RECEIVED.at k) + 1))) ∧
  (∀ (s : State) (dt k : Nat) (b : Bytes) (rest : List Bytes) (r : Rec), s.ing.arrived = b :: rest → s.works 3 = true → s.injectArmed 3 5 = false →
    s.headerFailure b false = 0 → r = Rec.parse b → s.streamNo (senderOf r.src) r.cls = some k →
    (s.flag (F.ING_STREAM_KEY_SEQ_CHECK.at k) = false ∨ (s.ing.streams.get (fun _ => {}) k).xSet = false) →
    (s.police k r.size (if s.flag (F.ING_STREAM_KEY_COLOUR_AWARE.at k) then s.image.colours.getD r.cls 0 else 0) dt).1 = 2 → r.type ≠ 0x0B →
    Completes (.recordIngest dt) s (fun t => t.ing.arrived = rest ∧ t.ing.queues = s.ing.queues ∧
      t.fld (F.ING_STREAM_CNT1_RED.at k) = min (2 ^ F.ING_STREAM_CNT1_RED.w - 1) (s.fld (F.ING_STREAM_CNT1_RED.at k) + 1)))

/-- ALN_RECORD_ACCEPT, EPOCH_CLOSE and REDUCTION_DONE: a record taken or made to wait, an epoch closed, and a closed epoch reduced and sent up. -/
def Obligations.RecordsAlignedAndClosed : Prop :=
  (∀ (s : State) (q : Nat) (r : Rec) (rest : List Rec), s.works 4 = true → s.ing.queues.get nil q = r :: rest →
    ((r.type = 1 ∨ r.type = 2 ∨ r.type = 3 ∨ r.type = 0x20) → s.mustWait (levelOfRecord r) (if r.type = 0x20 then r.epoch else dataEpoch r) = false) →
    Completes (.alnRecordAccept q) s (fun t => t.ing.queues.get nil q = rest ∧ ∀ p, p ≠ q → t.ing.queues.get nil p = s.ing.queues.get nil p)) ∧
  (∀ (s : State) (q : Nat) (r : Rec) (rest : List Rec), s.works 4 = true → s.ing.queues.get nil q = r :: rest →
    (r.type = 1 ∨ r.type = 2 ∨ r.type = 3 ∨ r.type = 0x20) → s.mustWait (levelOfRecord r) (if r.type = 0x20 then r.epoch else dataEpoch r) = true →
    exec (.alnRecordAccept q) s = .next { s with out := [] }) ∧
  (∀ (s : State) (q : Nat) (r : Rec) (rest : List Rec) (x : AEpoch), s.works 4 = true → s.ing.queues.get nil q = r :: rest → r.type = 3 → r.comp = 0 →
    s.mustWait (levelOfRecord r) r.epoch = false → s.aln.epochs.find? (fun x => x.level == 0 && x.epoch == r.epoch) = some x → x.st = 0 →
    Completes (.alnRecordAccept q) s (fun t => t.aln.epochs = s.aln.epochs.map (fun y => if y.level = 0 ∧ y.epoch = r.epoch then
      { y with contribs := joinContrib y.contribs {
        sender := senderOf r.src, quality := r.quality, loss := r.flag flagLoss,
        inputs := ((healthInputs r).partition (fun i => i.poison)).2 ++ ((healthInputs r).partition (fun i => i.poison)).1,
        poisoned := ((healthInputs r).partition (fun i => i.poison)).1.length } } else y))) ∧
  (∀ (s : State) (level : Nat) (x : AEpoch), s.works 4 = true → s.inReset = false →
    s.aln.epochs.find? (fun x => x.level == level && x.st == 0) = some x → Completes (.epochClose level) s (fun t =>
      (∃ y ∈ t.aln.epochs, y.level = level ∧ y.epoch = x.epoch ∧ y.st = 1) ∧ (∀ y ∈ t.aln.epochs, y.level = level → y.epoch = x.epoch → y.st = 1) ∧
      t.fld (F.ALN_LEVEL_CNT_MISSING.at level) = min (2 ^ F.ALN_LEVEL_CNT_MISSING.w - 1) (s.fld (F.ALN_LEVEL_CNT_MISSING.at level) +
        (x.expected - (x.contribs.filter (fun c => decide (c.sender < 2 ^ 32))).length)))) ∧
  (∀ (s : State) (level : Nat) (x : AEpoch), s.works 4 = false → s.aln.epochs.find? (fun x => x.level == level && x.st == 0) = some x →
    Completes (.epochClose level) s (fun t =>
      t.aln.epochs = s.aln.epochs.map (fun y => if y.level = level ∧ y.epoch = x.epoch then { y with st := 3 } else y))) ∧
  (∀ (s : State) (level : Nat) (x : AEpoch), s.works 4 = true → s.aln.epochs.find? (fun x => x.level == level && x.st == 1) = some x →
    Completes (.reductionDone level) s (fun t =>
      (∃ y ∈ t.aln.epochs, y.level = level ∧ y.epoch = x.epoch ∧ y.st = 2) ∧ (∀ y ∈ t.aln.epochs, y.level = level → y.epoch = x.epoch → y.st = 2) ∧
      ∀ b : SumBody, b = s.reduceAll 0 x (if level = 0 then x.contribs ++ s.baseContrib x.epoch else x.contribs) → x.level < 2 → level = x.level →
        b.res = 0 → (s.outlet level).span = none → s.wantedRes level x.epoch 0 = 0 →
        ((t.aln.rings.get nil level).getLast?).map (fun r => (r.type, r.epoch, r.body)) = some (0x20, x.epoch, pad8 b.bytes)))

/-- COARSEN_REQUEST, COARSEN_RESEND, BYPASS_BROADCAST and BYPASS_REFUSAL: a parent's request kept, a request sent again, a diversion begun or ended, and a refusal. -/
def Obligations.CoarseningAndBypass : Prop :=
  (∀ (s : State) (src step e level : Nat), s.works 4 = true → level < 2 → s.parentOf level = some src → Completes (.coarsenRequest src step e) s (fun t =>
    (t.outlet level).req = some (src, step, e) ∧ t.fld (F.ALN_LEVEL_STATE_REQ_RES.at level) = step % 2 ^ F.ALN_LEVEL_STATE_REQ_RES.w)) ∧
  (∀ (s : State) (src step e level : Nat), s.works 4 = true → level < 2 → s.parentOf level ≠ some src → Completes (.coarsenRequest src step e) s (fun t =>
    t.outlet level = s.outlet level ∧ t.fld (F.ALN_LEVEL_STATE_REQ_RES.at level) = s.fld (F.ALN_LEVEL_STATE_REQ_RES.at level))) ∧
  (∀ (s : State) (level : Nat), s.works 4 = true → 1 ≤ level → s.fld (F.ALN_LEVEL_STATE_SELF_RES.at level) ≠ 0 → s.silent = false →
    Completes (.coarsenResend level) s (fun t => (∃ r : Rec, t.out = [.directed (s.childAddrs level) r] ∧ r.type = 0x23 ∧
      r.body = pad8 (le 1 (s.fld (F.ALN_LEVEL_STATE_SELF_RES.at level)) ++ le 1 0 ++ zeros 2 ++ le 6 (s.outlet level).selfFrom ++ zeros 6)) ∧
      (s.modOutlet level (fun o => { o with sinceReq := 0 })).onlyMessages t)) ∧
  (∀ (s : State) (src partner act : Nat) (on : Bool), s.mgt.nodeTree.parent = some src → Completes (.bypassBroadcast src partner on act) s (fun t =>
    (s.modOutlet 0 (fun o => { o with divert := if on then some (partner, act) else none })).onlyMessages t)) ∧
  (∀ (s : State) (src partner act : Nat) (on : Bool), s.mgt.nodeTree.parent ≠ some src → Completes (.bypassBroadcast src partner on act) s (fun t =>
    s.onlyMessages t)) ∧
  (∀ (s : State) (src : Nat), s.flag (F.ALN_LEVEL_STATE_BYPASS_ACTIVE.at 1) = true → src / 2 ^ 24 = s.fld (F.ALN_LEVEL_CFG_PARTNER.at 1) →
    Completes (.bypassRefusal src) s (fun t => t.flag (F.ALN_LEVEL_STATE_BYPASS_ACTIVE.at 1) = false ∧ (t.outlet 1).bypassFrom = some s.epoch ∧
      t.fld (F.ALN_LEVEL_STATE_SELF_RES.at 1) = (if s.fld (F.ALN_LEVEL_STATE_SELF_RES.at 1) < min 6 (s.fld F.ALN_CFG_MAX_STEP)
        then s.fld (F.ALN_LEVEL_STATE_SELF_RES.at 1) + 1 else s.fld (F.ALN_LEVEL_STATE_SELF_RES.at 1))))

/-- FEATURE_PASS, BASELINE_PRODUCT, BASE_DEADLINE, MODEL_OUTPUTS and EXT_DATA_WRITE: rows begun, marked and completed, and external entries. -/
def Obligations.FeatureRowsProgress : Prop :=
  (∀ (s : State) (level e cls : Nat) (x : AEpoch), s.works 5 = true → s.closedInputs level e = some x → cls ∈ classesOf level →
    s.program cls e ≠ [] → s.rowsOf cls e = [] → Completes (.featurePass level e) s (fun t =>
      (t.rowsOf cls e).map (fun r => r.subject) = (s.subjects cls).map (fun u => u.addr) ∧
      ∀ r ∈ t.rowsOf cls e, bit r.passes 0 = true ∧ r.slots.length = (s.program cls e).length)) ∧
  (∀ (s : State) (cls e : Nat) (subs : List Nat) (r : FRow), s.works 5 = true → r ∈ s.rowsOf cls e → r.passes = 1 → r.subject ∈ subs →
    Completes (.baselineProduct cls e subs) s (fun t => ∃ r' ∈ t.rowsOf cls e, r'.subject = r.subject ∧ r'.product = true)) ∧
  (∀ (s : State) (cls e : Nat), s.works 5 = true → s.hasBase cls e = true → Completes (.baseDeadline cls e) s (fun t =>
    t.fld F.FEA_CNT_MODEL_LATE = min 65535 (s.fld F.FEA_CNT_MODEL_LATE +
      ((s.rowsOf cls e).filter (fun r => r.passes == 1 && !r.product && (baseVector (s.program cls e) r).isSome)).length) ∧
    ∀ (x : AEpoch) (r : FRow) (rs : List FRow), s.closedInputs (levelOfClass cls) e = some x → s.rowsOf cls e = r :: rs → r.passes = 1 →
      ∀ r' ∈ t.rowsOf cls e, bit r'.passes 1 = true)) ∧
  (∀ (s : State) (cls e : Nat) (outs : List ModelOut) (r : FRow) (o : ModelOut), s.works 5 = true → r ∈ s.rowsOf cls e → bit r.passes 2 = false →
    outs.find? (fun o => o.subject == r.subject) = some o → Completes (.modelOutputs cls e outs) s (fun t =>
      ∃ r' ∈ t.rowsOf cls e, r'.subject = r.subject ∧ r'.outs = some (if o.poison then [] else o.vals))) ∧
  (∀ (s : State) (k v : Nat), exec (.extDataWrite k v) s = .next { s.setReg (F.FEA_EXT_DATA_SUBJECT.at (k % 4096)).addr (BitVec.ofNat 64 v) with
    out := [], fea := { s.fea with extDue := if (k % 4096) ∈ s.fea.extDue then s.fea.extDue else s.fea.extDue ++ [k % 4096] } })

/-- TREE_EVALUATE, TREE_LOOKUPS_DONE, TREE_DEADLINE, SCRUB_READ and BANK_RETIRE: lookups begun, score rows made, lookups abandoned, entry repaired, bank retired. -/
def Obligations.TreeLookupsProgress : Prop :=
  (∀ (s : State) (cls e subj : Nat), s.works 6 = true → (s.doneRow cls e subj).isSome = true → (cls, e, subj, s.bankFor e) ∉ s.tre.flight →
    s.flag (treBank (s.bankFor e) F.TRE_BANK0_VALID) = true → Completes (.treeEvaluate cls e subj) s (fun t =>
      t.tre.flight = s.tre.flight ++ [(cls, e, subj, s.bankFor e)] ∧
      (s.setFlight (s.tre.flight ++ [(cls, e, subj, s.bankFor e)])).onlyMessages t)) ∧
  (∀ (s : State) (cls e subj b : Nat) (errs : List (Nat × Nat × Nat)) (row : FRow), s.works 6 = true →
    s.tre.flight.find? (fun f => f.1 == cls && f.2.1 == e && f.2.2.1 == subj) = some (cls, e, subj, b) → s.doneRow cls e subj = some row →
    Completes (.treeLookupsDone cls e subj errs) s (fun t => (cls, e, subj, b) ∉ t.tre.flight ∧
      ∀ en ∈ s.ensemblesOf b cls, ∃ r ∈ t.tre.rows, r.cls = cls ∧ r.epoch = e ∧ r.subject = subj ∧ r.ensemble = en.1 ∧ r.bank = b ∧ r.status ≠ 2)) ∧
  (∀ (s : State) (level e : Nat), s.works 6 = true → Completes (.treeDeadline level e) s (fun t =>
    (∀ f ∈ t.tre.flight, ¬ (levelOfClass f.1 = level ∧ f.2.1 = e)) ∧
    t.fld F.TRE_CNT0_ABANDONED = min 65535 (s.fld F.TRE_CNT0_ABANDONED +
      (s.tre.flight.filter (fun f => levelOfClass f.1 == level && f.2.1 == e)).length) ∧
    ∀ f ∈ s.tre.flight, levelOfClass f.1 = level → f.2.1 = e → ∀ en ∈ s.ensemblesOf f.2.2.2 f.1,
      ∃ r ∈ t.tre.rows, r.cls = f.1 ∧ r.epoch = e ∧ r.subject = f.2.2.1 ∧ r.ensemble = en.1 ∧ r.status = 2)) ∧
  (∀ (s : State) (b slice row : Nat) (bp : Bool) (e : TEntry), b < 2 → slice < 16 → row < 32768 → s.fld F.TRE_CFG_SCRUB_LOG2 ≠ 15 → s.istate 6 ≠ 2 →
    (s.tre.backing.get (fun _ => {}) b).entries.find? (fun x => x.1 == slice * 32768 + row) = some (slice * 32768 + row, e) →
    Completes (.scrubRead b slice row true bp) s (fun t =>
      (bp = false → t.fld F.TRE_CNT0_SCRUB_FIX = min 65535 (s.fld F.TRE_CNT0_SCRUB_FIX + 1) ∧
        ∀ x ∈ (t.tbank b).tables.entries, x.1 = slice * 32768 + row → x.2 = e) ∧
      (bp = true → (∀ x ∈ (t.tbank b).tables.entries, x.1 = slice * 32768 + row → x.2.valid = false) ∧ e.value % 2 ^ 16 ∈ (t.tbank b).excluded))) ∧
  (∀ (s : State) (b slice row : Nat) (bp : Bool), s.istate 6 ≠ 2 → s.injectArmed 6 6 = false → Completes (.scrubRead b slice row false bp) s (fun t =>
    s.onlyMessages t)) ∧
  (∀ s : State, exec .bankRetire s = .next (if s.flag F.TRE_STATUS_OLD_BUSY = true ∧ s.oldEpochs = false
    then (({ s with out := [] } : State).setFld F.TRE_STATUS_OLD_BUSY 0).setFld F.TRE_STATUS_SHADOW_READY 1 else { s with out := [] }))

/-- PROGRAM_FAULT, TICK_OVERRUN and PROGRAM_RESTART: a running program stops and is counted, 16 misses in a row stop it, a stopped one runs again. -/
def Obligations.StewardPrograms : Prop :=
  (∀ (s : State) (p : Nat), p < 16 → s.progState p = 1 → Completes (.programFault p) s (fun t =>
    t.progState p = 2 ∧ t.fld (F.STW_PROG_DATA_FAULTS.at p) = min 65535 (s.fld (F.STW_PROG_DATA_FAULTS.at p) + 1) ∧
    t.flag F.MGT_MCTP_CAP_QUERY_READY = t.serviceRuns 0 ∧
    (s.istate 14 ≠ 2 → s.disabled 14 = false → s.flag (F.ERR_FIRST_VALID.at 14) = false →
      t.fld (F.ERR_FIRST_DETECTOR.at 14) = 0x14 ∧ t.fld (F.ERR_FIRST_LOCATION.at 14) = p ∧ t.flag (F.ERR_FIRST_VALID.at 14) = true) ∧
    ({ s with stw := { s.stw with overruns := s.stw.overruns.put (fun _ => (0, 0)) p (0, 0) } } : State).onlyMessagesAnd
      [F.STW_PROG_DATA_STATE.at p, F.STW_PROG_DATA_FAULTS.at p, F.MGT_MCTP_CAP_QUERY_READY, .whole (F.ERR_FIRST_VALID.at 14).addr, .whole (F.ERR_MERGED_COUNT.at 14).addr, F.STATUS_QUIET_LEFT_MS.at 14] t)) ∧
  (∀ (s : State) (p n e m : Nat), p < 16 → s.progState p = 1 → s.stw.overruns.get (fun _ => (0, 0)) p = (n, e) →
    m = (if e + 1 = s.epoch then n + 1 else 1) → m < 16 →
    exec (.tickOverrun p) s =
      .next (({ s with out := [], stw := { s.stw with overruns := s.stw.overruns.put (fun _ => (0, 0)) p (m, s.epoch) } } : State).incFld (F.STW_PROG_DATA_OVERRUNS.at p))) ∧
  (∀ (s : State) (p n e : Nat), p < 16 → s.progState p = 1 → s.stw.overruns.get (fun _ => (0, 0)) p = (n, e) → e + 1 = s.epoch → 15 ≤ n →
    Completes (.tickOverrun p) s (fun t => t.progState p = 2 ∧
      t.fld (F.STW_PROG_DATA_OVERRUNS.at p) = min 65535 (s.fld (F.STW_PROG_DATA_OVERRUNS.at p) + 1) ∧
      t.fld (F.STW_PROG_DATA_FAULTS.at p) = min 65535 (s.fld (F.STW_PROG_DATA_FAULTS.at p) + 1))) ∧
  (∀ (s : State) (p : Nat) (c : Instr), p < 16 → s.progState p ≠ 1 → c = .programFault p ∨ c = .tickOverrun p →
    exec c s = .next { s with out := [] }) ∧
  (∀ (s : State) (p : Nat), p < 16 → s.progState p = 2 ∨ s.progState p = 3 → s.works 14 = true → Completes (.programRestart p) s (fun t =>
    t.progState p = 1 ∧ t.flag F.MGT_MCTP_CAP_QUERY_READY = t.serviceRuns 0 ∧
    (∀ m c, 1 ≤ m → m < 4 → s.mboxOwner m = some c → t.serviceRuns c = true → s.flag (F.STW_MBOX_CTRL_DOORBELL.at m) = true →
      s.flag (F.STW_MBOX_CTRL_BUSY.at m) = false →
      t.flag (F.STW_MBOX_CTRL_BUSY.at m) = true ∧ t.flag (F.STW_MBOX_CTRL_DOORBELL.at m) = false) ∧
    ((∀ m < 4, s.flag (F.STW_MBOX_CTRL_DOORBELL.at m) = false) → s.onlyBank t ∧ t.out = [] ∧
      s.onlyFields [F.STW_PROG_DATA_STATE.at p, F.MGT_MCTP_CAP_QUERY_READY] t))) ∧
  (∀ (s : State) (p : Nat), p < 16 → (s.progState p ≠ 2 ∧ s.progState p ≠ 3) ∨ s.works 14 = false →
    exec (.programRestart p) s = .next { s with out := [] })

/-- MAILBOX_DOORBELL, MAILBOX_RESPONSE and QUERY_REQUEST: a request delivered, its response shown with DONE, and a query held or answered at once. -/
def Obligations.MailboxesAndQueries : Prop :=
  (∀ (s : State) (m : Nat), m < 4 → s.flag (F.STW_MBOX_CTRL_BUSY.at m) = true ∨ s.mboxOwner m = none →
    exec (.mailboxDoorbell m) s = .next { s with out := [] }) ∧
  (∀ (s : State) (m c : Nat), m < 4 → s.flag (F.STW_MBOX_CTRL_BUSY.at m) = false → s.mboxOwner m = some c → s.serviceRuns c = false →
    Completes (.mailboxDoorbell m) s (fun t => t.flag (F.STW_MBOX_CTRL_DOORBELL.at m) = true ∧ t.flag (F.STW_MBOX_CTRL_BUSY.at m) = false ∧
      s.onlyBank t ∧ t.out = [] ∧ s.onlyFields [F.STW_MBOX_CTRL_DOORBELL.at m] t)) ∧
  (∀ (s : State) (m c : Nat), 1 ≤ m → m < 4 → s.flag (F.STW_MBOX_CTRL_BUSY.at m) = false → s.mboxOwner m = some c → s.serviceRuns c = true →
    Completes (.mailboxDoorbell m) s (fun t => t.flag (F.STW_MBOX_CTRL_DOORBELL.at m) = false ∧ t.flag (F.STW_MBOX_CTRL_BUSY.at m) = true ∧
      s.onlyBank t ∧ t.out = [] ∧ s.onlyFields [F.STW_MBOX_CTRL_DOORBELL.at m, F.STW_MBOX_CTRL_BUSY.at m] t)) ∧
  (∀ (s : State) (q : Bytes), s.flag (F.STW_MBOX_CTRL_BUSY.at 0) = false → s.mboxOwner 0 = some 0 → s.serviceRuns 0 = true →
    q = s.mboxRequest 0 → s.stw.queries.length < 16 → bytesAt q 0 1 = 1 → 1 ≤ bytesAt q 1 1 → bytesAt q 1 1 ≤ 11 → 12 ≤ q.length →
    bytesAt q 8 4 = q.length - 12 → State.queryLength (bytesAt q 1 1) (q.drop 12) = true →
    Completes (.mailboxDoorbell 0) s (fun t => t.flag (F.STW_MBOX_CTRL_BUSY.at 0) = true ∧
      t.stw.queries = s.stw.queries ++ [{ mbox := true, req := q }])) ∧
  (∀ (s : State) (m : Nat) (b : Bytes), m < 4 → s.flag (F.STW_MBOX_CTRL_BUSY.at m) = true → Completes (.mailboxResponse m b) s (fun t =>
    t.flag (F.STW_MBOX_CTRL_BUSY.at m) = false ∧ t.flag (F.STW_MBOX_CTRL_DONE.at m) = true ∧
    t.fld (F.STW_MBOX_CTRL_RESP_LEN.at m) = min 4096 b.length ∧ getBits (t.reg (F.INT_PEND_ERR.at 14).addr) (9 + m) 1 = 1 ∧
    (∀ w, 8 * w < min 4096 b.length → t.reg (mboxAddr m true w) = BitVec.ofNat 64 (bytesAt (b.take 4096) (8 * w) 8)) ∧
    s.onlyMessagesAnd (F.STW_MBOX_CTRL_BUSY.at m :: F.STW_MBOX_CTRL_DONE.at m :: F.STW_MBOX_CTRL_RESP_LEN.at m ::
      ((List.range 512).map (fun w => Fld.whole (mboxAddr m true w)))) t)) ∧
  (∀ (s : State) (m : Nat) (b : Bytes), m < 4 → s.flag (F.STW_MBOX_CTRL_BUSY.at m) = false →
    exec (.mailboxResponse m b) s = .next { s with out := [] }) ∧
  (∀ (s : State) (q : Bytes), s.serviceRuns 0 = false → exec (.queryRequest q) s = .next { s with out := [] }) ∧
  (∀ (s : State) (q : Bytes) (st : Nat), s.serviceRuns 0 = true →
    (st = 4 ∧ 16 ≤ s.stw.queries.length ∨ st = 1 ∧ s.stw.queries.length < 16 ∧ (bytesAt q 0 1 ≠ 1 ∨ bytesAt q 1 1 = 0 ∨ 11 < bytesAt q 1 1)) →
    Completes (.queryRequest q) s (fun t => t.stw = s.stw ∧ t.fld F.STW_QUERY_REQUESTS = min 65535 (s.fld F.STW_QUERY_REQUESTS + 1) ∧
      t.out = [.mctp (le 1 0x7F ++ [0, 0, 0xE4, 0x31] ++ (le 1 1 ++ le 1 (bytesAt q 1 1 % 128 + 128) ++ le 2 (bytesAt q 2 2) ++ le 2 st ++
        zeros 2 ++ le 4 0))] ∧
      s.onlyBank t ∧ s.onlyFields [F.STW_QUERY_REQUESTS, F.STW_QUERY_BUSY, F.STW_QUERY_ERRORS] t)) ∧
  (∀ (s : State) (q : Bytes), s.serviceRuns 0 = true → s.stw.queries.length < 16 → bytesAt q 0 1 = 1 → 1 ≤ bytesAt q 1 1 → bytesAt q 1 1 ≤ 11 →
    12 ≤ q.length → q.length ≤ 61452 → bytesAt q 8 4 = q.length - 12 → State.queryLength (bytesAt q 1 1) (q.drop 12) = true →
    exec (.queryRequest q) s = .next { s with out := [], stw := { s.stw with queries := s.stw.queries ++ [{ mbox := false, req := q }] } })

/-- A query that QUERY_MASK does not name is answered DENIED with no effect, and a command whose query is not the front one changes nothing. -/
def Obligations.QueriesDeniedOrWaiting : Prop :=
  ∀ (s : State) (c : Instr) (op : Nat), queryOp c = some op →
    (∀ q rest, s.asks op q rest → bit s.image.queryMask op = false → Completes c s (fun t =>
      State.answered q 3 [] s t ∧ t.fld F.STW_QUERY_DENIED = min 65535 (s.fld F.STW_QUERY_DENIED + 1) ∧
      (s.withQueries rest).onlyMessagesAnd replyFields t)) ∧
    ((∀ q rest, ¬ s.asks op q rest) → exec c s = .next { s with out := [] })

/-- READ_REG and WRITE_REG: one register read or written as on the management bus; a bad range and an image register answered without an effect. -/
def Obligations.RegisterQueries : Prop :=
  (∀ (s u : State) (q : Query) (rest : List Query) (now : Int) (cyc v addr : Nat), s.asks 1 q rest → bit s.image.queryMask 1 = true →
    addr = bytesAt (q.req.drop 12) 0 4 → bytesAt (q.req.drop 12) 4 2 = 1 → addr % 8 = 0 → addr + 8 ≤ 0x3200000 → imgRegister addr = false →
    exec (.registerRead none addr 8 now cyc) (s.withQueries rest) = .next u → u.out = [.busResp false v] →
    Completes (.readReg now [cyc]) s (fun t => State.answered q 0 (le 8 v) u t ∧ u.onlyMessagesAnd replyFields t)) ∧
  (∀ (s u : State) (q : Query) (rest : List Query) (now : Int) (addr : Nat), s.asks 2 q rest → bit s.image.queryMask 2 = true →
    addr = bytesAt (q.req.drop 12) 0 4 → bytesAt (q.req.drop 12) 4 2 = 1 → addr % 8 = 0 → addr + 8 ≤ 0x3200000 → imgRegister addr = false →
    exec (.registerWrite none addr 8 (bytesAt (q.req.drop 12) 6 8) now) (s.withQueries rest) = .next u →
    Completes (.writeReg now) s (fun t => State.answered q 0 [] u t ∧ u.onlyMessagesAnd replyFields t)) ∧
  (∀ (s : State) (q : Query) (rest : List Query) (c : Instr) (op addr n st : Nat) (now : Int) (cycs : List Nat),
    (c = .readReg now cycs ∧ op = 1 ∨ c = .writeReg now ∧ op = 2) → s.asks op q rest → bit s.image.queryMask op = true →
    addr = bytesAt (q.req.drop 12) 0 4 → n = bytesAt (q.req.drop 12) 4 2 →
    (st = 5 ∧ (addr % 8 ≠ 0 ∨ n = 0 ∨ 64 < n ∨ 0x4000000 < addr + 8 * n) ∨
     st = 3 ∧ addr % 8 = 0 ∧ n ≤ 64 ∧ addr + 8 * n ≤ 0x4000000 ∧ ∃ i < n, imgRegister (addr + 8 * i) = true) →
    Completes c s (fun t => State.answered q st [] s t ∧ (s.withQueries rest).onlyMessagesAnd replyFields t))

/-- READ_REGION, ARCHIVE_PIN and ARCHIVE_UNPIN: a region's bytes with its poison map, an index entry pinned under the lowest free pin, and a pin released. -/
def Obligations.RegionAndArchiveQueries : Prop :=
  (∀ (s : State) (q : Query) (rest : List Query) (r : Region) (off n a : Nat) (ext : Option (Bytes × List Bool)), s.asks 3 q rest →
    bit s.image.queryMask 3 = true → s.image.regions[bytesAt (q.req.drop 12) 0 2]? = some r → off = bytesAt (q.req.drop 12) 2 8 →
    n = bytesAt (q.req.drop 12) 10 4 → n ≤ 57344 → off + n ≤ r.size → s.works 8 = true → r.external = false → a = r.base + off →
    Completes (.readRegion ext) s (fun t => (s.withQueries rest).onlyMessagesAnd replyFields t ∧ State.answered q 0
      ((List.range n).map (fun i => if s.poisoned (a + i) then 0 else s.storeByte (a + i)) ++
        packBits ((List.range ((a + n + 7) / 8 - a / 8)).map (fun i => s.poisoned (8 * (i + a / 8))))) s t)) ∧
  (∀ (s : State) (q : Query) (rest : List Query) (r : Region) (off n : Nat) (d : Bytes) (ps : List Bool), s.asks 3 q rest →
    bit s.image.queryMask 3 = true → s.image.regions[bytesAt (q.req.drop 12) 0 2]? = some r → off = bytesAt (q.req.drop 12) 2 8 →
    n = bytesAt (q.req.drop 12) 10 4 → n ≤ 57344 → off + n ≤ r.size → s.works 8 = true → r.external = true → d.length = n →
    ps.length = (r.base + off + n + 7) / 8 - (r.base + off) / 8 →
    Completes (.readRegion (some (d, ps))) s (fun t => State.answered q 0 (d ++ packBits ps) s t ∧
      (s.withQueries rest).onlyMessagesAnd replyFields t)) ∧
  (∀ (s : State) (q : Query) (rest : List Query) (ext : Option (Bytes × List Bool)), s.asks 3 q rest → bit s.image.queryMask 3 = true →
    (∀ r, s.image.regions[bytesAt (q.req.drop 12) 0 2]? = some r →
      57344 < bytesAt (q.req.drop 12) 10 4 ∨ r.size < bytesAt (q.req.drop 12) 2 8 + bytesAt (q.req.drop 12) 10 4) →
    Completes (.readRegion ext) s (fun t => State.answered q 5 [] s t ∧ (s.withQueries rest).onlyMessagesAnd replyFields t)) ∧
  (∀ (s : State) (q : Query) (rest : List Query) (k p : Nat), s.asks 4 q rest → bit s.image.queryMask 4 = true →
    s.image.archives.findIdx? (fun c => c.index == bytesAt (q.req.drop 12) 0 2) = some k →
    ((s.arch k).entries.get none' (bytesAt (q.req.drop 12) 2 4)).isSome = true → p < 4 → s.cod.pins.get none' p = none →
    (∀ j < p, s.cod.pins.get none' j ≠ none) →
    Completes .archivePin s (fun t => State.answered q 0 (le 1 p) s t ∧
      ({ s.withQueries rest with cod := { s.cod with pins := s.cod.pins.put none' p (some (k, bytesAt (q.req.drop 12) 2 4)) } } :
        State).onlyMessagesAnd replyFields t)) ∧
  (∀ (s : State) (q : Query) (rest : List Query) (p : Nat), s.asks 5 q rest → bit s.image.queryMask 5 = true → p = bytesAt (q.req.drop 12) 0 1 →
    Completes .archiveUnpin s (fun t =>
      (p < 4 → s.cod.pins.get none' p ≠ none → State.answered q 0 [] s t ∧
        ({ s.withQueries rest with cod := { s.cod with pins := s.cod.pins.put none' p none } } : State).onlyMessagesAnd replyFields t) ∧
      (p < 4 → s.cod.pins.get none' p = none → State.answered q 7 [] s t ∧ (s.withQueries rest).onlyMessagesAnd replyFields t) ∧
      (4 ≤ p → State.answered q 5 [] s t ∧ (s.withQueries rest).onlyMessagesAnd replyFields t)))

/-- EXT_WRITE, SET_BUDGET, PACKAGE_PART, TRIGGER, SNAPSHOT and STATUS: what each query does and answers. -/
def Obligations.ControlQueries : Prop :=
  (∀ (s : State) (q : Query) (rest : List Query) (w k : Nat), s.asks 6 q rest → bit s.image.queryMask 6 = true → s.image.features ≠ [] →
    (q.req.drop 12).length = 8 → w = bytesAt (q.req.drop 12) 0 8 → s.extPlace w = some k → Completes .extWrite s (fun t => State.answered q 0 [] s t ∧
      t.reg (F.FEA_EXT_DATA_SUBJECT.at k).addr = BitVec.ofNat 64 w ∧
      ({ s.withQueries rest with fea := { s.fea with extDue := if s.fea.extDue.contains k then s.fea.extDue else s.fea.extDue ++ [k] } } :
        State).onlyMessagesAnd (.whole (F.FEA_EXT_DATA_SUBJECT.at k).addr :: replyFields) t)) ∧
  (∀ (s : State) (q : Query) (rest : List Query) (b : Bytes), s.asks 7 q rest → bit s.image.queryMask 7 = true → s.masterOf .group = true →
    b = q.req.drop 12 → Completes .setBudget s (fun t => State.answered q 0 [] s t ∧
      t.fld F.VRD_BUDGET_SPARES = (if bytesAt b 0 2 = 0xFFFF then s.fld F.VRD_BUDGET_SPARES else bytesAt b 0 2) ∧
      t.fld F.VRD_BUDGET_RATE = (if bytesAt b 2 1 = 0xFF then s.fld F.VRD_BUDGET_RATE else bytesAt b 2 1 % 2 ^ F.VRD_BUDGET_RATE.w) ∧
      t.fld F.VRD_BUDGET_RESERVE = (if bytesAt b 3 1 = 0xFF then s.fld F.VRD_BUDGET_RESERVE else bytesAt b 3 1 % 2 ^ F.VRD_BUDGET_RESERVE.w) ∧
      t.vrd.sparesDue = (if bytesAt b 0 2 = 0xFFFF then s.vrd.sparesDue else some (bytesAt b 0 2)) ∧
      ({ s.withQueries rest with vrd := t.vrd } : State).onlyMessagesAnd
        (F.VRD_BUDGET_SPARES :: F.VRD_BUDGET_RATE :: F.VRD_BUDGET_RESERVE :: replyFields) t)) ∧
  (∀ (s : State) (q : Query) (rest : List Query), s.asks 7 q rest → bit s.image.queryMask 7 = true → s.masterOf .group = false →
    Completes .setBudget s (fun t => State.answered q 3 [] s t ∧ (s.withQueries rest).onlyMessagesAnd replyFields t)) ∧
  (∀ (s : State) (q : Query) (rest : List Query) (act deadline id : Nat) (ps : List (Nat × Bytes)) (b whole : Bytes), s.asks 8 q rest →
    bit s.image.queryMask 8 = true → s.image.packageKey.isSome = true → s.masterOf .system = true → b = q.req.drop 12 → id = bytesAt b 0 4 →
    ps = (s.stw.pkgParts.get nil id).filter (fun p => p.1 != bytesAt b 4 4) ++ [(bytesAt b 4 4, b.drop 8)] →
    whole = State.joinParts (ps.length + 1) ps [] → 160 + bytesAt whole 28 4 ≤ 160 + 16 * 2 ^ 20 → whole.length < 160 + bytesAt whole 28 4 →
    Completes (.packagePart act deadline) s (fun t => State.answered q 0 [] s t ∧
      ({ s with stw := { s.stw with queries := rest, pkgParts := s.stw.pkgParts.put nil id ps } } : State).onlyMessagesAnd replyFields t)) ∧
  (∀ (s : State) (q : Query) (rest : List Query) (act deadline : Nat), s.asks 8 q rest → bit s.image.queryMask 8 = true →
    s.image.packageKey.isSome = true → s.masterOf .system = false → Completes (.packagePart act deadline) s (fun t =>
      State.answered q 7 [] s t ∧ (s.withQueries rest).onlyMessagesAnd replyFields t)) ∧
  (∀ (s : State) (q : Query) (rest : List Query), s.asks 9 q rest → bit s.image.queryMask 9 = true → Completes .trigger s (fun t =>
    State.answered q (if s.fld F.TRC_CTRL_MODE ≠ 1 then 6 else if s.fld F.TRC_STATUS_STATE = 1 then 0 else 7) [] s t ∧
    (s.withQueries rest).onlyMessagesAnd (.whole F.COD_CNT_CODED.addr :: .whole F.COD_CNT_NOSPACE.addr :: replyFields) t)) ∧
  (∀ (s : State) (q : Query) (rest : List Query), s.asks 10 q rest → bit s.image.queryMask 10 = true → Completes .snapshot s (fun t =>
    State.answered q (if s.flag F.TRC_SNAP_BUSY then 7 else 0) [] s t ∧
    (s.flag F.TRC_SNAP_BUSY = true → t.flag F.TRC_SNAP_REFUSED = true) ∧
    (s.flag F.TRC_SNAP_BUSY = false → t.flag F.TRC_SNAP_REQ = true ∧ t.fld F.TRC_SNAP_EPOCH = bytesAt (q.req.drop 12) 0 6) ∧
    (s.withQueries rest).onlyMessagesAnd replyFields t)) ∧
  (∀ (s : State) (q : Query) (rest : List Query), s.asks 11 q rest → bit s.image.queryMask 11 = true → Completes .status s (fun t =>
    State.answered q 0 (le 4 (s.fld F.MGT_IMG_GEN_RUNNING_GEN) ++ le 8 (s.reg F.MGT_ROLE_NODE_AGG.addr).toNat ++ le 6 s.epoch ++
      le 8 (s.reg F.MGT_IMG_STATUS_STATE.addr).toNat) s t ∧ (s.withQueries rest).onlyMessagesAnd replyFields t))

/-- PRESENCE_RECEIVE, PRESENCE_ACKNOWLEDGEMENT, TAKEOVER_RECEIVE, YIELD, DEPUTY_LOST and LEAD_LOST: what each does to the roles and the leads. -/
def Obligations.MastersAndDeputies : Prop :=
  (∀ (s : State) (ti : Tier) (src e : Nat), s.flag (deputyF ti) = true → s.works 14 = true → s.flag (actingF ti) = false →
    Completes (.presenceReceive ti src e) s (fun t => (t.role ti).presence = max (s.role ti).presence e ∧
      (s.modRole ti (fun r => { r with presence := max r.presence e })).onlyMessages t ∧
      (s.silent = false → ∃ r : Rec, t.out = [.directed [src] r] ∧ r.type = 0x25 ∧ r.body = pad8 (ackBody 0 0 0 (e % 2 ^ 32) 0 0)))) ∧
  (∀ (s : State) (ti : Tier) (src e : Nat), s.flag (deputyF ti) = true → s.works 14 = true → s.flag (actingF ti) = true →
    Completes (.presenceReceive ti src e) s (fun t => s.onlyMessages t ∧
      (s.silent = false → ∃ r : Rec, t.out = [.directed [src] r] ∧ r.type = 0x24 ∧
        r.body = pad8 (broadcastBody 1 0 0 (s.fld F.MGT_ROLE_ROLE_EPOCH) 0 0 1 (le 6 ((s.role ti).presence - 8)))))) ∧
  (∀ (s : State) (ti : Tier) (src e : Nat), s.flag (deputyF ti) = false ∨ s.works 14 = false →
    exec (.presenceReceive ti src e) s = .next { s with out := [] }) ∧
  (∀ (s : State) (ti : Tier) (e : Nat), exec (.presenceAcknowledgement ti e) s =
    .next ({ s with out := [] }.modRole ti (fun r => { r with unanswered := 0 }))) ∧
  (∀ (s : State) (ti : Tier) (a e from_ : Nat), s.works 14 = true → a ≠ s.myNode → Completes (.takeoverReceive ti a e from_) s (fun t =>
    (ti = .group ∨ s.masterOf .group = true → t.lowerTree ti = { s.lowerTree ti with switchTo := some a, resendFrom := from_ }) ∧
    (ti = .system → s.masterOf .group = false → t.lowerTree ti = s.lowerTree ti) ∧
    t.role ti = (if s.flag (namedF ti) = true ∧ s.flag (yieldedF ti) = false then { s.role ti with yieldDue := true, acting := some a }
      else s.role ti) ∧
    t = { s with out := [], mgt := { s.mgt with
      nodeTree := t.mgt.nodeTree, groupTree := t.mgt.groupTree, group := t.mgt.group, system := t.mgt.system } })) ∧
  (∀ (s : State) (ti : Tier) (a e from_ : Nat), s.works 14 = false ∨ a = s.myNode →
    exec (.takeoverReceive ti a e from_) s = .next { s with out := [] }) ∧
  (∀ (s : State) (ti : Tier), (s.role ti).yieldDue = true → s.flag (namedF ti) = true → Completes (.yield ti) s (fun t =>
    t.flag (yieldedF ti) = true ∧ t.fld F.MGT_ROLE_ROLE_EPOCH = s.epoch % 2 ^ 32 ∧ (t.role ti).yieldDue = false ∧
    (∀ x, x ∈ t.aln.epochs ↔ x ∈ s.aln.epochs ∧ x.level ≠ tierLevel ti) ∧
    ({ s.modRole ti (fun r => { r with yieldDue := false }) with aln := { s.aln with epochs := t.aln.epochs } } : State).onlyMessagesAnd
      [yieldedF ti, F.MGT_ROLE_ROLE_EPOCH, F.ALN_STATUS_OPEN_EPOCHS, F.ALN_STATUS_BACKLOG] t)) ∧
  (∀ (s : State) (ti : Tier), (s.role ti).yieldDue = false ∨ s.flag (namedF ti) = false → exec (.yield ti) s = .next { s with out := [] }) ∧
  (∀ (s : State) (ti : Tier), s.flag (namedF ti) = true → s.flag (yieldedF ti) = false → s.threshold ti ≤ (s.role ti).unanswered →
    s.flag (lostF ti) = false → Completes (.deputyLost ti) s (fun t => t.flag (lostF ti) = true ∧
      getBits (t.reg (F.INT_PEND_ERR.at 0).addr) 9 1 = 1 ∧ s.onlyMessagesAnd [lostF ti] t)) ∧
  (∀ (s : State) (p : Nat) (l : LeadSt), l = s.lead p → 4 ≤ l.silent → (∃ c ∈ s.image.packages, c.package = p) →
    Completes (.leadLost p) s (fun t => t.lead p = { l with lead := l.alt, silent := 0 } ∧
      (∀ d, d = l.alt ∨ d ∈ l.dies → ∃ q ∈ t.stw.ctrl, q.die = d ∧
        q.body = .batch [{ offset := 0x7A8, write := true, value := if d = l.alt then s.image.nodeMac else s.dieMac l.alt }]) ∧
      ({ s with mgt := { s.mgt with leads := t.mgt.leads } } : State).onlyMessages t)) ∧
  (∀ (s : State) (p : Nat), (s.lead p).silent < 4 → exec (.leadLost p) s = .next { s with out := [] })

/-- TAKEOVER and PARENT_SWITCH: a deputy whose master is silent acts and opens the epochs it resends, and a child then follows it and resends its ring. -/
def Obligations.TakeoverAndParentSwitch : Prop :=
  (∀ (s : State) (ti : Tier), s.flag (deputyF ti) = true → s.flag (actingF ti) = false → s.isArmed = true →
    s.lagPlus ti < s.epoch - (s.role ti).presence → Completes (.takeover ti) s (fun t =>
      t.flag (actingF ti) = true ∧ t.fld F.MGT_ROLE_ROLE_EPOCH = s.epoch % 2 ^ 32 ∧ t.masterOf ti = true ∧
      (match ti with | .group => t.mgt.groupTree | .system => t.mgt.systemTree).children = s.tierChildren ti ∧
      (∀ e, (s.role ti).presence - 8 ≤ e → e ≤ s.epoch → ∃ x ∈ t.aln.epochs, x.level = tierLevel ti ∧ x.epoch = e) ∧
      (∀ x ∈ s.aln.epochs, x ∈ t.aln.epochs) ∧
      (s.silent = false → s.tierChildren ti ≠ [] → ∃ dst r, .directed dst r ∈ t.out ∧ (∀ a ∈ s.tierChildren ti, a ∈ dst) ∧ r.type = 0x24 ∧
        r.body = pad8 (broadcastBody 1 0 0 s.epoch 0 0 1 (le 6 ((s.role ti).presence - 8)))))) ∧
  (∀ (s : State) (ti : Tier), s.flag (deputyF ti) = false ∨ s.flag (actingF ti) = true ∨ s.isArmed = false ∨
      s.epoch - (s.role ti).presence ≤ s.lagPlus ti → exec (.takeover ti) s = .next { s with out := [] }) ∧
  (∀ s : State, Completes .parentSwitch s (fun t =>
    (∀ (ti : Tier) (p : Nat), (s.lowerTree ti).switchTo = some p →
      t.lowerTree ti = { s.lowerTree ti with parent := some p, switchTo := none } ∧ (t.outlet (tierLevel ti - 1)).req = none ∧
      t.fld (F.ALN_LEVEL_STATE_REQ_RES.at (tierLevel ti - 1)) = 0 ∧
      (s.silent = false → ∀ r ∈ s.aln.rings.get nil (tierLevel ti - 1), (s.lowerTree ti).resendFrom < r.epoch + 2 ^ summaryRes r →
        .directed [p] r ∈ t.out)) ∧
    (∀ ti : Tier, (s.lowerTree ti).switchTo = none → t.lowerTree ti = s.lowerTree ti) ∧
    ({ s with mgt := { s.mgt with nodeTree := t.mgt.nodeTree, groupTree := t.mgt.groupTree }, aln := { s.aln with outlets := t.aln.outlets } } :
      State).onlyMessagesAnd [F.ALN_LEVEL_STATE_REQ_RES.at 0, F.ALN_LEVEL_STATE_REQ_RES.at 1] t)) ∧
  (∀ s : State, s.mgt.nodeTree.switchTo = none → s.mgt.groupTree.switchTo = none → exec .parentSwitch s = .next { s with out := [] })

/-- HEADS, BROADCAST_PART, BROADCAST_REQUEST and REQUEST_RECEIVE: generations learnt, parts kept and passed on, missing ones asked for and sent again. -/
def Obligations.TreeBroadcastParts : Prop :=
  (∀ s : State, exec (.heads []) s = .next { s with out := [] }) ∧
  (∀ (s : State) (e : Nat × Nat × Nat × Nat) (es : List (Nat × Nat × Nat × Nat)), execInOrder [.heads [e], .heads es] s =
    execInOrder [.heads (e :: es)] s) ∧
  (∀ (s : State) (k parts gen dl : Nat), s.works 14 = true → 2 ≤ k → k ≤ 5 → State.genLt gen (s.bgen k) = false →
    ¬ (s.bgen k = gen ∧ (s.bcast k).known = true) → Completes (.heads [(k, parts, gen, dl)]) s (fun t =>
      t.bgen k = gen % 2 ^ 32 ∧ t.partsOf k = parts % 2 ^ 16 ∧ t.partsHeld k = 0 ∧ t.out = [] ∧
      (s.modBcast k (fun _ => { deadline := dl, known := true })).onlyBank t ∧
      s.onlyFields [.whole (F.STW_BCAST_DATA_BGEN.at k).addr, .whole (F.STW_BCAST_ACK_COVERED.at k).addr, F.STW_BCAST_CNT_STALE.at k] t)) ∧
  (∀ (s : State) (k parts gen dl : Nat), s.works 14 = false ∨ k < 2 ∨ 5 < k ∨ State.genLt gen (s.bgen k) = true ∨
    (s.bgen k = gen ∧ (s.bcast k).known = true) → exec (.heads [(k, parts, gen, dl)]) s = .next { s with out := [] }) ∧
  (∀ (s : State) (src k rs gen act dl part parts : Nat) (b : Bytes), s.works 14 = true → 2 ≤ k → k ≤ 5 → State.genLt gen (s.bgen k) = true →
    exec (.broadcastPart src k rs gen act dl part parts b) s = .next (({ s with out := [] } : State).incFld (F.STW_BCAST_CNT_STALE.at k))) ∧
  (∀ (s : State) (src k rs gen act dl part parts : Nat) (b : Bytes), s.works 14 = true → 2 ≤ k → k ≤ 5 → gen < 2 ^ 32 → parts < 2 ^ 16 →
    State.genLt gen (s.bgen k) = false → s.bgen k ≠ gen ∨ s.partsOf k = 0 → part < parts → 1 < parts →
    Completes (.broadcastPart src k rs gen act dl part parts b) s (fun t =>
      t.bgen k = gen ∧ t.partsOf k = parts ∧ t.partsHeld k = 1 ∧
      t.bcast k = { actEpoch := act, deadline := dl, known := true, held := [(part, some b)] } ∧
      (s.silent = false → s.treeChildren ≠ [] → ∃ r : Rec, .directed s.treeChildren r ∈ t.out ∧ r.type = 0x24 ∧
        r.body = pad8 (broadcastBody k rs gen act dl part parts b)))) ∧
  (∀ (s : State) (src k rs gen act dl part parts : Nat) (b : Bytes), s.works 14 = true → 2 ≤ k → k ≤ 5 → s.bgen k = gen → s.partsOf k ≠ 0 →
    (s.bcast k).held.get none' part = none → part < parts → s.partsHeld k + 1 ≠ s.partsOf k → s.partsHeld k + 1 < 2 ^ 16 →
    s.partsHeld k ≠ s.partsOf k → Completes (.broadcastPart src k rs gen act dl part parts b) s (fun t =>
      t.partsHeld k = s.partsHeld k + 1 ∧
      t.bcast k = { s.bcast k with actEpoch := act, deadline := dl, held := (s.bcast k).held.put none' part (some b), silent := false })) ∧
  (∀ (s : State) (src k rs gen act dl part parts : Nat) (b : Bytes), s.works 14 = true → 3 ≤ k → k ≤ 5 → s.bgen k = gen →
    (s.bcast k).held.get none' part = none → part < parts → s.partsHeld k + 1 = s.partsOf k →
    Completes (.broadcastPart src k rs gen act dl part parts b) s (fun t => t.partsHeld k = s.partsOf k ∧ (t.bcast k).holds = true)) ∧
  (∀ (s : State) (src k rs gen act dl part parts : Nat) (b : Bytes), s.works 14 = true → 2 ≤ k → k ≤ 5 → s.bgen k = gen → s.partsOf k ≠ 0 →
    (s.bcast k).held.get none' part ≠ none → s.bcastWhole k = false → exec (.broadcastPart src k rs gen act dl part parts b) s =
      .next (({ s with out := [] } : State).incFld (F.STW_BCAST_CNT_DUP.at k))) ∧
  (∀ (s : State) (k : Nat) (dst : List Nat), s.works 14 = true → s.bcastOpen k = true → s.bcastWhole k = false →
    (dst = match s.treeAlt with
      | none => s.treeParent.toList
      | some a => if (s.bcast k).silent = false then a :: s.treeParent.toList else if (s.bcast k).nextAlt = true then [a] else s.treeParent.toList) →
    Completes (.broadcastRequest k) s (fun t =>
      t.fld (F.STW_BCAST_CNT_REQUESTS.at k) = min 65535 (s.fld (F.STW_BCAST_CNT_REQUESTS.at k) + 1) ∧ (t.bcast k).silent = true ∧
      (∀ a, s.treeAlt = some a → (t.bcast k).nextAlt = !dst.contains a ∧ (t.bcast k).askedAlt = ((s.bcast k).askedAlt || dst.contains a)) ∧
      (s.silent = false → dst ≠ [] → ∃ r : Rec, t.out = [.directed dst r] ∧ r.type = 0x25 ∧
        r.body = pad8 (ackBody k 2 0 (s.bgen k) (s.firstMissing k) 0)) ∧
      ({ s with stw := { s.stw with bcasts := t.stw.bcasts } } : State).onlyMessagesAnd [F.STW_BCAST_CNT_REQUESTS.at k] t)) ∧
  (∀ (s : State) (k : Nat), s.works 14 = false ∨ s.bcastOpen k = false ∨ s.bcastWhole k = true →
    exec (.broadcastRequest k) s = .next { s with out := [] }) ∧
  (∀ (s : State) (src k gen first : Nat), s.works 14 = true → 2 ≤ k → k ≤ 5 → gen = s.bgen k → Completes (.requestReceive src k gen first) s (fun t =>
    (s.silent = false → ∀ p b, first ≤ p → p < s.partsOf k → (s.bcast k).held.get none' p = some b → ∃ r : Rec, .directed [src] r ∈ t.out ∧
      r.body = pad8 (broadcastBody k 1 gen (s.bcast k).actEpoch (s.bcast k).deadline p (s.partsOf k) b)) ∧
    (if s.bcastWhole k then s else s.modBcast k (fun b => { b with asking := b.asking ++ [(src, first)] })).onlyMessages t)) ∧
  (∀ (s : State) (src k gen first : Nat), s.works 14 = false ∨ k < 2 ∨ 5 < k ∨ gen ≠ s.bgen k →
    exec (.requestReceive src k gen first) s = .next { s with out := [] })

/-- ACKNOWLEDGEMENT, FINALISE, JOB_START and JOB_CANCEL: devices counted, holes finalised, and jobs opened, refused or cancelled. -/
def Obligations.AcknowledgementsAndJobs : Prop :=
  (∀ (s : State) (root k st gen c h : Nat) (fin : Bool), s.works 14 = true → 2 ≤ k → k ≤ 5 → gen = s.bgen k → (s.bcast k).known = true →
    Completes (.acknowledgement root k st gen c h fin) s (fun t =>
      ((s.bcast k).acks.get none' root ≠ none → s.onlyMessages t) ∧
      ((s.bcast k).acks.get none' root = none → (t.bcast k).acks = (s.bcast k).acks.put none' root (some (c, h))) ∧
      ((s.bcast k).acks.get none' root = none → (s.bcast k).own ≠ none →
        (s.modBcast k (fun b => { b with acks := b.acks.put none' root (some (c, h)) })).onlyMessages t) ∧
      ((s.bcast k).acks.get none' root = none → (s.bcast k).own = none → (s.bcast k).holds = true →
        (∀ x ∈ s.treeChildren, x = root ∨ s.childCovered k x = true) → ∃ a, (t.bcast k).own = some a ∧ a.final = false ∧ a.covered = t.covered k ∧
          a.holes = t.subtreeDevices k - t.covered k) ∧
      (s.silent = false → s.treeChildren.contains root = false → (s.bcast k).silent = false → ∀ p, s.treeParent = some p →
        ∃ r : Rec, .directed [p] r ∈ t.out ∧ r.type = 0x25 ∧ r.src = root ∧ r.body = pad8 (ackBody k st (1 + 2 * b2n fin) gen c h)))) ∧
  (∀ (s : State) (root k st gen c h : Nat) (fin : Bool), s.works 14 = false ∨ k < 2 ∨ 5 < k ∨ gen ≠ s.bgen k ∨ (s.bcast k).known = false →
    exec (.acknowledgement root k st gen c h fin) s = .next { s with out := [] }) ∧
  (∀ (s : State) (k : Nat), s.works 14 = true → (s.bcast k).known = true → (s.bcast k).finalised = false → Completes (.finalise k) s (fun t =>
    (t.bcast k).finalised = true ∧ (∃ a, (t.bcast k).own = some a ∧ a.final = true ∧ a.covered = s.covered k ∧
      a.holes = s.subtreeDevices k - s.covered k) ∧
    t.fld (F.STW_BCAST_CNT_HOLES.at k) = min 65535 (s.fld (F.STW_BCAST_CNT_HOLES.at k) +
      (s.treeChildren.filter (fun c => !s.childCovered k c)).length) ∧
    ({ s with stw := { s.stw with bcasts := t.stw.bcasts } } : State).onlyMessagesAnd
      [F.STW_BCAST_CNT_HOLES.at k, .whole (F.STW_BCAST_ACK_COVERED.at k).addr] t)) ∧
  (∀ (s : State) (k : Nat), s.works 14 = false ∨ (s.bcast k).known = false ∨ (s.bcast k).finalised = true →
    exec (.finalise k) s = .next { s with out := [] }) ∧
  (∀ (s : State) (q : JobReq) (st : Nat), s.jobRequest = some q → q.op = 1 → s.masterOf .system = true → s.bcastOpen 2 = false →
    s.epoch + 3 ≤ q.deadline → q.deadline < q.act → (∀ e ∈ q.delta, s.namesImage e.1 = true) → st = 0 → Completes .jobStart s (fun t =>
      t.bgen 2 = (s.bgen 2 + 1) % 2 ^ 32 ∧ (t.bcast 2).actEpoch = q.act ∧ (t.bcast 2).deadline = q.deadline ∧
      t.stw.staged = some { delta := s.stw.job.delta ++ q.delta, rounds := max 1 q.rounds, act := q.act, gen := t.bgen 2 } ∧
      t.stw.job = s.stw.job ∧ t.flag F.STW_JOB1_PENDING = true ∧ t.fld F.STW_JOB0_STAGED_GEN = t.bgen 2 ∧
      t.flag (F.STW_MBOX_CTRL_DONE.at 1) = true ∧ t.flag (F.STW_MBOX_CTRL_BUSY.at 1) = false ∧ t.fld (F.STW_MBOX_CTRL_RESP_LEN.at 1) = 8 ∧
      t.reg (mboxAddr 1 true 0) = BitVec.ofNat 64 (st + t.bgen 2 * 2 ^ 32))) ∧
  (∀ (s : State) (q : JobReq) (c : Instr) (op st : Nat), s.jobRequest = some q → q.op = op → (c = .jobStart ∧ op = 1 ∨ c = .jobCancel ∧ op = 2) →
    (st = 3 ∧ s.masterOf .system = false ∨
     st = 1 ∧ s.masterOf .system = true ∧ s.bcastOpen 2 = true ∨
     st = 2 ∧ s.masterOf .system = true ∧ s.bcastOpen 2 = false ∧
       (q.deadline < s.epoch + 3 ∨ q.act ≤ q.deadline ∨ ∃ e ∈ q.delta, s.namesImage e.1 = false)) → Completes c s (fun t =>
      t.reg (mboxAddr 1 true 0) = BitVec.ofNat 64 (st + s.bgen 2 * 2 ^ 32) ∧ t.flag (F.STW_MBOX_CTRL_DONE.at 1) = true ∧
      t.flag (F.STW_MBOX_CTRL_BUSY.at 1) = false ∧ s.onlyMessagesAnd [.whole (F.STW_MBOX_CTRL_BUSY.at 1).addr, .whole (mboxAddr 1 true 0)] t)) ∧
  (∀ (s : State) (q : JobReq) (j : Job), s.jobRequest = some q → q.op = 2 → s.masterOf .system = true → s.bcastOpen 2 = false →
    s.epoch + 3 ≤ q.deadline → q.deadline < q.act → (∀ e ∈ q.delta, s.namesImage e.1 = true) → s.stw.staged = some j → j.act = q.act →
    Completes .jobCancel s (fun t => t.stw.staged = none ∧ t.flag F.STW_JOB1_CANCELLED = true ∧ t.flag F.STW_JOB1_PENDING = false ∧
      t.bgen 2 = (s.bgen 2 + 1) % 2 ^ 32 ∧ t.stw.job = s.stw.job ∧ t.reg (mboxAddr 1 true 0) = BitVec.ofNat 64 (t.bgen 2 * 2 ^ 32) ∧
      t.flag (F.STW_MBOX_CTRL_DONE.at 1) = true)) ∧
  (∀ (s : State) (q : JobReq), s.jobRequest = some q → q.op = 2 → s.jobCheck q = 0 → (∀ j, s.stw.staged = some j → j.act ≠ q.act) →
    Completes .jobCancel s (fun t => t.reg (mboxAddr 1 true 0) = BitVec.ofNat 64 (4 + s.bgen 2 * 2 ^ 32) ∧
      t.flag (F.STW_MBOX_CTRL_DONE.at 1) = true ∧ s.onlyMessagesAnd [.whole (F.STW_MBOX_CTRL_BUSY.at 1).addr, .whole (mboxAddr 1 true 0)] t)) ∧
  (∀ s : State, s.jobRequest = none → exec .jobStart s = .next { s with out := [] } ∧ exec .jobCancel s = .next { s with out := [] })

/-- CONTROL_RESPONSE, CONTROL_RESEND and ARMED_CHECK: a request answered, sent again or given up, and a silent die's PTK_CTRL read. -/
def Obligations.ControlRequestsOfTheBlock : Prop :=
  (∀ (s : State) (r : Rec) (now : Int), s.works 14 = true →
    (∀ q ∈ s.stw.ctrl, q.tag = bytesAt r.body 2 2 → s.dieAddr q.die = r.src → bytesAt r.body 4 1 = 2) →
    exec (.controlResponse r now) s = .next { s with out := [] }) ∧
  (∀ (s : State) (r : Rec) (now : Int) (q : CtrlReq), s.works 14 = true →
    s.stw.ctrl.find? (fun q => q.tag == bytesAt r.body 2 2 && s.dieAddr q.die == r.src) = some q → bytesAt r.body 4 1 ≠ 2 → q.purpose = .plain →
    exec (.controlResponse r now) s = .next { s with out := [], stw := { s.stw with
      ctrl := s.stw.ctrl.filter (fun x => !(x.tag == q.tag && x.die == slotOf r.src)) } }) ∧
  (∀ (s : State) (r : Rec) (now : Int) (q : CtrlReq) (a : Arming) (st : Nat), s.works 14 = true →
    s.stw.ctrl.find? (fun q => q.tag == bytesAt r.body 2 2 && s.dieAddr q.die == r.src) = some q → bytesAt r.body 4 1 = 0 →
    q.purpose = .arm 1 → s.armingOf q.die = some a → a.die = q.die → r.body.length = 24 → st = bytesAt r.body 8 8 % 8 → Completes (.controlResponse r now) s (fun t =>
      (2 ≤ st → st ≤ 4 → bit (bytesAt r.body 16 8) 0 = true → t.fresh = s.fresh + 6 ∧
        (∃ b, t.armingOf q.die = some { a with nonce := b, sent := now } ∧ b.length = 48 ∧
          ∀ i < 6, bytesAt b (8 * i) 8 = (Config.freeValue (s.fresh + i)).toNat) ∧
        ∃ x ∈ t.stw.ctrl, x.die = q.die ∧ x.purpose = .arm 2) ∧
      (st < 2 ∨ 4 < st ∨ bit (bytesAt r.body 16 8) 0 = false → t.armingOf q.die = none ∧ t.stw.armed = s.stw.armed))) ∧
  (∀ (s : State) (r : Rec) (now : Int) (q : CtrlReq) (n : Nat), s.works 14 = true →
    s.stw.ctrl.find? (fun q => q.tag == bytesAt r.body 2 2 && s.dieAddr q.die == r.src) = some q → bytesAt r.body 4 1 ≠ 0 → bytesAt r.body 4 1 ≠ 2 →
    q.purpose = .arm n → Completes (.controlResponse r now) s (fun t => t.armingOf q.die = none ∧ t.stw.armed = s.stw.armed)) ∧
  (∀ (s : State) (r : Rec) (now : Int) (q : CtrlReq) (a : Arming) (d : DieCfg) (values : List Nat), s.works 14 = true →
    s.stw.ctrl.find? (fun q => q.tag == bytesAt r.body 2 2 && s.dieAddr q.die == r.src) = some q → bytesAt r.body 4 1 = 0 →
    q.purpose = .arm 3 → s.armingOf q.die = some a → r.body.length = 8 + 8 * 14 →
    values = (List.range 14).map (fun i => bytesAt r.body (8 + 8 * i) 8) → bit (values.getD 0 0) 2 = false → bit (values.getD 0 0) 1 = true →
    s.image.dies.find? (fun d => d.slot == q.die) = some d → Completes (.controlResponse r now) s (fun t =>
      (Config.ecdsaVerify d.publicKey (Config.sha384 (a.nonce ++ le 8 d.eui ++ le 4 (s.dieAddr q.die))) ((values.drop 2).map (le 8)).flatten = true →
        t.armingOf q.die = some a ∧ ∃ x ∈ t.stw.ctrl, x.die = q.die ∧ x.purpose = .arm 4) ∧
      (Config.ecdsaVerify d.publicKey (Config.sha384 (a.nonce ++ le 8 d.eui ++ le 4 (s.dieAddr q.die))) ((values.drop 2).map (le 8)).flatten = false →
        t.armingOf q.die = none ∧ t.stw.armed = s.stw.armed))) ∧
  (∀ (s : State) (r : Rec) (now : Int) (q : CtrlReq) (a : Arming), s.works 14 = true →
    s.stw.ctrl.find? (fun q => q.tag == bytesAt r.body 2 2 && s.dieAddr q.die == r.src) = some q → bytesAt r.body 4 1 = 0 →
    q.purpose = .arm 4 → s.armingOf q.die = some a → a.job = false → Completes (.controlResponse r now) s (fun t =>
      t.stw.armed = s.stw.armed.filter (fun d => d != q.die) ++ [q.die] ∧ t.armingOf q.die = none ∧ 
      t = { s with stw := t.stw, ing := t.ing, potiks := t.potiks, out := [] })) ∧
  (∀ (s : State) (tag : Nat) (q : CtrlReq), s.works 14 = true → s.stw.ctrl.find? (fun q => q.tag == tag) = some q → q.resends < 3 →
    Completes (.controlResend tag) s (fun t =>
      t.stw.ctrl = s.stw.ctrl.map (fun x => if x.tag = tag then { x with resends := x.resends + 1 } else x) ∧ s.onlyMessages t ∧
      (s.silent = false → ∃ r : Rec, t.out = [.directed [s.dieAddr q.die] r] ∧ r.type = 0x0C ∧ r.cls = 8 ∧ r.body = pad8 (q.body.bytes q.tag)))) ∧
  (∀ (s : State) (tag : Nat) (q : CtrlReq), s.works 14 = true → s.stw.ctrl.find? (fun q => q.tag == tag) = some q → 3 ≤ q.resends →
    Completes (.controlResend tag) s (fun t => t.stw.ctrl = s.stw.ctrl.filter (fun x => x.tag != tag) ∧
      (∀ n, q.purpose = .arm n → t.armingOf q.die = none) ∧ (q.purpose = .plain → t = { s with stw := t.stw, out := [] }))) ∧
  (∀ (s : State) (tag : Nat), s.stw.ctrl.find? (fun q => q.tag == tag) = none ∨ s.works 14 = false →
    exec (.controlResend tag) s = .next { s with out := [] }) ∧
  (∀ (s : State) (die : Nat), s.works 14 = true → (∃ d ∈ s.jobDies, d.slot = die) → s.armingOf die = none → Completes (.armedCheck die) s (fun t =>
    t.stw.ctrl = s.stw.ctrl ++ [{ tag := s.stw.nextTag, die := die, body := .batch [{ offset := 0x80, write := false }], purpose := .check }] ∧
    s.onlyMessages t)) ∧
  (∀ (s : State) (die : Nat), s.works 14 = false ∨ (∀ d ∈ s.jobDies, d.slot ≠ die) ∨ s.armingOf die ≠ none →
    exec (.armedCheck die) s = .next { s with out := [] })

/-- CONTROL_REQUEST, REGISTER_BATCH and PACKAGE_DATA: a request held or answered at once, a batch executed in order, a package part passed on. -/
def Obligations.ControlRequestsAtThePotik : Prop :=
  (∀ (s : State) (d et sm : Nat) (f : Bytes) (now : Int), (f.length < 16 ∨ (crc32c (f.take 12)).toNat ≠ bytesAt f 12 4 ∨ bytesAt f 1 1 % 4 ≠ 3 ∨
      bytesAt f 0 1 % 16 ≠ 1) → OnDie (.controlRequest d et sm f now) s d (fun p q o => q = p.atTime now ∧ o = [])) ∧
  (∀ (s : State) (d et sm n : Nat) (f : Bytes) (now : Int) (r : Rec), ctrlFrame (s.ptkOf d) et f r → bytesAt r.body 0 1 = 1 →
    n = bytesAt r.body 1 1 % 128 → 1 ≤ n → n ≤ 64 → r.body.length = 8 + 16 * n → (∀ e ∈ (s.ptk d).answered, e.1 ≠ bytesAt r.body 2 2) →
    OnDie (.controlRequest d et sm f now) s d (fun p q o => o = [] ∧
      (p.held.length < 4 → q = { p.atTime now with
        held := p.held ++ [{ tag := bytesAt r.body 2 2, etherType := et, smac := sm, body := .batch (batchEntries n r.body) }] }) ∧
      (4 ≤ p.held.length → p.queued + 1024 ≤ Potik.frameMemory → q.held = p.held ∧ q.answered = p.answered ∧
        Potik.queues p q 0 0x0D (le 1 1 ++ le 1 n ++ le 2 (bytesAt r.body 2 2) ++ le 1 2 ++ zeros 3 ++
          ((List.replicate n 0).map (le 8)).flatten)))) ∧
  (∀ (s : State) (d et sm slot : Nat) (f : Bytes) (now : Int) (r : Rec), ctrlFrame (s.ptkOf d) et f r → bytesAt r.body 0 1 = 2 →
    bytesAt r.body 1 1 % 128 = 0 → slot = bytesAt r.body 4 1 % 16 → 80 ≤ r.body.length → r.body.length ≤ 1424 → r.body.length % 64 = 16 →
    (∀ e ∈ (s.ptk d).answered, e.1 ≠ bytesAt r.body 2 2) → (s.ptk d).held.length < 4 →
    OnDie (.controlRequest d et sm f now) s d (fun p q o => o = [] ∧
      (bytesAt r.body 8 4 = p.nextPart slot → (∀ x, p.test = some x → x.slot ≠ slot) → q = { p.atTime now with
        held := p.held ++ [{ tag := bytesAt r.body 2 2, etherType := et, smac := sm,
                             body := .part slot (bit (bytesAt r.body 1 1) 7) (bytesAt r.body 8 4) (r.body.drop 16) }] }) ∧
      (bytesAt r.body 8 4 ≠ p.nextPart slot → p.queued + 1024 ≤ Potik.frameMemory → q.held = p.held ∧
        Potik.queues p q 0 0x0D (le 1 2 ++ le 1 0 ++ le 2 (bytesAt r.body 2 2) ++ le 1 3 ++ zeros 3 ++ [])))) ∧
  (∀ (s : State) (d et sm : Nat) (f : Bytes) (now : Int) (r : Rec), ctrlFrame (s.ptkOf d) et f r → bytesAt r.body 0 1 ≠ 1 → bytesAt r.body 0 1 ≠ 2 →
    (∀ e ∈ (s.ptk d).answered, e.1 ≠ bytesAt r.body 2 2) → (s.ptk d).held.length < 4 →
    OnDie (.controlRequest d et sm f now) s d (fun p q o => o = [] ∧ (p.queued + 1024 ≤ Potik.frameMemory → q.held = p.held ∧
      Potik.queues p q 0 0x0D (le 1 (bytesAt r.body 0 1) ++ le 1 (bytesAt r.body 1 1 % 128) ++ le 2 (bytesAt r.body 2 2) ++ le 1 4 ++ zeros 3 ++ [])))) ∧
  (∀ (s : State) (d : Nat) (now : Int) (x : PReq) (rest : List PReq) (es : List CtrlEntry) (vs : List Nat) (ok : Bool) (u : Potik),
    (s.ptk d).inReset = false → (s.ptk d).held = x :: rest → x.body = .batch es →
    Potik.runBatch (fun i => Config.freeValue (s.fresh + i)) 0 es { (s.ptkOf d).atTime now with held := rest } = (vs, ok, u) →
    Completes (.registerBatch d now) s (fun t => t = { s with potiks := t.potiks, out := t.out, fresh := s.fresh + 64 } ∧
      (∀ k, k ≠ d → t.ptk k = s.ptk k) ∧ vs.length = es.length ∧ (ok = true ↔ ∀ e ∈ es, e.offset % 8 = 0) ∧
      (u.queued + 1024 ≤ Potik.frameMemory → vs.length ≤ 64 → Potik.queues u (t.ptk d) 0 0x0D (le 1 1 ++ le 1 es.length ++ le 2 x.tag ++
        le 1 (if ok then 0 else 1) ++ zeros 3 ++ (vs.map (le 8)).flatten)))) ∧
  (∀ (free : Nat → Word) (i : Nat) (e : CtrlEntry) (es : List CtrlEntry) (p : Potik),
    (e.offset % 8 ≠ 0 → Potik.runBatch free i (e :: es) p = (List.replicate (es.length + 1) 0, false, p)) ∧
    (e.offset % 8 = 0 → e.write = false → ∃ vs ok u, Potik.runBatch free (i + 1) es (p.touch e.offset) = (vs, ok, u) ∧
      Potik.runBatch free i (e :: es) p = ((p.peek e.offset).toNat :: vs, ok, u)) ∧
    (e.offset % 8 = 0 → e.write = true → ∃ v vs ok u, Potik.runBatch free (i + 1) es (p.write (free i) e.offset none (BitVec.ofNat 64 e.value)) = (vs, ok, u) ∧
      Potik.runBatch free i (e :: es) p = (v :: vs, ok, u) ∧
      (e.offset ≠ 0x7D0 → v = ((p.write (free i) e.offset none (BitVec.ofNat 64 e.value)).peek e.offset).toNat))) ∧
  (∀ (s : State) (d : Nat) (now : Int) (x : PReq) (rest : List PReq) (slot off : Nat) (last : Bool) (b : Bytes),
    (s.ptk d).held = x :: rest → x.body = .part slot last off b → OnDie (.packageData d now) s d (fun p q o =>
      o = [.packageData p.die slot last b] ∧ q.held = rest ∧ q.loaded.get zero slot = (if last then 0 else off + b.length) ∧
      (p.queued + 1024 ≤ Potik.frameMemory →
        Potik.queues p q 0 0x0D (le 1 2 ++ le 1 0 ++ le 2 x.tag ++ le 1 0 ++ zeros 3 ++ [])))) ∧
  (∀ (s : State) (d : Nat) (now : Int), (s.ptk d).held = [] → OnDie (.packageData d now) s d (fun p q o => q = p.atTime now ∧ o = []))

/-- ERROR_DETECT: an error recorded with its detector, class and LOCATION, a BLOCKING one with Winter state, a CORRECTED or CONTAINED one counted. -/
def Obligations.ErrorsRecorded : Prop :=
  (∀ (s : State) (n code loc : Nat), n < 100 → admits n code = true → s.istate n ≠ 2 → s.disabled n = false → s.flag (F.INJECT_ARM.at n) = false →
    s.flag (F.ERR_FIRST_VALID.at n) = false → (code = 6 ∨ code = 9 ∨ code = 0x0A ∨ code = 0x0B) → Completes (.errorDetect n code loc) s (fun t =>
      t.flag (F.ERR_FIRST_VALID.at n) = true ∧ t.fld (F.ERR_FIRST_DETECTOR.at n) = code ∧ t.fld (F.ERR_FIRST_CLASS.at n) = 0 ∧
      t.fld (F.ERR_FIRST_LOCATION.at n) = loc % 2 ^ 40 ∧ t.flag (F.ERR_FIRST_WINTER.at n) = false ∧ t.flag (F.ERR_FIRST_INJECTED.at n) = false ∧
      getBits (t.reg (F.INT_PEND_ERR.at n).addr) 0 1 = 1 ∧ t.istate n = s.istate n ∧
      s.onlyMessagesAnd [.whole (F.ERR_FIRST_VALID.at n).addr, F.ERR_MERGED_FIRST_EPOCH.at n, F.STATUS_QUIET_LEFT_MS.at n] t)) ∧
  (∀ (s : State) (n code loc : Nat), n < 100 → admits n code = true → s.works n = true → s.disabled n = false → s.flag (F.INJECT_ARM.at n) = false →
    s.flag (F.ERR_FIRST_VALID.at n) = false → (code = 4 ∨ code = 5 ∨ code = 0x12 ∨ code = 0x13) → Completes (.errorDetect n code loc) s (fun t =>
      t.flag (F.ERR_FIRST_VALID.at n) = true ∧ t.fld (F.ERR_FIRST_DETECTOR.at n) = code ∧ t.fld (F.ERR_FIRST_CLASS.at n) = 3 ∧
      t.fld (F.ERR_FIRST_LOCATION.at n) = loc % 2 ^ 40 ∧ t.flag (F.ERR_FIRST_WINTER.at n) = true ∧ t.istate n = 1 ∧
      t.fld (F.STATUS_QUIET_LEFT_MS.at n) = s.fld (F.QUIET_PERIOD_MS.at n))) ∧
  (∀ (s : State) (n code loc cls : Nat), n < 16 → admits n code = true → s.istate n ≠ 2 → s.disabled n = false → s.flag (F.INJECT_ARM.at n) = false →
    s.flag (F.ERR_FIRST_VALID.at n) = false → (code = 2 ∧ cls = 1 ∨ code = 0x0C ∧ cls = 1 ∨ code = 0x0E ∧ cls = 1 ∨ code = 1 ∧ cls = 2 ∨
      code = 3 ∧ cls = 2 ∨ code = 0x0D ∧ cls = 2 ∨ code = 0x0F ∧ cls = 2) →
    s.fld (F.QUIET_CE_LIMIT.at n) = 0 → s.fld (F.QUIET_UE_LIMIT.at n) = 0 → Completes (.errorDetect n code loc) s (fun t =>
      t.flag (F.ERR_FIRST_VALID.at n) = true ∧ t.fld (F.ERR_FIRST_DETECTOR.at n) = code ∧ t.fld (F.ERR_FIRST_CLASS.at n) = cls ∧
      t.flag (F.ERR_FIRST_WINTER.at n) = false ∧ t.istate n = s.istate n ∧
      t.mgt.ceCount.get zero n = s.mgt.ceCount.get zero n + (if cls = 1 then 1 else 0) ∧
      t.mgt.ueCount.get zero n = s.mgt.ueCount.get zero n + (if cls = 2 then 1 else 0) ∧
      ({ s with mgt := { s.mgt with ceCount := t.mgt.ceCount, ueCount := t.mgt.ueCount } } : State).onlyMessagesAnd
        [.whole (F.ERR_FIRST_VALID.at n).addr, F.ERR_MERGED_FIRST_EPOCH.at n, F.STATUS_QUIET_LEFT_MS.at n] t)) ∧
  (∀ (s : State) (n code loc : Nat), n < 100 → admits n code = true → s.istate n ≠ 2 → s.disabled n = false → s.flag (F.INJECT_ARM.at n) = false →
    s.flag (F.ERR_FIRST_VALID.at n) = true → (code = 6 ∨ code = 9 ∨ code = 0x0A ∨ code = 0x0B) → Completes (.errorDetect n code loc) s (fun t =>
      t.fld (F.ERR_MERGED_COUNT.at n) = min 65535 (s.fld (F.ERR_MERGED_COUNT.at n) + 1) ∧ t.fld (F.ERR_MERGED_LAST_DETECTOR.at n) = code ∧
      t.reg (F.ERR_FIRST_VALID.at n).addr = s.reg (F.ERR_FIRST_VALID.at n).addr ∧
      s.onlyMessagesAnd [F.ERR_MERGED_COUNT.at n, F.ERR_MERGED_LAST_DETECTOR.at n, F.STATUS_QUIET_LEFT_MS.at n] t)) ∧
  (∀ (s : State) (n code loc : Nat), n < 100 → admits n code = false ∨ s.istate n = 2 ∨ s.disabled n = true →
    exec (.errorDetect n code loc) s = .next { s with out := [] }) ∧
  (∀ (s : State) (loc : Nat), s.istate 14 ≠ 2 → s.disabled 14 = false → exec (.errorDetect 14 0x14 loc) s = exec (.programFault loc) s)

/-- ERROR_INTERVAL, HOUR_INTERVAL, ERR_FIRST_CLEAR, INJECT_ARM and HOLD_WRITE: counts restart, the record clears, an injection is armed, HOLD is set. -/
def Obligations.ErrorRegistersAndIntervals : Prop :=
  (∀ s : State, exec .errorInterval s = .next { s with out := [], mgt := { s.mgt with ceCount := [], ueCount := [] } }) ∧
  (∀ s : State, Completes .hourInterval s (fun t => (∀ n < 100, t.fld (F.SPRING_HOUR_COUNT.at n) = 0) ∧ s.onlyBank t ∧ t.out = [] ∧
    s.onlyFields ((List.range 100).map (fun n => F.SPRING_HOUR_COUNT.at n)) t)) ∧
  (∀ (s : State) (n : Nat), n < 100 → Completes (.errFirstClear n) s (fun t =>
    t.reg (F.ERR_FIRST_VALID.at n).addr = 0 ∧ t.reg (F.ERR_MERGED_COUNT.at n).addr = 0 ∧ s.onlyBank t ∧ t.out = [] ∧
    s.onlyFields [.whole (F.ERR_FIRST_VALID.at n).addr, .whole (F.ERR_MERGED_COUNT.at n).addr] t)) ∧
  (∀ (s : State) (n v : Nat), n < 100 → s.disabled n = false → Completes (.injectArm n v) s (fun t =>
    t.fld (F.INJECT_KIND.at n) = v % 16 ∧ t.fld (F.INJECT_NBITS.at n) = v / 16 % 4 ∧
    t.flag (F.INJECT_ARM.at n) = (supports n (v % 16) && (s.flag (F.INJECT_ARM.at n) || bit v 6)) ∧
    t.flag (F.INJECT_FIRED.at n) = (s.flag (F.INJECT_FIRED.at n) && !bit v 7) ∧ s.onlyBank t ∧ t.out = [] ∧
    s.onlyFields [.whole (F.INJECT_ARM.at n).addr] t)) ∧
  (∀ (s : State) (n v : Nat), n < 100 → s.disabled n = true → exec (.injectArm n v) s = .next { s with out := [] }) ∧
  (∀ (s : State) (n : Nat) (v : Bool), n < 100 → v = true ∨ s.flag (F.CTRL_HOLD.at n) = false ∨ s.fld (F.STATUS_QUIET_LEFT_MS.at n) ≠ 0 →
    exec (.holdWrite n v) s = .next (({ s with out := [] } : State).setFld (F.CTRL_HOLD.at n) (b2n v))) ∧
  (∀ (s : State) (n : Nat), n < 100 → s.flag (F.CTRL_HOLD.at n) = true → s.fld (F.STATUS_QUIET_LEFT_MS.at n) = 0 → s.istate n = 1 →
    s.heldFenced n = false → s.mgt.refclkLost = false →
    (s.fld (F.QUIET_SPRING_LIMIT.at n) = 0 ∨ s.fld (F.SPRING_HOUR_COUNT.at n) < s.fld (F.QUIET_SPRING_LIMIT.at n)) →
    Completes (.holdWrite n false) s (fun t => t.flag (F.CTRL_HOLD.at n) = false ∧ t.istate n = 0 ∧
      t.fld (F.SPRING_COUNT.at n) = min 65535 (s.fld (F.SPRING_COUNT.at n) + 1)))

/-- WINTER_LEAVE, FENCE, UNFENCE, ISLAND_RESET and ISLAND_RESET_RELEASE: an island recovers, is latched, fenced, released or reset. -/
def Obligations.WinterAndIslandReset : Prop :=
  (∀ (s : State) (n : Nat), n < 100 → s.istate n = 1 → s.heldFenced n = false → s.mgt.refclkLost = false → s.flag (F.CTRL_HOLD.at n) = false →
    (s.fld (F.QUIET_SPRING_LIMIT.at n) = 0 ∨ s.fld (F.SPRING_HOUR_COUNT.at n) < s.fld (F.QUIET_SPRING_LIMIT.at n)) →
    Completes (.winterLeave n) s (fun t => t.istate n = 0 ∧ t.fld (F.STATUS_QUIET_LEFT_MS.at n) = 0 ∧
      t.fld (F.SPRING_COUNT.at n) = min 65535 (s.fld (F.SPRING_COUNT.at n) + 1) ∧
      t.fld (F.SPRING_HOUR_COUNT.at n) = min 255 (s.fld (F.SPRING_HOUR_COUNT.at n) + 1) ∧
      t.fld (F.SPRING_LAST_EPOCH.at n) = s.epoch % 2 ^ 40 ∧
      (n ≠ 1 → n ≠ 12 → n < 16 → s.onlyMessagesAnd [.whole (F.SPRING_COUNT.at n).addr, F.STATUS_STATE.at n, F.STATUS_QUIET_LEFT_MS.at n] t) ∧
      (16 ≤ n → n - 16 ∈ t.tdsp.rejoin))) ∧
  (∀ (s : State) (n : Nat), n < 100 → s.istate n = 1 → s.heldFenced n = false → s.mgt.refclkLost = false → s.flag (F.CTRL_HOLD.at n) = false →
    s.fld (F.QUIET_SPRING_LIMIT.at n) ≠ 0 → s.fld (F.QUIET_SPRING_LIMIT.at n) ≤ s.fld (F.SPRING_HOUR_COUNT.at n) →
    Completes (.winterLeave n) s (fun t => t.flag (F.STATUS_LATCHED.at n) = true ∧ t.istate n = 1 ∧
      s.onlyMessagesAnd [F.STATUS_LATCHED.at n, F.STATUS_QUIET_LEFT_MS.at n] t)) ∧
  (∀ (s : State) (n : Nat), n < 100 → s.istate n = 1 → s.heldFenced n = false → s.mgt.refclkLost = false → s.flag (F.CTRL_HOLD.at n) = true →
    exec (.winterLeave n) s = .next (({ s with out := [] } : State).setFld (F.STATUS_QUIET_LEFT_MS.at n) 0)) ∧
  (∀ (s : State) (n : Nat), n < 100 → s.istate n ≠ 1 ∨ s.heldFenced n = true ∨ s.mgt.refclkLost = true →
    exec (.winterLeave n) s = .next { s with out := [] }) ∧
  (∀ (s : State) (n : Nat), n < 100 → n ≠ 0 → s.disabled n = false → Completes (.fence n) s (fun t => t.flag (F.STATUS_FENCED.at n) = true ∧
    (s.works n = true → t.istate n = 1 ∧ t.fld (F.STATUS_QUIET_LEFT_MS.at n) = s.fld (F.QUIET_PERIOD_MS.at n)) ∧
    (s.works n = false → t.istate n = s.istate n ∧ s.onlyBank t ∧ t.out = [] ∧ s.onlyFields [F.STATUS_FENCED.at n, F.CTRL_FENCE.at n] t))) ∧
  (∀ (s : State) (n : Nat), n = 0 ∨ 100 ≤ n ∨ s.disabled n = true → exec (.fence n) s = .next { s with out := [] }) ∧
  (∀ (s : State) (n : Nat), n < 100 → n ≠ 0 → s.bistFailed n = false → s.heldFenced n = true → Completes (.unfence n) s (fun t =>
    t.heldFenced n = false ∧ t.istate n = s.istate n ∧ (s.istate n = 1 → t.fld (F.STATUS_QUIET_LEFT_MS.at n) = s.fld (F.QUIET_PERIOD_MS.at n)) ∧
    s.onlyBank t ∧ t.out = [] ∧
    s.onlyFields [F.STATUS_FENCED.at n, F.STATUS_LATCHED.at n, F.CTRL_FENCE.at n, F.STATUS_QUIET_LEFT_MS.at n] t)) ∧
  (∀ (s : State) (n : Nat), n = 0 ∨ 100 ≤ n ∨ s.bistFailed n = true ∨ s.heldFenced n = false → exec (.unfence n) s = .next { s with out := [] }) ∧
  (∀ (s : State) (n : Nat), n < 100 → n ≠ 0 → s.disabled n = false → Completes (.islandReset n) s (fun t => t.istate n = 2 ∧
    t.fld (F.STATUS_QUIET_LEFT_MS.at n) = 0 ∧ t.reg (F.ERR_FIRST_VALID.at n).addr = 0 ∧ t.reg (F.ERR_MERGED_COUNT.at n).addr = 0)) ∧
  (∀ (s : State) (n : Nat), n = 0 ∨ 100 ≤ n ∨ s.disabled n = true → exec (.islandReset n) s = .next { s with out := [] }) ∧
  (∀ (s : State) (n : Nat), n < 100 → s.istate n = 2 → Completes (.islandResetRelease n) s (fun t =>
    t.istate n = (if s.heldFenced n then 1 else 0) ∧ t.flag (F.CTRL_ISLAND_RESET.at n) = false ∧
    t.reg (F.SPRING_COUNT.at n).addr = s.reg (F.SPRING_COUNT.at n).addr)) ∧
  (∀ (s : State) (n : Nat), n < 100 → s.istate n ≠ 2 → exec (.islandResetRelease n) s = .next { s with out := [] })

/-- POWER_ON_RESET, COLD_RESET, WARM_RESET, RESET_RELEASE and BIST_DONE: what each reset clears and keeps, and the stages of start-up. -/
def Obligations.ResetsAndStartUp : Prop :=
  (∀ (s : State) (w cause : Nat) (c : Instr), (c = .powerOnReset w ∧ s.mgt.por = false ∧ cause = 0 ∨
      c = .coldReset w ∧ s.mgt.por = false ∧ s.mgt.cold = false ∧ cause = 1) → Completes c s (fun t =>
      t.mgt = { ({} : Mgt) with
        por := s.mgt.por || cause == 0, cold := s.mgt.cold || cause == 1, warm := s.mgt.warm,
        otp := match s.mgt.otpProg with | some (g, b) => s.mgt.otp.put (fun _ => {}) g (otpWritten b w) | none => s.mgt.otp } ∧
      t = { ({} : State) with regs := t.regs, mgt := t.mgt, potiks := s.potiks, fresh := s.fresh, pending := s.pending } ∧
      t.fld F.MGT_BOOT_RESET_CAUSE = cause ∧ State.reset.onlyFields [F.MGT_BOUNDARY_LNK_UP, F.MGT_BOUNDARY_MCS_UP, F.MGT_BOUNDARY_MEM_GRANT,
        F.MGT_PWR_STATUS_FAST_HOLD, F.MGT_BOOT_RESET_CAUSE] t ∧
      (∀ f ∈ [F.MGT_BOUNDARY_LNK_UP, F.MGT_BOUNDARY_MCS_UP, F.MGT_BOUNDARY_MEM_GRANT, F.MGT_PWR_STATUS_FAST_HOLD], t.fld f = s.fld f))) ∧
  (∀ (s : State) (w : Nat), s.mgt.por = true → exec (.powerOnReset w) s = .next { s with out := [] }) ∧
  (∀ (s : State) (w : Nat), s.mgt.por = true ∨ s.mgt.cold = true →
    exec (.coldReset w) s = .next { s with out := [], mgt := { s.mgt with cold := true } }) ∧
  (∀ (s : State) (w : Nat), s.inReset = true → exec (.warmReset w) s = .next { s with out := [], mgt := { s.mgt with warm := true } }) ∧
  (∀ (s : State) (w : Nat), s.inReset = false → Completes (.warmReset w) s (fun t =>
    t.mgt.warm = true ∧ t.mgt.ready = false ∧ t.mgt.key = s.mgt.key ∧ t.mgt.pendingKey = none ∧ t.mgt.msiWait = [] ∧ t.img = s.img ∧
    t.potiks = s.potiks ∧ t.out = [] ∧ t.stw.ctrl = [] ∧ t.stw.queries = [] ∧ t.stw.armed = s.stw.armed ∧
    t.fld F.MGT_BOOT_RESET_CAUSE = 2 ∧ t.fld F.MGT_BOOT_WARM_COUNT = min 65535 (s.fld F.MGT_BOOT_WARM_COUNT + 1) ∧
    t.fld F.MGT_BOOT_STAGE = warmStage (s.fld F.MGT_BOOT_STAGE) ∧
    (∀ n < 100, t.istate n = (if s.bistFailed n = true ∨ s.flag (F.STATUS_LATCHED.at n) = true ∨ (n ≠ 0 ∧ s.mgt.refclkLost = true) then 1 else 0)))) ∧
  (∀ (s : State) (which : Nat) (now : Int) (m : Mgt),
    (m = match which with | 0 => { s.mgt with por := false } | 1 => { s.mgt with cold := false } | _ => { s.mgt with warm := false }) →
    ((m.por || m.cold || m.warm) = true ∨ s.inReset = false ∧ s.fld F.MGT_BOOT_STAGE ≠ 0 →
      exec (.resetRelease which now) s = .next { s with out := [], mgt := m }) ∧
    ((m.por || m.cold || m.warm) = false → (s.inReset = true ∨ s.fld F.MGT_BOOT_STAGE = 0) → Completes (.resetRelease which now) s (fun t =>
      t.mgt.released = some now ∧ t.inReset = false ∧
      (s.fld F.MGT_BOOT_STAGE = 0 → s.otpSelected = none → t.fld F.MGT_BOOT_STAGE = 7 ∧ t.fld F.MGT_BOOT_FAIL_REASON = 1) ∧
      (∀ g, s.fld F.MGT_BOOT_STAGE = 0 → s.otpSelected = some g → t.fld F.MGT_BOOT_STAGE = 1 ∧ t.fld F.MGT_OTP_GEN_IN_USE = g ∧
        t.fld F.MGT_EUI64_EUI64 = bytesAt (otpBytes (otpUsed g (s.otpArea g))) 16 8 ∧
        ∀ k < 84, t.disabled (16 + k) = !bit (otpEnable (otpUsed g (s.otpArea g))) k) ∧
      (s.fld F.MGT_BOOT_STAGE = 2 → t.fld F.MGT_BOOT_STAGE = if s.flag F.MGT_ID_CTRL_CERT_OK then 3 else 2) ∧
      (s.fld F.MGT_BOOT_STAGE ≠ 0 → s.fld F.MGT_BOOT_STAGE ≠ 2 → t.fld F.MGT_BOOT_STAGE = s.fld F.MGT_BOOT_STAGE) ∧
      (s.stickyBits = true → getBits (t.reg (F.INT_PEND_ERR.at 0).addr) 8 1 = 1)))) ∧
  (∀ (s : State) (failed words : List Nat) (low : Bool), s.fld F.MGT_BOOT_STAGE = 1 → s.inReset = false → Completes (.bistDone failed words low) s (fun t =>
    (∀ n, 16 ≤ n → n < 100 → t.bistFailed n = (failed.contains n && !s.disabled n)) ∧
    (∀ n, 16 ≤ n → n < 100 → n ∈ failed → s.disabled n = false → t.flag (F.STATUS_FENCED.at n) = true) ∧
    (∀ w, t.sto.poison.get no w = words.contains w) ∧
    ((∃ n < 16, n ∈ failed ∧ s.disabled n = false) → t.fld F.MGT_BOOT_STAGE = 7 ∧ t.fld F.MGT_BOOT_FAIL_REASON = 2) ∧
    ((∀ n < 16, n ∈ failed → s.disabled n = true) → low = true → t.fld F.MGT_BOOT_STAGE = 7 ∧ t.fld F.MGT_BOOT_FAIL_REASON = 4) ∧
    ((∀ n < 16, n ∈ failed → s.disabled n = true) → low = false → Config.unwrapKey ((s.otpInUse.drop 24).take 56) = none →
      t.fld F.MGT_BOOT_STAGE = 7 ∧ t.fld F.MGT_BOOT_FAIL_REASON = 3) ∧
    (∀ key, (∀ n < 16, n ∈ failed → s.disabled n = true) → low = false → Config.unwrapKey ((s.otpInUse.drop 24).take 56) = some key →
      s.mgt.certHeld = false → t.fld F.MGT_BOOT_STAGE = 2 ∧ t.mgt.key = some key ∧ t.flag F.MGT_ID_CTRL_KEY_ERASED = false))) ∧
  (∀ (s : State) (failed words : List Nat) (low : Bool), s.fld F.MGT_BOOT_STAGE ≠ 1 ∨ s.inReset = true →
    exec (.bistDone failed words low) s = .next { s with out := [] })

/-- TAMPER, CERT_CHECK, KEYGEN, KEYGEN_DONE, PROGRAM and PROGRAM_DONE: keys erased, the certificate checked, key pairs made, generations programmed. -/
def Obligations.KeysAndCertificates : Prop :=
  (∀ (s : State) (w : Nat), Completes (.tamper w) s (fun t =>
    t.mgt.key = none ∧ t.mgt.pendingKey = none ∧ t.mgt.keygen = false ∧ t.mgt.otpProg = none ∧
    t.mgt.otp = (match s.mgt.otpProg with | some (g, b) => s.mgt.otp.put (fun _ => {}) g (otpWritten b w) | none => s.mgt.otp) ∧
    t.flag F.MGT_BOUNDARY_TAMPER = true ∧ t.flag F.MGT_ID_CTRL_KEY_ERASED = true ∧ t.flag F.VRD_STATUS_KEY_LOST = true ∧
    t.flag F.MGT_ID_CTRL_PENDING_KEY = false ∧ getBits (t.reg (F.INT_PEND_ERR.at 0).addr) 8 1 = 1 ∧
    (s.mgt.otpProg.isSome = true → t.fld F.MGT_OTP_PROG_STATE = 3 ∧ t.fld F.MGT_OTP_PROG_REASON = 9) ∧
    ({ s with mgt := { s.mgt with key := none, pendingKey := none, keygen := false, otpProg := none, otp := t.mgt.otp } } : State).onlyMessagesAnd
      (F.MGT_BOUNDARY_TAMPER :: F.MGT_ID_CTRL_KEY_ERASED :: F.VRD_STATUS_KEY_LOST :: F.MGT_ID_CTRL_PENDING_KEY :: F.MGT_OTP_PROG_STATE ::
        F.MGT_OTP_PROG_REASON :: (List.range 12).map (fun i => Fld.whole (entryAddr F.MGT_ID_DATA_DATA.addr (3 + 4 * i)))) t)) ∧
  (∀ (s : State) (v n : Nat) (fits : Bool), bit v 16 = false → bit v 18 = false → n = v % 8192 → (fits = true ↔ 1 ≤ n ∧ n ≤ 4096 ∧
      Config.sha384 (s.idBuf 0 n) = s.certDigest ∧ Config.certPoint (s.idBuf 0 n) = some (s.idBuf 2 96)) →
    Completes (.certCheck v) s (fun t => t.fld F.MGT_ID_CTRL_CERT_LEN = n ∧
      (s.fld F.MGT_BOOT_STAGE < 2 → t.mgt.certHeld = true ∧ t.flag F.MGT_ID_CTRL_CERT_OK = false ∧ t.flag F.MGT_ID_CTRL_CERT_BAD = false) ∧
      (2 ≤ s.fld F.MGT_BOOT_STAGE → s.fld F.MGT_BOOT_STAGE ≠ 7 → t.mgt.certHeld = false ∧ t.flag F.MGT_ID_CTRL_CERT_OK = fits ∧
        t.flag F.MGT_ID_CTRL_CERT_BAD = !fits) ∧
      t.fld F.MGT_BOOT_STAGE = (if s.fld F.MGT_BOOT_STAGE = 2 ∧ fits = true then 3 else s.fld F.MGT_BOOT_STAGE) ∧
      t = { s with regs := t.regs, mgt := { s.mgt with certHeld := t.mgt.certHeld }, out := [] } ∧
      s.onlyFields [.whole F.MGT_ID_CTRL_CERT_OK.addr, F.MGT_BOOT_STAGE] t)) ∧
  (∀ (s : State) (v w x : Nat), v ||| 0x2000 = w ||| 0x10000 → w ||| 0x10000 = x ||| 0x40000 →
    exec (.certCheck v) s = exec (.keygen w) s ∧ exec (.keygen w) s = exec (.program x) s) ∧
  (∀ (s : State) (v : Nat), bit v 13 = false → bit v 18 = false → Completes (.keygen v) s (fun t => t.fld F.MGT_ID_CTRL_CERT_LEN = v % 8192 ∧
    t = { s with regs := t.regs, mgt := { s.mgt with keygen := true }, out := [] } ∧ s.onlyFields [F.MGT_ID_CTRL_CERT_LEN, F.MGT_ID_CTRL_CERT_BAD] t)) ∧
  (∀ (s : State) (k : Bytes), s.mgt.keygen = true → k = Config.newKey s.fresh → Completes .keygenDone s (fun t =>
    t.flag F.MGT_ID_CTRL_PENDING_KEY = true ∧ t.idBuf 3 96 = (k ++ zeros 96).take 96 ∧
    t = { s with regs := t.regs, fresh := s.fresh + 1, mgt := { s.mgt with keygen := false, pendingKey := some k }, out := [] } ∧
    s.onlyFields (F.MGT_ID_CTRL_PENDING_KEY :: (List.range 12).map (fun i => Fld.whole (entryAddr F.MGT_ID_DATA_DATA.addr (3 + 4 * i)))) t)) ∧
  (∀ s : State, s.mgt.keygen = false → exec .keygenDone s = .next { s with out := [] }) ∧
  (∀ (s : State) (v r : Nat) (u : State), bit v 13 = false → bit v 16 = false →
    (u = s.setReg F.MGT_ID_CTRL_CERT_OK.addr
      (writeReg [(0, 13, .rw), (15, 1, .w1c)] (s.reg F.MGT_ID_CTRL_CERT_OK.addr) (BitVec.ofNat 64 (v ||| 0x40000)))) → r = u.programReason →
    Completes (.program v) s (fun t =>
      (s.mgt.otpProg ≠ none → t = { u with out := [] }) ∧
      (s.mgt.otpProg = none → r = 0 → t.fld F.MGT_OTP_PROG_STATE = 1 ∧ t.fld F.MGT_OTP_PROG_REASON = 0 ∧
        t.mgt.otpProg = some (s.otpConsumed + 1, otpBuild (s.idBuf 1 304) (s.fld F.MGT_EUI64_EUI64) (Config.wrapKey
          ((if bit (bytesAt (s.idBuf 1 304) 1 1) 0 then s.mgt.pendingKey else s.mgt.key).getD [])))) ∧
      (s.mgt.otpProg = none → r ≠ 0 → t.fld F.MGT_OTP_PROG_STATE = 3 ∧ t.fld F.MGT_OTP_PROG_REASON = r ∧ t.mgt.otpProg = none ∧
        getBits (t.reg (F.INT_PEND_ERR.at 0).addr) 11 1 = 1) ∧
      ({ s with mgt := { s.mgt with otpProg := t.mgt.otpProg } } : State).onlyMessagesAnd
        [F.MGT_ID_CTRL_CERT_LEN, F.MGT_ID_CTRL_CERT_BAD, F.MGT_OTP_PROG_STATE, F.MGT_OTP_PROG_REASON] t)) ∧
  (∀ (s : State) (g : Nat) (c : BitVec 1536) (wrong : List Nat), s.mgt.otpProg = some (g, c) → Completes (.programDone wrong) s (fun t =>
    t.mgt.otpProg = none ∧ getBits (t.reg (F.INT_PEND_ERR.at 0).addr) 11 1 = 1 ∧
    ((∀ p ∈ wrong, 3072 ≤ p) → t.otpArea g = { a := c, b := c, seals := 0xFF } ∧ t.fld F.MGT_OTP_PROG_STATE = 2) ∧
    ((∃ p ∈ wrong, p < 3072) → (t.otpArea g).seals = 0 ∧ otpSealed (t.otpArea g) = false ∧ t.fld F.MGT_OTP_PROG_STATE = 3 ∧
      t.fld F.MGT_OTP_PROG_REASON = 8) ∧
    (∀ k, k ≠ g → t.otpArea k = s.otpArea k) ∧
    ({ s with mgt := { s.mgt with otpProg := none, otp := t.mgt.otp } } : State).onlyMessagesAnd [F.MGT_OTP_PROG_STATE, F.MGT_OTP_PROG_REASON] t)) ∧
  (∀ (s : State) (wrong : List Nat), s.mgt.otpProg = none → exec (.programDone wrong) s = .next { s with out := [] })

/-- EQUINOX_TICK and BLOCK_ARM: an armed block opens the next epoch at every level, an aimed commit switches, and the first tick arms the block. -/
def Obligations.TicksOfTheBlock : Prop :=
  (∀ s : State, s.isArmed = false ∨ s.tim.open_ = false ∨ s.tim.sched = none ∧ s.tim.pending = none →
    exec .equinoxTick s = .next { s with out := [] }) ∧
  (∀ (s : State) (e : Nat) (take : Bool) (c : Sched) (now : Int), s.isArmed = true → s.tim.open_ = true → e = s.epoch + 1 → e < 2 ^ 48 →
    s.commitArmed = false → take = s.tim.pending.any (fun n => decide (n.e0 ≤ e)) → (if take then s.tim.pending else s.tim.sched) = some c →
    now = c.t0 + ((e : Int) - (c.e0 : Int)) * (c.p : Int) * 65536 → Completes .equinoxTick s (fun t =>
      t.epoch = e ∧ t.tim.time = now ∧ t.tim.opened = now ∧ t.tim.open_ = true ∧ t.tim.stepped = false ∧ t.tim.sched = some c ∧
      t.tim.pending = (if take then none else s.tim.pending) ∧ t.tim.before = (if take then s.tim.sched else s.tim.before) ∧
      t.img = s.img ∧
      (∀ l < 3, s.aggregates l = true → ∃ x ∈ t.aln.epochs, x.level = l ∧ x.epoch = e ∧ x.st = 0) ∧
      (∀ x ∈ s.aln.epochs, x ∈ t.aln.epochs) ∧ t.tdsp.rejoin = [] ∧
      (∀ k l, s.image.timeLinks[k]? = some l → (t.tlink k).asym = s.sfld (F.TIM_ASYM_DATA_ASYM.at k)) ∧
      (∀ j, s.stw.staged = some j → j.act ≤ e → (s.bcast 2).holds = true → t.stw.job = j ∧ t.stw.staged = none))) ∧
  (∀ (s : State) (im old : Image), s.isArmed = true → s.tim.open_ = true → s.tim.pending = none → s.tim.sched ≠ none → s.epoch + 1 < 2 ^ 48 →
    s.commitArmed = true → s.mgt.fixed = true → s.mgt.aim ≤ s.epoch + 1 → s.img = some old → s.mgt.verified = some im → Completes .equinoxTick s (fun t =>
      t.img = some im ∧ t.prevImg = some (s.epoch + 1, old) ∧ t.mgt.verified = none ∧ t.imgState = 0 ∧
      t.fld F.MGT_IMG_GEN_RUNNING_GEN = im.generation % 2 ^ 32 ∧ t.fld F.MGT_IMG_EPOCH_EPOCH = s.epoch + 1 ∧
      t.flag F.MGT_IMG_STATUS_COMMITTED = true)) ∧
  (∀ (s : State) (now : Int) (e : Nat), s.tim.sched.bind (fun c => c.at_ now) = some e → e < 2 ^ 48 → s.fld F.MGT_BOOT_STAGE = 4 → s.inReset = false →
    s.img ≠ none → s.mayArm now = true → Completes (.blockArm now) s (fun t =>
      t.fld F.MGT_BOOT_STAGE = 5 ∧ t.mgt.ready = true ∧ t.epoch = e ∧ t.tim.time = now ∧ t.tim.opened = now ∧ t.tim.open_ = true ∧
      t.tim.stepped = false ∧ t.mgt.group.presence = e ∧ t.mgt.system.presence = e ∧ t.img = s.img ∧
      (∀ l < 3, s.aggregates l = true → ∃ x ∈ t.aln.epochs, x.level = l ∧ x.epoch = e ∧ x.st = 0) ∧
      (t.flag F.MGT_ROLE_NODE_AGG = true → t.works 14 = true → ∀ d ∈ t.jobDies, d.slot ∈ t.stw.armed ∨ (t.armingOf d.slot).isSome = true))) ∧
  (∀ (s : State) (now : Int), s.tim.sched.bind (fun c => c.at_ now) = none ∨ s.fld F.MGT_BOOT_STAGE ≠ 4 ∨ s.inReset = true ∨ s.img = none ∨
    s.mayArm now = false → exec (.blockArm now) s = .next { s with out := [] })

/-- PTK_TICK and STEP_APPLY: a Potik opens, arms or disarms at a tick of its schedule, and a due step moves a counter without its stamps. -/
def Obligations.TicksOfAPotikAndSteps : Prop :=
  (∀ (s : State) (d sig : Nat) (now : Int) (c : Option Sched), c = (match (s.ptk d).schedNext with
      | some n => if n.t0 ≤ now then some n else (s.ptk d).sched
      | none => (s.ptk d).sched) →
    (c.bind (fun c => c.at_ now) = none → OnDie (.ptkTick d now sig) s d (fun p q o => q = p ∧ o = [])) ∧
    (∀ e, c.bind (fun c => c.at_ now) = some e → e < 2 ^ 48 →
      (((s.ptk d).armed && (s.ptk d).open_) = true → e ≤ (s.ptk d).epoch → OnDie (.ptkTick d now sig) s d (fun p q o => q = p ∧ o = [])) ∧
      (((s.ptk d).armed && (s.ptk d).open_) = true → (s.ptk d).epoch < e → (s.ptk d).flag F.PTK_CTRL_ARM = true →
        OnDie (.ptkTick d now sig) s d (fun p q o => o = [] ∧ q.epoch = e ∧ q.time = now ∧ q.opened = now ∧ q.open_ = true ∧ q.stepped = false ∧
          q.armed = true ∧ q.healthDue = some p.epoch ∧ q.sweepDue = true ∧ q.fld F.PTK_CEN_STATUS_SWEEPING = 1 ∧ q.live = [] ∧ q.sensors = [] ∧
          q.sampleLocal = p.flag F.PTK_SMP_CTRL_MODE ∧ q.servo = p.servo ∧ q.test = p.test ∧
          q.sched = (if p.schedNext.any (fun n => decide (n.e0 ≤ e)) then p.schedNext else p.sched))) ∧
      (((s.ptk d).armed && (s.ptk d).open_) = true → (s.ptk d).epoch < e → (s.ptk d).flag F.PTK_CTRL_ARM = false →
        OnDie (.ptkTick d now sig) s d (fun p q o => q.armed = false ∧ q.open_ = false ∧ q.test = none ∧ q.ring = [] ∧ q.trcMode = 0 ∧
          q.fld F.PTK_CEN_STATUS_SWEEPING = 0 ∧ q.time = now ∧
          o = (match p.test with | some x => [.testRun p.die x.core x.slot false] | none => []))) ∧
      (((s.ptk d).armed && (s.ptk d).open_) = false → (s.ptk d).flag F.PTK_CTRL_ARM = true → 2 ≤ (s.ptk d).servo.st →
        OnDie (.ptkTick d now sig) s d (fun p q o => o = [] ∧ q.armed = true ∧ q.epoch = e ∧ q.time = now ∧ q.opened = now ∧ q.open_ = true ∧
          q.keyNext = true ∧ q.sweepDue = true ∧ q.wraps = [] ∧ q.losses = [] ∧ q.ctxValid = false ∧
          (p.live = [] → q.fld F.PTK_REC_SEQ_NEXT = 0 ∧ q.levels = p.levels))) ∧
      (((s.ptk d).armed && (s.ptk d).open_) = false → (s.ptk d).flag F.PTK_CTRL_ARM = false ∨ (s.ptk d).servo.st < 2 →
        OnDie (.ptkTick d now sig) s d (fun p q o => q = { p with time := now } ∧ o = [])))) ∧
  (∀ s : State, s.tim.servo.stepDue = none → exec (.stepApply none) s = .next { s with out := [] }) ∧
  (∀ (s : State) (m : Int), s.tim.servo.stepDue = some m →
    (∀ c, s.tim.pending = some c ∨ s.tim.sched = some c → ∀ e, c.upTo (s.tim.time - m) = some e → e ≤ s.epoch) →
    Completes (.stepApply none) s (fun t => t.tim.time = s.tim.time - m ∧ t.tim.opened = s.tim.opened - m ∧ t.rawStamp = s.rawStamp ∧
      t.tim.stepped = true ∧ t.tim.servo = s.tim.servo.stepped ∧ t.tim = { s.tim with
        time := t.tim.time, opened := t.tim.opened, stepped := true, servo := t.tim.servo, pulses := t.tim.pulses } ∧
      ({ s with tim := t.tim } : State).onlyMessages t)) ∧
  (∀ (s : State) (m : Int) (c : Sched) (e : Nat), s.tim.servo.stepDue = some m → s.tim.pending = none → s.tim.sched = some c →
    c.upTo (s.tim.time - m) = some e → s.epoch < e → e < 2 ^ 48 → s.tim.open_ = true → s.commitArmed = false →
    Completes (.stepApply none) s (fun t => t.epoch = e ∧ t.tim.time = s.tim.time - m ∧ t.tim.opened = s.tim.time - m ∧ t.tim.stepped = true ∧
      t.tim.servo = s.tim.servo.stepped)) ∧
  (∀ (s : State) (d : Nat), (s.ptk d).servo.stepDue = none → OnDie (.stepApply (some d)) s d (fun p q o => q = p ∧ o = [])) ∧
  (∀ (s : State) (d : Nat) (m : Int), (s.ptk d).servo.stepDue = some m →
    (∀ c, (s.ptk d).schedNext = some c ∨ (s.ptk d).sched = some c → ∀ e, c.upTo ((s.ptk d).time - m) = some e → e ≤ (s.ptk d).epoch) →
    OnDie (.stepApply (some d)) s d (fun p q o => o = [] ∧ q.fld F.PTK_TIME_STATUS_STATE = 2 ∧ p.onlyFields [F.PTK_TIME_STATUS_STATE] q ∧
      q = { p with time := p.time - m, opened := p.opened - m, servo := p.servo.stepped, stepped := true, regs := q.regs })) ∧
  (∀ (s : State) (d e : Nat) (m : Int) (c : Sched), (s.ptk d).servo.stepDue = some m → (s.ptk d).schedNext = none → (s.ptk d).sched = some c →
    c.upTo ((s.ptk d).time - m) = some e → (s.ptk d).epoch < e → e < 2 ^ 48 → (s.ptk d).armed = true → (s.ptk d).open_ = true →
    OnDie (.stepApply (some d)) s d (fun p q o => o = [] ∧ q.epoch = e ∧ q.time = p.time - m ∧ q.opened = p.time - m ∧ q.stepped = true ∧
      q.healthDue = some p.epoch ∧ q.sweepDue = true ∧ q.servo = p.servo.stepped))

/-- The PTP rows of TIM: Sync, Follow_Up, Delay and Pdelay messages received, discards counted, and what a sync and an Announce interval send. -/
def Obligations.TimeExchanges : Prop :=
  (∀ (s : State) (k q : Nat) (two : Bool) (t1 t2 c : Int), (∀ l, s.timeLink k = some l → s.ptpOn = false ∨ s.measures l = false) →
    exec (.syncReceive k q two t1 t2 c) s = .next { s with out := [] }) ∧
  (∀ (s : State) (k q : Nat) (two : Bool) (t1 t2 c : Int) (l : TimeLink), s.timeLink k = some l → s.ptpOn = true → s.measures l = true →
    (two = true → exec (.syncReceive k q two t1 t2 c) s =
      .next (({ s with out := [] } : State).modTlink k (fun x => { x with wait := some { seqId := q, t2 := t2 - lnkRx, corr := c } }))) ∧
    (two = false → l.p2p = false ∨ (s.tlink k).meanLink = none → exec (.syncReceive k q two t1 t2 c) s =
      .next (({ s with out := [] } : State).modTlink k (fun x => { x with sync := some (t2 - lnkRx - t1 - c), wait := none }))) ∧
    (∀ m, two = false → l.p2p = true → (s.tlink k).meanLink = some m → l.use = 0 → Completes (.syncReceive k q two t1 t2 c) s (fun t =>
      (({ s with out := [] } : State).modTlink k (fun x => { x with sync := some (t2 - lnkRx - t1 - c), wait := none })).servoTook none
        (t2 - lnkRx - t1 - c - m - (s.tlink k).asym) m t)) ∧
    (∀ m, two = false → l.p2p = true → (s.tlink k).meanLink = some m → l.use = 2 → exec (.syncReceive k q two t1 t2 c) s =
      .next (({ s with out := [] } : State).modTlink k (fun x =>
        { x with sync := some (t2 - lnkRx - t1 - c), wait := none
                 closure := some (t2 - lnkRx - t1 - c - m - (if s.group < l.peer then -(s.tlink k).asym else (s.tlink k).asym)) })))) ∧
  (∀ (s : State) (k q : Nat) (t1 c : Int), s.timeLink k = none ∨ (s.tlink k).wait = none ∨ s.ptpOn = false →
    exec (.followUpReceive k q t1 c) s = .next { s with out := [] }) ∧
  (∀ (s : State) (k q : Nat) (t1 c : Int) (l : TimeLink) (w : SyncWait), s.timeLink k = some l → (s.tlink k).wait = some w → s.ptpOn = true →
    s.measures l = true →
    (w.seqId ≠ q → exec (.followUpReceive k q t1 c) s = .next (({ s with out := [] } : State).modTlink k (fun x => { x with wait := none }))) ∧
    (w.seqId = q → l.p2p = false → exec (.followUpReceive k q t1 c) s =
      .next (({ s with out := [] } : State).modTlink k (fun x => { x with sync := some (w.t2 - t1 - w.corr - c), wait := none }))) ∧
    (∀ m, w.seqId = q → l.p2p = true → (s.tlink k).meanLink = some m → l.use = 0 → Completes (.followUpReceive k q t1 c) s (fun t =>
      (({ s with out := [] } : State).modTlink k (fun x => { x with sync := some (w.t2 - t1 - w.corr - c), wait := none })).servoTook none
        (w.t2 - t1 - w.corr - c - m - (s.tlink k).asym) m t))) ∧
  (∀ (s : State) (k : Nat), exec (.followUpTimeout k) s = .next (({ s with out := [] } : State).modTlink k (fun x => { x with wait := none }))) ∧
  (∀ (s : State) (k q : Nat) (rx c : Int), exec (.delayReqReceive k q rx c) s = .next { s with
    out := match s.timeLink k with
      | some l => if s.ptpOn = true ∧ l.use ≠ 0 then [.ptp k (.delayResp q (rx - lnkRx) c)] else []
      | none => [] }) ∧
  (∀ (s : State) (k q : Nat) (t4 c : Int), s.ptpOn = false ∨ (∀ x, (s.tlink k).dreq = some x → x.1 ≠ q) ∨
    (∀ l, s.timeLink k = some l → s.measures l = false ∨ l.p2p = true) → exec (.delayRespReceive k q t4 c) s = .next { s with out := [] }) ∧
  (∀ (s : State) (k q : Nat) (t4 c t3 : Int) (l : TimeLink), s.timeLink k = some l → s.ptpOn = true → s.measures l = true → l.p2p = false →
    (s.tlink k).dreq = some (q, t3) →
    ((s.tlink k).sync = none → exec (.delayRespReceive k q t4 c) s = .next (({ s with out := [] } : State).modTlink k (fun x => { x with dreq := none }))) ∧
    (∀ d mean, (s.tlink k).sync = some d → mean = (d + (t4 - t3 - c)) / 2 → l.use = 0 → Completes (.delayRespReceive k q t4 c) s (fun t =>
      (({ s with out := [] } : State).modTlink k (fun x => { x with dreq := none })).servoTook none (d - mean - (s.tlink k).asym) mean t)) ∧
    (∀ d mean, (s.tlink k).sync = some d → mean = (d + (t4 - t3 - c)) / 2 → l.use = 2 → exec (.delayRespReceive k q t4 c) s =
      .next (({ s with out := [] } : State).modTlink k (fun x =>
        { x with dreq := none
                 closure := some (d - mean - (if s.group < l.peer then -(s.tlink k).asym else (s.tlink k).asym)) })))) ∧
  (∀ (s : State) (k q : Nat) (rx tx c : Int), exec (.pdelayReqReceive k q rx tx c) s = .next { s with
    out := if s.ptpOn = true ∧ s.timeLink k ≠ none then [.ptp k (.pdelayResp q (c + (tx + lnkTx - (rx - lnkRx))))] else [] }) ∧
  (∀ (s : State) (k q : Nat) (two : Bool) (t2 rx c : Int), exec (.pdelayRespReceive k q two t2 rx c) s = .next (match (s.tlink k).pdreq with
    | some (n, t1) => if s.ptpOn = false ∨ n ≠ q then { s with out := [] }
      else if two then ({ s with out := [] } : State).modTlink k (fun x => { x with pdresp := some (t2, rx - lnkRx, c) })
      else ({ s with out := [] } : State).modTlink k (fun x => { x with pdreq := none, meanLink := some ((rx - lnkRx - t1 - c) / 2) })
    | none => { s with out := [] })) ∧
  (∀ (s : State) (k q : Nat) (t3 c t1 t2 t4 c2 : Int), s.ptpOn = true → (s.tlink k).pdreq = some (q, t1) → (s.tlink k).pdresp = some (t2, t4, c2) →
    exec (.pdelayRespFollowUpReceive k q t3 c) s = .next (({ s with out := [] } : State).modTlink k (fun x =>
      { x with pdreq := none, pdresp := none, meanLink := some ((t4 - t1 - (t3 - t2) - c2 - c) / 2) }))) ∧
  (∀ (s : State) (k q : Nat) (t3 c : Int), s.ptpOn = false ∨ (s.tlink k).pdresp = none ∨ (∀ x, (s.tlink k).pdreq = some x → x.1 ≠ q) →
    exec (.pdelayRespFollowUpReceive k q t3 c) s = .next { s with out := [] }) ∧
  (∀ (s : State) (k n : Nat), n = s.image.domain → exec (.announceReceive k n) s = .next { s with out := [] }) ∧
  (∀ (s : State) (k n : Nat), n ≠ s.image.domain → exec (.announceReceive k n) s = exec .ptpDiscard s) ∧
  (∀ s : State, Completes .ptpDiscard s (fun t => s.onlyMessages t ∧ (s.ptpOn = false → t = { s with out := [] }) ∧
    (s.ptpOn = true → s.flag F.TRC_PMC_CTRL_FROZEN = false → ∀ j < 8, s.flag (pmcField 1 j F.PMSEL_EN) = true → s.fld (pmcField 1 j F.PMSEL_EVENT) = 0x100 →
      t.fld (pmcField 1 j F.PMC_VALUE) = (s.fld (pmcField 1 j F.PMC_VALUE) + 1) % 2 ^ 48))) ∧
  (∀ (s : State) (now : Int), Completes (.syncInterval now) s (fun t => t.tim.time = now ∧
    t = { s with tim := { s.tim with time := now, silent := t.tim.silent, links := t.tim.links }, out := t.out } ∧
    t.tim.silent = (if s.ptpOn = true ∧ s.grandmaster = false then s.tim.silent + 1 else s.tim.silent) ∧
    (s.ptpOn = false → t.out = [] ∧ t.tim.links = s.tim.links) ∧
    (s.ptpOn = true → ∀ k l, s.image.timeLinks[k]? = some l →
      (l.use ≠ 0 → 2 ≤ s.tim.servo.st → .ptp k (.sync (s.tlink k).nextSync (now + lnkTx)) ∈ t.out ∧
        (t.tlink k).nextSync = ((s.tlink k).nextSync + 1) % 2 ^ 16) ∧
      (s.measures l = true → l.p2p = false → .ptp k (.delayReq (s.tlink k).nextDreq) ∈ t.out ∧
        (t.tlink k).dreq = some ((s.tlink k).nextDreq, now + lnkTx)) ∧
      (s.measures l = true → l.p2p = true → .ptp k (.pdelayReq (s.tlink k).nextDreq) ∈ t.out ∧
        (t.tlink k).pdreq = some ((s.tlink k).nextDreq, now + lnkTx)) ∧
      (l.use = 0 → s.measures l = false → t.tlink k = s.tlink k)))) ∧
  (∀ s : State, Completes .announceInterval s (fun t =>
    t = { s with tim := { s.tim with silent := t.tim.silent }, out := t.out } ∧ (s.ptpOn = false → t.tim = s.tim) ∧
    (s.ptpOn = true → t.tim.silent = if s.grandmaster && s.ppsSource then s.tim.silent + 1 else s.tim.silent) ∧
    (∀ k, .ptp k (.announce s.clockClass) ∈ t.out ↔ s.ptpOn = true ∧ 2 ≤ s.tim.servo.st ∧ ∃ l, s.image.timeLinks[k]? = some l ∧ l.use = 1)))

/-- Eight measurements in a row beyond UNLOCK_THRESH return a tracking servo to ACQUIRE and count a relock; one after HOLDOVER or UNQUAL chooses. -/
def Obligations.ServoRelocks : Prop :=
  (∀ (c : ServoCfg) (v : Servo) (o : Int), v.st = 2 ∨ v.st = 3 →
    (c.unlock < o.natAbs → v.unlockRun < 7 → ((v.measure c o).1.st = 2 ∨ (v.measure c o).1.st = 3) ∧ (v.measure c o).1.unlockRun = v.unlockRun + 1 ∧
      (v.measure c o).2.relock = false) ∧
    (c.unlock < o.natAbs → 7 ≤ v.unlockRun → (v.measure c o).1.st = 1 ∧ (v.measure c o).1.unlockRun = 0 ∧ (v.measure c o).2.relock = true) ∧
    ((o.natAbs : Int) ≤ c.unlock → ((v.measure c o).1.st = 2 ∨ (v.measure c o).1.st = 3) ∧ (v.measure c o).1.unlockRun = 0 ∧
      (v.measure c o).2.relock = false)) ∧
  (∀ (c : ServoCfg) (v : Servo) (o : Int), v.st = 4 ∨ v.st = 5 → (v.measure c o).2.relock = false ∧
    ((o.natAbs : Int) ≤ c.unlock → (v.measure c o).1.st = 2) ∧ (c.unlock < o.natAbs → (v.measure c o).1.st = 1)) ∧
  (∀ (c : ServoCfg) (v : Servo) (o : Int), v.st < 2 → (v.measure c o).2.relock = false) ∧
  (∀ (s : State) (k q : Nat) (t4 corr t3 d mean o : Int) (l : TimeLink), s.timeLink k = some l → s.ptpOn = true → s.grandmaster = false → l.use = 0 →
    l.p2p = false → (s.tlink k).dreq = some (q, t3) → (s.tlink k).sync = some d → mean = (d + (t4 - t3 - corr)) / 2 →
    o = d - mean - (s.tlink k).asym → Completes (.delayRespReceive k q t4 corr) s (fun t =>
      (s.tim.servo.st = 2 ∨ s.tim.servo.st = 3 → (s.fld F.TIM_SERVO_CFG_UNLOCK_THRESH : Int) * nsUnit < o.natAbs →
        (s.tim.servo.unlockRun < 7 → (t.tim.servo.st = 2 ∨ t.tim.servo.st = 3) ∧ t.tim.servo.unlockRun = s.tim.servo.unlockRun + 1 ∧
          t.fld F.TIM_SERVO_RELOCKS = s.fld F.TIM_SERVO_RELOCKS) ∧
        (s.tim.servo.unlockRun = 7 → t.tim.servo.st = 1 ∧ t.fld F.TIM_SERVO_RELOCKS = min 65535 (s.fld F.TIM_SERVO_RELOCKS + 1))) ∧
      (s.tim.servo.st = 2 ∨ s.tim.servo.st = 3 → (o.natAbs : Int) ≤ (s.fld F.TIM_SERVO_CFG_UNLOCK_THRESH : Int) * nsUnit →
        (t.tim.servo.st = 2 ∨ t.tim.servo.st = 3) ∧ t.tim.servo.unlockRun = 0 ∧ t.fld F.TIM_SERVO_RELOCKS = s.fld F.TIM_SERVO_RELOCKS) ∧
      (s.tim.servo.st = 4 ∨ s.tim.servo.st = 5 → t.fld F.TIM_SERVO_RELOCKS = s.fld F.TIM_SERVO_RELOCKS ∧
        t.tim.servo.st = if (o.natAbs : Int) ≤ (s.fld F.TIM_SERVO_CFG_UNLOCK_THRESH : Int) * nsUnit then 2 else 1)))

/-- The clock rows of TIM: times read and set, captures, HOLDOVER and UNQUAL, asymmetries, pulse outputs, closure reports and the triangles' sums. -/
def Obligations.ClockCapturesAndPulses : Prop :=
  (∀ (s : State) (now : Int), Completes (.timeLoRead now) s (fun t => t.fld F.TIM_TIME_HI_SEC_HI = timeHi now ∧ t.out = [.busResp false (timeLo now)] ∧
    t = { s with regs := t.regs, tim := { s.tim with time := now }, out := t.out } ∧ s.onlyFields [F.TIM_TIME_HI_SEC_HI] t)) ∧
  (∀ (s : State) (hi : Nat), s.grandmaster = false ∨ s.tim.servo.st ≠ 0 ∨ s.isArmed = true → exec (.timeSet hi) s = .next { s with out := [] }) ∧
  (∀ (s : State) (hi : Nat), s.grandmaster = true → s.tim.servo.st = 0 → s.isArmed = false → Completes (.timeSet hi) s (fun t =>
    t.fld F.TIM_TIME_HI_SEC_HI = hi % 2 ^ 32 ∧ t.tim.servo = (if s.ppsSource = false ∧ s.works 1 = true then
      { s.tim.servo.enter 3 with acq := [], stepDue := none } else s.tim.servo) ∧
    ({ s with tim := { s.tim with time := timeOf (s.reg F.TIM_TIME_LO_FRAC.addr).toNat hi, gmSet := true, servo := t.tim.servo } } : State).onlyMessagesAnd
      [F.TIM_TIME_HI_SEC_HI] t)) ∧
  (∀ (s : State) (m : Nat) (fall : Bool) (x : Int), s.works 1 = false ∨ s.flag (F.TIM_CAP_CFG_EN.at m) = false ∨ s.flag (F.TIM_CAP_CFG_EDGE.at m) ≠ fall →
    exec (.captureEdge m fall x) s = .next { s with out := [] }) ∧
  (∀ (s : State) (m : Nat) (fall : Bool) (x y : Int) (q : List CapEntry), m < 4 → s.works 1 = true → s.flag (F.TIM_CAP_CFG_EN.at m) = true →
    s.flag (F.TIM_CAP_CFG_EDGE.at m) = fall → q = s.tim.caps.get nil m → y = (x * 10 - s.sfld (F.TIM_CAP_CFG_COMP.at m) * 16384) / 10 →
    Completes (.captureEdge m fall x) s (fun t => ∃ u : State,
      (q.length < 16 → u.tim = { s.tim with time := x, caps := s.tim.caps.put nil m (q ++ [CapEntry.mk y (!s.timeQualified)]) } ∧
        getBits (u.reg (F.INT_PEND_ERR.at 1).addr) (8 + m) 1 = 1 ∧ ({ s with tim := u.tim } : State).onlyMessages u) ∧
      (16 ≤ q.length → u = (({ s with tim := { s.tim with time := x }, out := [] } : State).setFld (F.TIM_CAP_CFG_OVERFLOW.at m) 1)) ∧
      (if (s.grandmaster && s.ppsSource && s.fld F.TIM_GM_PPS_INPUT == m && (s.tim.gmSet || s.tim.servo.st != 0)) = true
        then u.servoTook (some 1000000000) (ppsOffset y) 0 t else t = u))) ∧
  (∀ (s : State) (m : Nat), s.tim.caps.get nil m = [] → Completes (.captureRead m) s (fun t => t.out = [.busResp false 0] ∧
    t.flag (F.TIM_CAP_HI_VALID.at m) = false ∧ t.fld (F.TIM_CAP_HI_SEC_HI.at m) = 0 ∧ s.onlyBank t ∧
    s.onlyFields [F.TIM_CAP_HI_VALID.at m, F.TIM_CAP_HI_SEC_HI.at m] t)) ∧
  (∀ (s : State) (m : Nat) (e : CapEntry) (es : List CapEntry), s.tim.caps.get nil m = e :: es → Completes (.captureRead m) s (fun t =>
    t.out = [.busResp false (timeLo e.time)] ∧ t.flag (F.TIM_CAP_HI_VALID.at m) = true ∧ t.fld (F.TIM_CAP_HI_SEC_HI.at m) = timeHi e.time ∧
    t.flag (F.TIM_CAP_HI_UNQUAL.at m) = e.unqual ∧ t = { s with regs := t.regs, tim := { s.tim with caps := s.tim.caps.put nil m es }, out := t.out } ∧
    s.onlyFields [F.TIM_CAP_HI_VALID.at m, F.TIM_CAP_HI_SEC_HI.at m, F.TIM_CAP_HI_UNQUAL.at m] t)) ∧
  (∀ (s : State) (c : Instr) (st : Nat) (held : Nat), (c = .holdoverEntry ∧ st = 4 ∧ s.works 1 = true ∧ s.hasReference = true ∧
      (s.tim.servo.st = 2 ∨ s.tim.servo.st = 3) ∧ s.fld F.TIM_SERVO_CFG_HOLDOVER_N ≤ s.tim.silent ∨
      c = .unqualEntry held ∧ st = 5 ∧ s.works 1 = true ∧ s.tim.servo.st = 4 ∧ s.fld F.TIM_SERVO_CFG_HOLDOVER_LIMIT * 10000000 < held) →
    Completes c s (fun t => t.tim = { s.tim with servo := s.tim.servo.enter st } ∧ ({ s with tim := t.tim } : State).onlyMessages t)) ∧
  (∀ s : State, s.works 1 = false ∨ s.hasReference = false ∨ s.tim.servo.st ≠ 2 ∧ s.tim.servo.st ≠ 3 ∨ s.tim.silent < s.fld F.TIM_SERVO_CFG_HOLDOVER_N →
    exec .holdoverEntry s = .next { s with out := [] }) ∧
  (∀ (s : State) (held : Nat), s.works 1 = false ∨ s.tim.servo.st ≠ 4 ∨ held ≤ s.fld F.TIM_SERVO_CFG_HOLDOVER_LIMIT * 10000000 →
    exec (.unqualEntry held) s = .next { s with out := [] }) ∧
  (∀ (s : State) (k v : Nat), Completes (.asymWrite k v) s (fun t => t.fld (F.TIM_ASYM_DATA_ASYM.at k) = v % 2 ^ 32 ∧
    t = { s with regs := t.regs, out := [] } ∧ s.onlyFields [F.TIM_ASYM_DATA_ASYM.at k] t)) ∧
  (∀ (s u : State) (n v : Nat) (now start : Int) (period : Nat), n < 8 → v < 2 ^ 64 → 
    u = ({ s with tim := { s.tim with time := now }, out := [] } : State).setReg (F.TIM_PULSE_CFG_MODE.at n).addr (writeReg
      [(0, 2, .rw), (2, 1, .rw), (3, 1, .rw), (4, 1, .w1c), (5, 1, .w1c), (8, 24, .rw), (32, 16, .rw)] (s.reg (F.TIM_PULSE_CFG_MODE.at n).addr)
      (BitVec.ofNat 64 v)) →
    start = timeOf (s.reg (F.TIM_PULSE_START_LO_FRAC.at n).addr).toNat (s.fld (F.TIM_PULSE_START_HI_SEC_HI.at n)) →
    period = s.fld (F.TIM_PULSE_PERIOD_PERIOD.at n) → Completes (.pulseModeWrite n v now) s (fun t =>
      t.fld (F.TIM_PULSE_CFG_MODE.at n) = v % 4 ∧ t.fld (F.TIM_PULSE_CFG_WIDTH.at n) = v / 256 % 2 ^ 24 ∧
      (∀ k, k ≠ n → t.pulse k = s.pulse k) ∧
      ({ u with tim := { u.tim with pulses := t.tim.pulses } } : State).onlyMessagesAnd [F.TIM_PULSE_CFG_MISSED.at n, F.TIM_PULSE_CFG_MODE_ERR.at n] t ∧
      (u.pulseWrong n = true → t.pulse n = {} ∧ t.flag (F.TIM_PULSE_CFG_MODE_ERR.at n) = true) ∧
      (u.pulseWrong n = false → v % 4 = 0 → t.pulse n = {}) ∧
      (u.pulseWrong n = false → v % 4 = 1 ∨ v % 4 = 2 → now ≤ start → t.pulse n = { next := some start }) ∧
      (u.pulseWrong n = false → v % 4 = 1 → start < now → t.pulse n = {} ∧ t.flag (F.TIM_PULSE_CFG_MISSED.at n) = true) ∧
      (u.pulseWrong n = false → v % 4 = 2 → start < now → t.flag (F.TIM_PULSE_CFG_MISSED.at n) = true ∧
        ∃ e, t.pulse n = { next := some e } ∧ now < e ∧ e ≤ now + period ∧ (e - start) % period = 0) ∧
      (u.pulseWrong n = false → v % 4 = 3 → t.pulse n = { equinox := true }))) ∧
  (∀ (s : State) (n : Nat), (s.pulse n).equinox = false → (s.pulse n).next = none → exec (.pulseEdge n) s = .next { s with out := [] }) ∧
  (∀ (s : State) (n : Nat) (next : Option Int), n < 8 → (s.pulse n).equinox = true ∨ (s.pulse n).next ≠ none →
    next = (if s.fld (F.TIM_PULSE_CFG_MODE.at n) = 2 then (s.pulse n).next.map (fun (e : Int) => e + (s.fld (F.TIM_PULSE_PERIOD_PERIOD.at n) : Int)) else none) →
    Completes (.pulseEdge n) s (fun t => (∀ k, k ≠ n → t.pulse k = s.pulse k) ∧
      ({ s with tim := { s.tim with pulses := t.tim.pulses } } : State).onlyMessagesAnd [F.TIM_PULSE_CFG_MODE_ERR.at n] t ∧
      (s.pulseWrong n = true → t.pulse n = { s.pulse n with active := false } ∧ t.flag (F.TIM_PULSE_CFG_MODE_ERR.at n) = true ∧ t.out = []) ∧
      (s.pulseWrong n = false → s.pulseAllowed n = true → t.pulse n = { s.pulse n with active := true, next := next } ∧ t.out = [.pulse n]) ∧
      (s.pulseWrong n = false → s.pulseAllowed n = false → t.pulse n = { s.pulse n with active := false, next := next } ∧ t.out = []))) ∧
  (∀ (s : State) (n : Nat), exec (.pulseWidthEnd n) s = .next (({ s with out := [] } : State).setPulse n { s.pulse n with active := false })) ∧
  (∀ s : State, s.masterOf .group = false ∨ s.works 1 = false → exec .closureReport s = .next { s with out := [] }) ∧
  (∀ (s : State) (es : List (Nat × TimeLink × Int)), s.masterOf .group = true → s.works 1 = true →
    es = (s.image.timeLinks.zipIdx).filterMap (fun e => if e.1.use = 2 then (s.tlink e.2).closure.map (fun o => (e.2, e.1, o)) else none) →
    Completes .closureReport s (fun t =>
      (∀ k, t.tlink k = if k ∈ es.map (fun e => e.1) then { s.tlink k with closure := none } else s.tlink k) ∧
      (es = [] → t = { s with out := [] }) ∧
      (es ≠ [] → s.masterOf .system = true → t = { s with tim := { s.tim with links := t.tim.links, closures := t.tim.closures }, out := [] } ∧
        ∀ e, es.getLast? = some e → t.tim.closures.get none' (e.2.1.peer % 256 * 256 + s.group) = some (quarters e.2.2)) ∧
      (es ≠ [] → s.masterOf .system = false → ({ s with tim := { s.tim with links := t.tim.links } } : State).onlyMessages t ∧
        s.sends 0x20 9 s.myGroup (({ kind := 2, level := 1, plan := s.image.planNo, epoch := s.epoch } : SumBody).bytes.take 6 ++ le 2 es.length ++
          ({ kind := 2, level := 1, plan := s.image.planNo, epoch := s.epoch } : SumBody).bytes.drop 8 ++
          (es.map (fun e => closureEntry e.1 e.2.1 e.2.2)).flatten) t))) ∧
  (∀ s : State, s.masterOf .system = false ∨ s.works 1 = false → exec .loopEvaluation s = .next { s with out := [] }) ∧
  (∀ s : State, s.masterOf .system = true → s.works 1 = true → Completes .loopEvaluation s (fun t => t.tim = { s.tim with closures := [] } ∧
    ({ s with tim := t.tim } : State).onlyMessagesAnd ((List.range s.image.triangles.length).map (fun i => Fld.whole (F.TIM_LOOP_DATA_SUM.at i).addr)) t ∧
    ∀ (i a b c : Nat), s.image.triangles[i]? = some (a, b, c) →
      (∀ (x y z v : Int), s.tim.closures.get none' (a % 256 * 256 + b) = some x → s.tim.closures.get none' (b % 256 * 256 + c) = some y →
        s.tim.closures.get none' (c % 256 * 256 + a) = some z → v = clampSigned 32 (x + y + z) →
        t.fld (F.TIM_LOOP_DATA_SUM.at i) = toField 32 v ∧ t.flag (F.TIM_LOOP_DATA_INCOMPLETE.at i) = false ∧
        (v.natAbs ≤ s.fld (F.TIM_LOOP_DATA_DRIFT_THRESH.at i) * 4 → t.fld (F.TIM_LOOP_DATA_CONSEC.at i) = 0 ∧
          t.flag (F.TIM_LOOP_DATA_DRIFT.at i) = s.flag (F.TIM_LOOP_DATA_DRIFT.at i)) ∧
        (s.fld (F.TIM_LOOP_DATA_DRIFT_THRESH.at i) * 4 < v.natAbs →
          t.fld (F.TIM_LOOP_DATA_CONSEC.at i) = min 255 (s.fld (F.TIM_LOOP_DATA_CONSEC.at i) + 1) ∧
          (s.image.driftN ≤ min 255 (s.fld (F.TIM_LOOP_DATA_CONSEC.at i) + 1) → t.flag (F.TIM_LOOP_DATA_DRIFT.at i) = true))) ∧
      (s.tim.closures.get none' (a % 256 * 256 + b) = none ∨ s.tim.closures.get none' (b % 256 * 256 + c) = none ∨
        s.tim.closures.get none' (c % 256 * 256 + a) = none → t.flag (F.TIM_LOOP_DATA_INCOMPLETE.at i) = true ∧
        t.fld (F.TIM_LOOP_DATA_SUM.at i) = s.fld (F.TIM_LOOP_DATA_SUM.at i))))

/-- A Potik's stamps, PTP messages, Delay_Req and domain windows, and its ARM, SIGN, tamper and reset: what each leaves. -/
def Obligations.PotikTimeAndArming : Prop :=
  (∀ (s : State) (d q fec : Nat) (x : Int), OnDie (.ptkRxStamp d q fec x) s d (fun p r o => o = [] ∧ r.fld F.PTK_TIME_STATUS_FEC = fec % 4 ∧
    p.onlyFields [F.PTK_TIME_STATUS_FEC] r ∧
    r = { p with regs := r.regs, stamps := ((q, x - (p.fld (F.PTK_TIME_CORR_D_RX.at (fec % 4)) : Int)) :: p.stamps).take 16 })) ∧
  (∀ (s : State) (d n : Nat) (m : PtkMsg), (s.ptk d).stampOf n = none → OnDie (.ptkPtpReceive d n m) s d (fun p r o => o = [] ∧
    r.flag F.PTK_TIME_STATUS_NO_STAMP = true ∧ p.onlyFields [F.PTK_TIME_STATUS_NO_STAMP] r ∧ r = { p with regs := r.regs })) ∧
  (∀ (s : State) (d n : Nat) (m : PtkMsg) (x : Int), (s.ptk d).stampOf n = some x →
    (m.domain ≠ s.image.domain → OnDie (.ptkPtpReceive d n m) s d (fun p r o => r = p ∧ o = [])) ∧
    (∀ q two t1 c, m = .sync s.image.domain q two t1 c → OnDie (.ptkPtpReceive d n m) s d (fun p r o => o = [] ∧ r = { p with link :=
      if two then { p.link with wait := some { seqId := q, t2 := x, corr := c } } else { p.link with sync := some (x - t1 - c), wait := none } })) ∧
    (∀ q t1 c, m = .followUp s.image.domain q t1 c → OnDie (.ptkPtpReceive d n m) s d (fun p r o => o = [] ∧ r = { p with link :=
      match p.link.wait with
      | some w => if w.seqId = q then { p.link with sync := some (w.t2 - t1 - w.corr - c), wait := none } else { p.link with wait := none }
      | none => p.link })) ∧
    (∀ q t4 c, m = .delayResp s.image.domain q t4 c → (∀ y, (s.ptk d).link.dreq = some y → y.1 ≠ q) ∨ (s.ptk d).link.sync = none →
      OnDie (.ptkPtpReceive d n m) s d (fun p r o => r = p ∧ o = [])) ∧
    (∀ q t4 c t3 sy o' v out, m = .delayResp s.image.domain q t4 c → (s.ptk d).link.dreq = some (q, t3) → (s.ptk d).link.sync = some sy →
      o' = sy - (sy + (t4 - t3 - c)) / 2 → (s.ptk d).servo.measure (s.ptk d).servoCfg o' = (v, out) →
      OnDie (.ptkPtpReceive d n m) s d (fun p r o => o = [] ∧ r.link = { p.link with dreq := none } ∧ r.silent = 0 ∧
        r.fld F.PTK_TIME_STATUS_STATE = r.servo.st % 8 ∧
        (out.step = none → r.servo = v ∧ r.time = p.time ∧ r.opened = p.opened) ∧
        (∀ k, out.step = some k → p.armed = true → r.servo = { v with stepDue := some k } ∧ r.time = p.time ∧ r.opened = p.opened) ∧
        (∀ k, out.step = some k → p.armed = false → r.servo = v.stepped ∧ r.time = p.time - k ∧ r.opened = p.opened - k) ∧
        p.onlyFields [F.PTK_TIME_STATUS_STATE, F.PTK_TIME_STATUS_RATE_SAT] r ∧
        r = { p with regs := r.regs, servo := r.servo, time := r.time, opened := r.opened, silent := 0, link := r.link }))) ∧
  (∀ (s : State) (d fec : Nat) (tap : Int), OnDie (.ptkDelayReqInterval d fec tap) s d (fun p r o =>
    o = [.ptkPtp p.die (.delayReq p.link.nextDreq)] ∧ r.fld F.PTK_TIME_STATUS_FEC = fec % 4 ∧
    r.link = { p.link with nextDreq := (p.link.nextDreq + 1) % 2 ^ 16
                           dreq := some (p.link.nextDreq, tap + (p.fld (F.PTK_TIME_CORR_D_TX.at (fec % 4)) : Int)) } ∧
    r.servo = (if (p.servo.st = 2 ∨ p.servo.st = 3) ∧ p.servoCfg.holdoverN ≤ p.silent + 1 then p.servo.enter 4
      else if p.servo.st = 4 ∧ p.servoCfg.limit < (p.silent + 1 - p.servoCfg.holdoverN) * p.servoCfg.interval then p.servo.enter 5 else p.servo) ∧
    p.onlyFields [F.PTK_TIME_STATUS_STATE, F.PTK_TIME_STATUS_FEC] r ∧
    r = { p with regs := r.regs, silent := p.silent + 1, servo := r.servo, link := r.link })) ∧
  (∀ (s : State) (d k n num den : Nat) (first last tEnd : Int),
    (2 ≤ n ∧ num = (last - first).toNat ∧ den = 8 * (n - 1) ∨
     n = 1 ∧ (∃ t, ((s.ptk d).dom k).last = some t ∧ num = (first - t).toNat) ∧ den = 8 ∨
     n = 0 ∧ (∃ t, ((s.ptk d).dom k).last = some t ∧ ((s.ptk d).dom k).num * 8 ≤ (tEnd - t).toNat * ((s.ptk d).dom k).den ∧ num = (tEnd - t).toNat) ∧ den = 8 ∨
     n = 0 ∧ (∃ t, ((s.ptk d).dom k).last = some t ∧ (tEnd - t).toNat * ((s.ptk d).dom k).den < ((s.ptk d).dom k).num * 8) ∧
       num = ((s.ptk d).dom k).num ∧ den = ((s.ptk d).dom k).den) →
    OnDie (.domainWindow d k n first last tEnd) s d (fun p r o => o = [] ∧
      r.dom k = { last := if n = 0 then (p.dom k).last else some last, num := num, den := den, quiet := if n = 0 then (p.dom k).quiet + 1 else 0 } ∧
      r.fld (F.PTK_DOM_DATA_MEASURED_PS.at k) = min 0xFFFF (num * 1000 / (65536 * max 1 den)) ∧
      (r.flag (F.PTK_DOM_DATA_STRETCH.at k) = true ↔ 17 * p.nominal k * 65536 * den < num * 16000) ∧
      r.fld (F.PTK_DOM_DATA_STRETCH_Q.at k) = stretchQ num den (p.nominal k) ∧
      (r.flag (F.PTK_DOM_DATA_HALTED.at k) = true ↔ n = 0 ∧ 3 ≤ (p.dom k).quiet) ∧ (∀ j, j ≠ k → r.dom j = p.dom j) ∧
      p.onlyFields [F.PTK_DOM_DATA_MEASURED_PS.at k, F.PTK_DOM_DATA_STRETCH.at k, F.PTK_DOM_DATA_STRETCH_Q.at k, F.PTK_DOM_DATA_HALTED.at k] r ∧
      r = { p with regs := r.regs, doms := r.doms })) ∧
  (∀ (s : State) (d v : Nat), OnDie (.ptkArmWrite d v) s d (fun p r o => o = [] ∧ r.fld F.PTK_CTRL_ARM = v % 2 ∧ p.onlyFields [F.PTK_CTRL_ARM] r ∧
    r = { p with regs := r.regs })) ∧
  (∀ (s : State) (d : Nat), OnDie (.ptkSign d) s d (fun p r o => o = [] ∧ r.signing = p.flag F.PTK_IDENT_KEY_LOADED ∧
    r.flag F.PTK_ID_CTRL_DONE = false ∧ r.flag F.PTK_ID_CTRL_FAIL = !p.flag F.PTK_IDENT_KEY_LOADED ∧
    p.onlyFields [F.PTK_ID_CTRL_DONE, F.PTK_ID_CTRL_FAIL] r ∧ r = { p with regs := r.regs, signing := r.signing })) ∧
  (∀ (s : State) (d : Nat), OnDie (.ptkSignDone d) s d (fun p r o => o = [] ∧ (p.signing = false → r = p) ∧ r.signing = false ∧
    r = { p with regs := r.regs, signing := false } ∧
    (∀ eui pub, p.signing = true → p.flag F.PTK_IDENT_KEY_LOADED = true → p.ident = some (eui, pub) → r.flag F.PTK_ID_CTRL_DONE = true ∧
      ∀ w < 12, r.reg (entryAddr 0x7D0 (1 + 4 * w)) =
        BitVec.ofNat 64 (bytesAt (Config.ecdsaSign pub (Config.sha384 (p.idBuffer 0 6 ++ le 8 eui ++ le 4 p.addr))) (8 * w) 8)) ∧
    (p.signing = true → p.flag F.PTK_IDENT_KEY_LOADED = false ∨ p.ident = none → r.flag F.PTK_ID_CTRL_FAIL = true ∧
      p.onlyFields [F.PTK_ID_CTRL_FAIL] r))) ∧
  (∀ (s : State) (d : Nat), OnDie (.ptkTamper d) s d (fun p r o => o = [] ∧ r.flag F.PTK_IDENT_TAMPER = true ∧
    r.flag F.PTK_IDENT_KEY_LOADED = false ∧ p.onlyFields [F.PTK_IDENT_TAMPER, F.PTK_IDENT_KEY_LOADED] r ∧ r = { p with regs := r.regs })) ∧
  (∀ (s : State) (d : Nat), Completes (.ptkReset d) s (fun t => t = { s with potiks := t.potiks, out := [] } ∧ (∀ k, k ≠ d → t.ptk k = s.ptk k) ∧
    (t.ptk d).inReset = true ∧ t.ptk d = { ({} : Potik) with params := (s.ptk d).params, addr := s.dieAddr d, inReset := true, regs := (t.ptk d).regs } ∧
    ∀ g : Fld, g.lo + g.w ≤ 64 → (∀ k < (s.ptk d).params.domains, (F.PTK_DOM_DATA_NOMINAL_PS.at k).apart g) →
      (t.ptk d).fld g = getBits (potikReset g.addr) g.lo g.w)) ∧
  (∀ (s : State) (d : Nat) (a b : PIdCopy) (high : Bool) (u : Option (Nat × Bytes)),
    (a.intact = true → b.intact = true → a.eui = b.eui → a.publicKey = b.publicKey → u = some (a.eui, a.publicKey)) →
    (a.intact = true → b.intact = true → (a.eui ≠ b.eui ∨ a.publicKey ≠ b.publicKey) → u = none) →
    (a.intact = true → b.intact = false → u = some (a.eui, a.publicKey)) → (a.intact = false → b.intact = true → u = some (b.eui, b.publicKey)) →
    (a.intact = false → b.intact = false → u = none) → Completes (.ptkResetRelease d a b high) s (fun t =>
      t = { s with potiks := t.potiks, out := [] } ∧ (∀ k, k ≠ d → t.ptk k = s.ptk k) ∧
      t.ptk d = { ({} : Potik) with params := (s.ptk d).params, addr := s.dieAddr d, ident := u, regs := (t.ptk d).regs } ∧
      (t.ptk d).armed = false ∧ (t.ptk d).flag F.PTK_IDENT_KEY_LOADED = (u.isSome && high) ∧
      (∀ x, u = some x → ∀ w < 12, (t.ptk d).reg (entryAddr 0x7D0 (2 + 4 * w)) = BitVec.ofNat 64 (bytesAt x.2 (8 * w) 8))))

/-- PTK_COUNTER_WRITE, COUNTER_WRAP, the SAMPLE rows, SMP_READ and SWEEP_HANDOFF: counters written, wrapped, sampled, read and swept. -/
def Obligations.PotikCounters : Prop :=
  (∀ (s : State) (d g k v : Nat), g < (s.ptk d).params.groups → g < 128 → k < 8 →
    ((s.ptk d).halted ((s.ptk d).groupDomain g) = true → ∀ off ∈ [Potik.cntAddr g k, Potik.selAddr g k, Potik.reloadAddr g k],
      OnDie (.ptkCounterWrite d off v) s d (fun p q o => o = [] ∧ q.fld (F.PTK_PG_STATUS_WR_DROP.at g) = (p.fld (F.PTK_PG_STATUS_WR_DROP.at g) ||| 2 ^ k) ∧
        p.onlyFields [F.PTK_PG_STATUS_WR_DROP.at g] q ∧ q = { p with regs := q.regs })) ∧
    ((s.ptk d).halted ((s.ptk d).groupDomain g) = false →
      (∀ off ∈ [Potik.cntAddr g k, Potik.reloadAddr g k], OnDie (.ptkCounterWrite d off v) s d (fun p q o => o = [] ∧
        getBits (q.reg off) 0 48 = v % 2 ^ 48 ∧ p.onlyFields [⟨off, 0, 48, 0⟩] q ∧ q = { p with regs := q.regs })) ∧
      OnDie (.ptkCounterWrite d (Potik.selAddr g k) v) s d (fun p q o => o = [] ∧ getBits (q.reg (Potik.selAddr g k)) 0 13 = v % 2 ^ 13 ∧
        getBits (q.reg (Potik.selAddr g k)) 14 7 = v / 2 ^ 14 % 2 ^ 7 ∧ getBits (q.reg (Potik.selAddr g k)) 24 32 = v / 2 ^ 24 % 2 ^ 32 ∧
        p.onlyFields [⟨Potik.selAddr g k, 0, 64, 0⟩] q ∧ q = { p with regs := q.regs }))) ∧
  (∀ (s : State) (d off v : Nat), (s.ptk d).counterOf off = none → OnDie (.ptkCounterWrite d off v) s d (fun p q o => q = p ∧ o = [])) ∧
  (∀ (s : State) (d u c b : Nat) (sl : List PevSlot) (now : Int), c < 16 →
    ((s.ptk d).wired u c = true → (s.ptk d).halted ((s.ptk d).unitDomain u) = false → OnDie (.counterWrap d (.census u c) b sl now) s d (fun p q o =>
      o = [] ∧ q.fld (F.PTK_CEN_DATA_VALUE.at (u * 16 + c)) = 0 ∧ q.flag (F.PTK_CEN_DATA_OVF.at (u * 16 + c)) = true ∧
      (q.wraps.get (fun _ => {}) (u * 16 + c)).count = (p.wraps.get (fun _ => {}) (u * 16 + c)).count + 1 ∧
      (q.wraps.get (fun _ => {}) (u * 16 + c)).at_ = some (((p.wraps.get (fun _ => {}) (u * 16 + c)).at_).getD now) ∧
      p.onlyFields [F.PTK_CEN_DATA_VALUE.at (u * 16 + c), F.PTK_CEN_DATA_OVF.at (u * 16 + c)] q ∧
      q = { p with regs := q.regs, time := now, wraps := q.wraps })) ∧
    ((s.ptk d).wired u c = false ∨ (s.ptk d).halted ((s.ptk d).unitDomain u) = true →
      OnDie (.counterWrap d (.census u c) b sl now) s d (fun p q o => q = { p with time := now } ∧ o = []))) ∧
  (∀ (s : State) (d g k b : Nat) (sl : List PevSlot) (now : Int), exec (.counterWrap d (.group g k) b sl now) s = exec (.sampleArm d g k b sl now) s) ∧
  (∀ (s : State) (d g k b v : Nat) (sl : List PevSlot) (now : Int), g < (s.ptk d).params.groups → g < 128 → k < 8 →
    (s.ptk d).halted ((s.ptk d).groupDomain g) = false → (s.ptk d).increment g k sl ≤ 60 → v = b % 2 ^ 48 + (s.ptk d).increment g k sl →
    (v < 2 ^ 48 → OnDie (.sampleArm d g k b sl now) s d (fun p q o => o = [] ∧ getBits (q.reg (Potik.cntAddr g k)) 0 48 = v ∧
      p.onlyFields [⟨Potik.cntAddr g k, 0, 48, 0⟩] q ∧ q = { p with regs := q.regs, time := now })) ∧
    (2 ^ 48 ≤ v → OnDie (.sampleArm d g k b sl now) s d (fun p q o => o = [] ∧
      q.fld (F.PTK_PG_STATUS_OVF.at g) = (p.fld (F.PTK_PG_STATUS_OVF.at g) ||| 2 ^ k) ∧
      (q.wraps.get (fun _ => {}) (2 ^ 20 + g * 8 + k)).count = (p.wraps.get (fun _ => {}) (2 ^ 20 + g * 8 + k)).count + 1 ∧
      getBits (q.reg (Potik.cntAddr g k)) 0 48 = (if getBits (p.reg (Potik.selAddr g k)) 12 1 = 1 then
        (getBits (p.reg (Potik.reloadAddr g k)) 0 48 + (v - 2 ^ 48)) % 2 ^ 48 else v - 2 ^ 48) ∧
      (getBits (p.reg (Potik.selAddr g k)) 12 1 = 0 ∨ p.flag F.PTK_SMP_CTRL_EN = false → q.capture g = p.capture g ∧ q.dropCount = p.dropCount) ∧
      (getBits (p.reg (Potik.selAddr g k)) 12 1 = 1 → p.flag F.PTK_SMP_CTRL_EN = true → (p.groupPort g = none ∨ p.capture g ≠ none) →
        q.capture g = p.capture g ∧ q.dropPending = true ∧ q.dropCount = p.dropCount + 1) ∧
      (∀ port, getBits (p.reg (Potik.selAddr g k)) 12 1 = 1 → p.flag F.PTK_SMP_CTRL_EN = true → p.groupPort g = some port → p.capture g = none →
        q.flag (F.PTK_PG_STATUS_ARMED.at g) = true ∧ q.capture g = some
          { counter := k, line := (p.params.pev.getD port []).findIdx? (fun x => x == some (getBits (p.reg (Potik.selAddr g k)) 0 10)) }) ∧
      q = { p with regs := q.regs, time := now, wraps := q.wraps, armedCap := q.armedCap, dropPending := q.dropPending, dropCount := q.dropCount }))) ∧
  (∀ (p : Potik) (g k : Nat) (sl : List PevSlot), p.increment g k sl = (if getBits (p.reg (Potik.selAddr g k)) 10 1 = 0 then 0
    else (((sl.take 4).filter (slotPasses (p.reg (Potik.selAddr g k)) (p.ranges g))).map (fun x => x.inc)).sum)) ∧
  (∀ (s : State) (d g addr insn lat priv src pev skid : Nat) (now : Int),
    ((s.ptk d).capture g = none ∨ (∃ a j, (s.ptk d).capture g = some a ∧ a.line = some j ∧ bit pev j = false) →
      OnDie (.sampleCapture d g addr insn lat priv src pev skid now) s d (fun p q o => q = { p with time := now } ∧ o = [])) ∧
    (∀ a, (s.ptk d).capture g = some a → (∀ j, a.line = some j → bit pev j = true) →
      ((s.ptk d).samples.length = 4096 → OnDie (.sampleCapture d g addr insn lat priv src pev skid now) s d (fun p q o => o = [] ∧
        q.capture g = none ∧ q.samples = p.samples ∧ q.dropPending = true ∧ q.dropCount = p.dropCount + 1)) ∧
      ((s.ptk d).sampleLocal = true ∧ (s.ptk d).samples.length < 4096 ∨ (s.ptk d).samples.length < 2047 →
        OnDie (.sampleCapture d g addr insn lat priv src pev skid now) s d (fun p q o => o = [] ∧ q.capture g = none ∧
          q.flag (F.PTK_PG_STATUS_ARMED.at g) = false ∧ q.dropPending = false ∧ ∃ e : Bytes, q.samples = p.samples ++ [e] ∧ e.length = 32 ∧
            bytesAt e 0 8 = addr % 2 ^ 64 ∧ bytesAt e 8 8 = insn % 2 ^ 64 ∧ bytesAt e 16 3 = lat % 2 ^ 24 ∧ bytesAt e 22 1 = g % 64 ∧
            bytesAt e 24 4 = ({ p with time := now } : Potik).stamp ∧ bytesAt e 28 2 = p.epoch % 2 ^ 16)))) ∧
  (∀ (s : State) (d g : Nat), OnDie (.sampleAbandon d g) s d (fun p q o => o = [] ∧ q.capture g = none ∧ (p.capture g = none → q = p) ∧
    (p.capture g ≠ none → q.dropPending = true ∧ q.dropCount = p.dropCount + 1 ∧ q.fld F.PTK_SMP_STATUS_DROPS =
      min 0xFFFFFFFF (p.fld F.PTK_SMP_STATUS_DROPS + 1)))) ∧
  (∀ (s : State) (d : Nat) (now : Int), OnDie (.sampleDrain d now) s d (fun p q o => o = [] ∧
    (p.sampleLocal = true ∨ p.samples = [] ∨ p.armed = false → q = { p with time := now }) ∧
    (p.sampleLocal = false → p.samples ≠ [] → p.armed = true → q.samples = [] ∧ q.dropCount = 0 ∧ q.readPhase = 0 ∧
      (bit (p.fld F.PTK_COD_CFG_TYPES) 4 = false → p.queued + 48 + p.samples.flatten.length ≤ Potik.frameMemory → Potik.queues p q 4 0x04
        (le 2 p.samples.length ++ le 4 (min 0xFFFFFFFF p.dropCount) ++ zeros 2 ++ p.samples.flatten))))) ∧
  (∀ (s : State) (d : Nat), OnDie (.smpRead d) s d (fun p q o => (p.samples = [] → q = p ∧ o = [.dieResp p.die 0]) ∧
    ∀ e rest, p.samples = e :: rest → o = [.dieResp p.die (bytesAt e (8 * p.readPhase) 8)] ∧
      q = (if 3 ≤ p.readPhase then { p with samples := rest, readPhase := 0 } else { p with readPhase := p.readPhase + 1 }))) ∧
  (∀ (s : State) (d : Nat) (s0 : Int) (el : List Latch), OnDie (.sweepHandoff d s0 el) s d (fun p q o => o = [] ∧
    (p.armed = false ∨ p.sweepDue = false → q = p) ∧
    (p.armed = true → p.sweepDue = true → q.sweepDue = false ∧ q.healthDue = none ∧ q.rawEpoch = p.epoch ∧ q.fld F.PTK_CEN_STATUS_SWEEPING = 0 ∧
      q.fld F.PTK_CEN_STATUS_LAST_LEN = (p.wiredUnits.length + p.params.groups) % 4096 ∧
      q.fld F.PTK_REC_SEQ_NEXT = (p.fld F.PTK_REC_SEQ_NEXT + (if p.healthDue = none then 2 else 3)) % 2 ^ 32 ∧
      (p.params.units ≤ 2047 → p.params.groups ≤ 128 → ∀ u c l x, u < p.params.units → el[u]? = some l → l.values[c]? = some x → c < 16 →
        q.raws.get zero (u * 16 + c) = x % 2 ^ 32 ∧ q.fld (F.PTK_CEN_DATA_VALUE.at (u * 16 + c)) = x % 2 ^ 32))))

/-- HEALTH_ROUND, HEALTH_ACK, HEALTH_ACK_TIMEOUT, ACTIVITY_READ, WS_BEAT_ARRIVAL and WS_BEAT: samples, bands, activities and watch slots. -/
def Obligations.PotikSensorsAndWatch : Prop :=
  (∀ (s : State) (d k : Nat), (∀ c, (s.ptk d).sched = some c → (s.ptk d).open_ = false ∨ c.p < k * 100000 + 80000) →
    OnDie (.healthRound d k) s d (fun p q o => q = p ∧ o = [])) ∧
  (∀ (s : State) (d k : Nat) (c : Sched) (l : List Nat), (s.ptk d).sched = some c → (s.ptk d).open_ = true → k * 100000 + 80000 ≤ c.p →
    l = (List.range (s.ptk d).params.sensors).filter (fun i => (s.ptk d).flag (F.PTK_HS_CFG_EN.at i)) →
    OnDie (.healthRound d k) s d (fun p q o => q = { p with round := l, roundMax := none } ∧
      o = (match l with | i :: _ => [.sensorReq p.die i] | [] => []))) ∧
  (∀ (s : State) (d : Nat) (err : Bool) (code : Nat), (s.ptk d).round = [] → OnDie (.healthAck d err code) s d (fun p q o => q = p ∧ o = [])) ∧
  (∀ (s : State) (d code i : Nat) (err : Bool) (rest : List Nat) (c : Int) (top : Option Int), (s.ptk d).round = i :: rest → c = asSigned 16 code →
    top = (if err = false ∧ (s.ptk d).selectedTemp i = true then
      some (match (s.ptk d).roundMax with | some m => max m c | none => c) else (s.ptk d).roundMax) →
    OnDie (.healthAck d err code) s d (fun p q o => q.round = rest ∧ o = (match rest with | j :: _ => [.sensorReq p.die j] | [] => []) ∧
      (err = true → q.fld (F.PTK_HS_CFG_ERRORS.at i) = min 65535 (p.fld (F.PTK_HS_CFG_ERRORS.at i) + 1) ∧ q.sensors = p.sensors ∧
        q.fld (F.PTK_HS_CFG_LAST.at i) = p.fld (F.PTK_HS_CFG_LAST.at i)) ∧
      (err = false → q.fld (F.PTK_HS_CFG_LAST.at i) = code % 2 ^ 16 ∧
        (q.sensors.get (fun _ => {}) i).n = (p.sensors.get (fun _ => {}) i).n + 1 ∧
        (q.sensors.get (fun _ => {}) i).sum = (p.sensors.get (fun _ => {}) i).sum + c ∧
        (0 < (p.sensors.get (fun _ => {}) i).n → (q.sensors.get (fun _ => {}) i).lo = min (p.sensors.get (fun _ => {}) i).lo c ∧
          (q.sensors.get (fun _ => {}) i).hi = max (p.sensors.get (fun _ => {}) i).hi c) ∧
        (∀ j, j ≠ i → q.sensors.get (fun _ => {}) j = p.sensors.get (fun _ => {}) j)) ∧
      (rest ≠ [] ∨ top = none → q.band = p.band ∧ q.ctxValid = p.ctxValid ∧ q.roundMax = top) ∧
      (∀ m, rest = [] → top = some m → q.fld F.PTK_CTX_STATUS_TEMP_CODE = toField 16 m ∧ q.ctxValid = true ∧ q.roundMax = none ∧
        q.band = Potik.nextBand p.tempThresholds (p.fld F.PTK_CTX_CFG_HYST) p.band m) ∧
      p.onlyFields [F.PTK_HS_CFG_ERRORS.at i, F.PTK_HS_CFG_LAST.at i, F.PTK_CTX_STATUS_TEMP_CODE] q)) ∧
  (∀ (s : State) (d : Nat), exec (.healthAckTimeout d) s = exec (.healthAck d true 0) s) ∧
  (∀ (s : State) (d dt : Nat) (vs : List Nat), OnDie (.activityRead d dt vs) s d (fun p q o => o = [] ∧ q.actCtr = p.fld F.PTK_CTX_CFG_ACT_CTR ∧
    q = { p with act := q.act, actDen := q.actDen, actCtr := q.actCtr, actRaw := q.actRaw } ∧
    (p.params.units ≤ 2047 → ∀ (u v : Nat), u < p.params.units → vs[u]? = some v → q.actRaw.get none' u = some v ∧
      (∀ x, p.actCtr = q.actCtr → p.actRaw.get none' u = some x → q.actDen = max 1 (dt * 1000) ∧
        q.act.get zero u = (v + 2 ^ 32 - x) % 2 ^ 32 * p.nominal (p.unitDomain u))) ∧
    (p.actCtr ≠ q.actCtr → q.act = p.act ∧ q.actDen = p.actDen))) ∧
  (∀ (s : State) (d : Nat) (b : WBeat) (vf : Vf) (now : Int) (u : Potik), u = { s.ptkOf d with time := now, vf := vf } →
    ((s.ptk d).fifo.length < 32 → OnDie (.wsBeatArrival d b vf now) s d (fun p q o => o = [] ∧ q = { u with
      fifo := p.fifo ++ [{ beat := b, offset := u.stamp, quality := u.domainQuality p.params.wsDomain, context := u.tag (some b.unit) }] })) ∧
    (32 ≤ (s.ptk d).fifo.length → OnDie (.wsBeatArrival d b vf now) s d (fun p q o => o = [] ∧ q = { u with watches := q.watches } ∧
      ∀ k < 16, q.watch k = (match (p.watch k).inst with
        | none => p.watch k
        | some x => { p.watch k with inst := some (WInst.flagIf { x with dropped := min 0xFFFFFFFF (x.dropped + popcount 64 b.be) } true wPartial) })))) ∧
  (∀ (s : State) (d : Nat), (s.ptk d).fifo = [] → OnDie (.wsBeat d) s d (fun p q o => q = p ∧ o = [])) ∧
  (∀ (s : State) (d : Nat) (w : WEntry) (rest : List WEntry), (s.ptk d).fifo = w :: rest → OnDie (.wsBeat d) s d (fun p q o => o = [] ∧
    q = { p with regs := q.regs, fifo := rest, watches := q.watches } ∧ p.onlyFields ((List.range 16).map (fun k => F.PTK_TW_CFG_SKIPPED.at k)) q ∧
    ∀ k < 16, (Potik.watchMatches (p.watch k) w.beat = false → q.watch k = p.watch k) ∧
      ∀ x : WInst, x = WInst.beat (p.watch k).cfg (match (p.watch k).inst with
          | some y => y.flagIf (decide (w.beat.addr ≤ y.prevAddr)) wUnordered
          | none => { fmt := w.beat.fmt, tag := w.beat.tag, firstAddr := w.beat.addr }) w → Potik.watchMatches (p.watch k) w.beat = true →
        (getBits (p.watch k).cfg 1 1 = 0 ∨ w.beat.last = false → q.watch k = { p.watch k with inst := some x, matched := true }) ∧
        (getBits (p.watch k).cfg 1 1 = 1 → w.beat.last = true → (p.watch k).entries.length ≤ getBits (p.watch k).cfg 2 6 →
          q.watch k = { p.watch k with inst := none, matched := true, entries := (p.watch k).entries ++ [x.entry k 1] }) ∧
        (getBits (p.watch k).cfg 1 1 = 1 → w.beat.last = true → getBits (p.watch k).cfg 2 6 < (p.watch k).entries.length →
          q.watch k = { p.watch k with inst := none, matched := true } ∧
          q.fld (F.PTK_TW_CFG_SKIPPED.at k) = min 65535 (p.fld (F.PTK_TW_CFG_SKIPPED.at k) + 1))))

/-- TILE_OFFER, TILE_STREAM_END, TILE_SEED_WRITE, CS_CHUNK_END and the REDIGEST rows: tiles taken and streamed, trailers, and Digest reports. -/
def Obligations.PotikTilesAndDigests : Prop :=
  (∀ (s : State) (d desc id unit n : Nat) (vf : Vf) (now : Int) (u : Potik) (i : Nat) (forced can pick : Bool),
    u = { s.ptkOf d with time := now, vf := vf } → i = u.tag (some unit) % 1024 →
    forced = decide (u.fld (F.PTK_TILE_QUOTA_DATA_COUNT.at i) < u.fld (F.PTK_TILE_QUOTA_DATA_QUOTA.at i)) →
    (can = true ↔ u.tile = none ∧ desc % 65536 ≠ 0 ∧ n ≤ 262112) →
    (pick = true ↔ can = true ∧ (forced = true ∨ (lfsrStep u.lfsr).toNat % 2 ^ u.fld F.PTK_TILE_CFG_SHIFT = 0)) →
    (u.flag F.PTK_TILE_CFG_EN = false ∨ u.armed = false → OnDie (.tileOffer d desc id unit n vf now) s d (fun p q o => q = u ∧ o = [.tileTake p.die false])) ∧
    (u.flag F.PTK_TILE_CFG_EN = true → u.armed = true → OnDie (.tileOffer d desc id unit n vf now) s d (fun p q o =>
      o = [.tileTake p.die pick] ∧ q = { u with regs := q.regs, lfsr := lfsrStep u.lfsr, tile := q.tile } ∧
      u.onlyFields [F.PTK_TILE_STATUS_TAKEN, F.PTK_TILE_STATUS_BUSY, F.PTK_TILE_STATUS_MISSED_QUOTA, F.PTK_TILE_QUOTA_DATA_COUNT.at i] q ∧
      (pick = true → q.fld F.PTK_TILE_STATUS_TAKEN = min 65535 (u.fld F.PTK_TILE_STATUS_TAKEN + 1) ∧ q.flag F.PTK_TILE_STATUS_BUSY = true ∧
        q.fld (F.PTK_TILE_QUOTA_DATA_COUNT.at i) = min 255 (u.fld (F.PTK_TILE_QUOTA_DATA_COUNT.at i) + 1) ∧
        q.tile = some { desc := desc, id := id, unit := unit, bytes := n, forced := forced, context := u.tag (some unit), offset := u.stamp,
                        quality := u.domainQuality u.params.tileDomain, epoch := u.epoch }) ∧
      (pick = false → q.tile = u.tile ∧
        q.fld F.PTK_TILE_STATUS_MISSED_QUOTA = (if forced then min 65535 (u.fld F.PTK_TILE_STATUS_MISSED_QUOTA + 1) else u.fld F.PTK_TILE_STATUS_MISSED_QUOTA))))) ∧
  (∀ (s : State) (d : Nat) (b : Bytes) (bad : Bool), (s.ptk d).tile = none → OnDie (.tileStreamEnd d b bad) s d (fun p q o => q = p ∧ o = [])) ∧
  (∀ (s : State) (d : Nat) (b : Bytes) (bad : Bool) (x : PTile), (s.ptk d).tile = some x → OnDie (.tileStreamEnd d b bad) s d (fun p q o => o = [] ∧
    q.tile = none ∧ q.flag F.PTK_TILE_STATUS_BUSY = false ∧
    (b.length ≠ x.bytes → q.fld F.PTK_TILE_STATUS_BAD_LEN = min 65535 (p.fld F.PTK_TILE_STATUS_BAD_LEN + 1) ∧ q.levels = p.levels) ∧
    (b.length = x.bytes → q.fld F.PTK_TILE_STATUS_BAD_LEN = p.fld F.PTK_TILE_STATUS_BAD_LEN) ∧
    (b.length = x.bytes → p.armed = true → bit (p.fld F.PTK_COD_CFG_TYPES) 8 = false → p.queued + 72 + b.length ≤ Potik.frameMemory →
      Potik.queues p q 4 0x08 (Potik.tileDescriptor x bad ++ b)))) ∧
  (∀ (s : State) (d v : Nat), v < 2 ^ 64 → OnDie (.tileSeedWrite d v) s d (fun p q o => o = [] ∧
    q.lfsr = (if v / 2 ^ 32 = 0 then 1 else BitVec.ofNat 32 (v / 2 ^ 32)) ∧ q.fld F.PTK_TILE_CFG_EN = v % 2 ∧ q.fld F.PTK_TILE_CFG_SHIFT = v / 2 % 32 ∧
    q.fld F.PTK_TILE_CFG_WINDOW = v / 2 ^ 16 % 2 ^ 16 ∧ q = { p with regs := q.regs, lfsr := q.lfsr } ∧
    p.onlyFields [F.PTK_TILE_CFG_EN, F.PTK_TILE_CFG_SHIFT, F.PTK_TILE_CFG_WINDOW] q)) ∧
  (∀ (s : State) (d lane round seq : Nat) (b : Bytes) (keep bad : Bool), (s.ptk d).params.csLanes ≤ lane →
    OnDie (.csChunkEnd d lane round seq b keep bad) s d (fun p q o => q = p ∧ o = [])) ∧
  (∀ (s : State) (d lane round seq : Nat) (b : Bytes) (keep bad : Bool), lane < (s.ptk d).params.csLanes →
    OnDie (.csChunkEnd d lane round seq b keep bad) s d (fun p q o => q.fld F.PTK_CSD_STATUS_CHUNKS = min 0xFFFFFFFF (p.fld F.PTK_CSD_STATUS_CHUNKS + 1) ∧
      (∃ x : Bytes, o = [.trailer p.die lane x] ∧ x.length = 32 ∧ bytesAt x 0 8 = (crc64 b).toNat ∧ bytesAt x 8 4 = p.addr % 2 ^ 32 ∧
        bytesAt x 12 4 = seq % 2 ^ 32 ∧ bytesAt x 16 2 = round % 2 ^ 16 ∧ bytesAt x 18 1 = b2n keep + 2 * b2n bad ∧
        bytesAt x 20 4 = b.length % 2 ^ 32 ∧ bytesAt x 28 4 = (crc32c (x.take 28)).toNat) ∧
      q.sent.get none' (Potik.chunkKey round seq) = some (crc64 b) ∧ q.lanes.get (fun _ => (0, 0)) lane = (round, seq) ∧
      p.onlyFields [F.PTK_CSD_STATUS_CHUNKS] q ∧ q = { p with regs := q.regs, sent := q.sent, lanes := q.lanes })) ∧
  (∀ (s : State) (d : Nat) (c : Instr), (∃ v vf now, c = .redigestRequest d v vf now) ∨ (∃ b now, c = .redigestAnswer d b now) ∨
      (∃ now, c = .redigestTimeout d now) → (s.ptk d).inReset = true → exec c s = .next { s with out := [], fresh := s.fresh + 1 }) ∧
  (∀ (s : State) (d v : Nat) (vf : Vf) (now : Int) (u : Potik) (x : PRedigest), (s.ptk d).inReset = false → u = { s.ptkOf d with time := now, vf := vf } →
    x = { round := v % 2 ^ 16, seq := v / 2 ^ 16 % 2 ^ 32, context := u.tag none } → Completes (.redigestRequest d v vf now) s (fun t =>
      t = { s with potiks := t.potiks, out := t.out, fresh := s.fresh + 1 } ∧ (∀ k, k ≠ d → t.ptk k = s.ptk k) ∧
      (u.armed = false → t.ptk d = u ∧ t.out = []) ∧
      (u.armed = true → u.redigests.length < 4 → t.ptk d = { u with redigests := u.redigests ++ [x] } ∧
        t.out = if u.redigests = [] then [.redigest u.die x.round x.seq] else []) ∧
      (u.armed = true → 4 ≤ u.redigests.length → u.queued + 64 ≤ Potik.frameMemory → (t.ptk d).redigests = u.redigests ∧ t.out = [] ∧
        Potik.queues u (t.ptk d) 2 0x07 (le 8 ((u.sent.get none' (Potik.chunkKey x.round x.seq)).getD (Config.freeValue s.fresh)).toNat ++ le 8 0 ++
          le 2 x.round ++ le 1 4 ++ zeros 1 ++ le 4 x.seq ++ le 2 x.context ++ zeros 6)))) ∧
  (∀ (s : State) (d : Nat) (now : Int) (c : Instr) (answer : Option (Option Bytes)), (s.ptk d).inReset = false →
    (c = .redigestTimeout d now ∧ answer = none ∨ ∃ b, c = .redigestAnswer d b now ∧ answer = some b) → Completes c s (fun t =>
      t = { s with potiks := t.potiks, out := t.out, fresh := s.fresh + 1 } ∧ (∀ k, k ≠ d → t.ptk k = s.ptk k) ∧
      ((s.ptk d).redigests = [] → t.ptk d = { s.ptkOf d with time := now } ∧ t.out = []) ∧
      (∀ x rest sent outcome, (s.ptk d).redigests = x :: rest →
        sent = ((s.ptk d).sent.get none' (Potik.chunkKey x.round x.seq)).getD (Config.freeValue s.fresh) →
        outcome = (match answer with | none => 3 | some none => 2 | some (some b) => if crc64 b = sent then 0 else 1) →
        (t.ptk d).redigests = rest ∧ t.out = (match rest with | y :: _ => [.redigest (s.ptkOf d).die y.round y.seq] | [] => []) ∧
        ((s.ptk d).armed = true → (s.ptk d).queued + 64 ≤ Potik.frameMemory → Potik.queues (s.ptkOf d) (t.ptk d) 2 0x07 (le 8 sent.toNat ++
          le 8 (match answer with | some (some b) => (crc64 b).toNat | _ => 0) ++ le 2 x.round ++ le 1 outcome ++ zeros 1 ++ le 4 x.seq ++
          le 2 x.context ++ zeros 6)))))

/-- TEST_WAIT_RISE, TEST_WAIT_FALL, TEST_DONE and TEST_NO_ANSWER: a package started in a wait, and how its test ends. -/
def Obligations.PotikTests : Prop :=
  (∀ (s : State) (d core : Nat) (vf : Vf) (now : Int) (u : Potik), u = { s.ptkOf d with time := now, vf := vf } →
    OnDie (.testWaitRise d core vf now) s d (fun p q o =>
      (p.params.testCores ≤ core → q = u ∧ o = []) ∧
      (core < p.params.testCores → q.waiting.get none' core = some now ∧
        (p.test ≠ none ∨ p.armed = false ∨ u.startable core = none → q = { u with waiting := q.waiting } ∧ o = []) ∧
        (∀ k, p.test = none → p.armed = true → u.startable core = some k → o = [.testRun p.die core k true] ∧
          q = { u with regs := q.regs, waiting := q.waiting, test := q.test } ∧
          q.test = some { core := core, slot := k, package := p.fld (F.PTK_TST_SLOT_DESC_PACKAGE.at k), start := now, context := u.tag (some core)
                          quality := u.domainQuality (u.unitDomain core), offset := u.stamp, epoch := u.epoch } ∧
          q.flag F.PTK_TST_STATUS_RUNNING = true ∧ q.fld F.PTK_TST_STATUS_CORE = core % 256 ∧ q.fld F.PTK_TST_STATUS_SLOT = k ∧
          p.onlyFields [F.PTK_TST_STATUS_RUNNING, F.PTK_TST_STATUS_CORE, F.PTK_TST_STATUS_SLOT] q)))) ∧
  (∀ (p : Potik) (core k : Nat), p.startable core = some k ↔ ∃ w, p.predictedWait core = some w ∧ k < 16 ∧ ∀ j ≤ k, (j = k ↔
    p.fld (F.PTK_TST_SLOT_DESC_PACKAGE.at j) ≠ 0 ∧ p.flag (Potik.dueField j core) = true ∧
    p.fld (F.PTK_TST_SLOT_DESC_LENGTH_NS.at j) + p.params.abortNs ≤ w ∧
    (p.flag (F.PTK_TST_SLOT_DESC_BAND_REQ.at j) = true → p.fld (F.PTK_TST_SLOT_DESC_BAND.at j) = p.band))) ∧
  (∀ (p : Potik) (core : Nat), p.predictedWait core = none ↔ (p.waits.get nil core).length < 16) ∧
  (∀ (s : State) (d core sig : Nat) (now : Int), OnDie (.testWaitFall d core sig now) s d (fun p q o =>
    q.waiting.get none' core = none ∧
    (∀ t0, p.waiting.get none' core = some t0 →
      q.waits.get nil core = (((now - t0) / nsUnit).toNat :: p.waits.get nil core).take 16) ∧
    (p.waiting.get none' core = none → q.waits = p.waits) ∧
    ((∀ x, p.test = some x → x.core ≠ core) → o = [] ∧ q = { p with time := now, waiting := q.waiting, waits := q.waits }) ∧
    (∀ x, p.test = some x → x.core = core → q.test = none ∧ o = [.testRun p.die core x.slot false] ∧
      q.fld F.PTK_TST_STATUS_ABORTS = min 65535 (p.fld F.PTK_TST_STATUS_ABORTS + 1) ∧ q.fld F.PTK_TST_STATUS_LAST_OUTCOME = 2 ∧
      (core < 256 → q.flag (Potik.dueField x.slot core) = p.flag (Potik.dueField x.slot core))))) ∧
  (∀ (s : State) (d sig n : Nat) (now : Int) (c : Instr), (c = .testDone d true sig now ∧ n = 0 ∨ c = .testDone d false sig now ∧ n = 1 ∨
      c = .testNoAnswer d sig now ∧ n = 3) →
    ((s.ptk d).test = none → OnDie c s d (fun p q o => q = { p with time := now } ∧ o = [])) ∧
    (∀ x, (s.ptk d).test = some x → OnDie c s d (fun p q o => q.test = none ∧ o = [.testRun p.die x.core x.slot false] ∧ q.time = now ∧
      q.flag F.PTK_TST_STATUS_RUNNING = false ∧ q.fld F.PTK_TST_STATUS_LAST_OUTCOME = n ∧
      q.fld F.PTK_TST_STATUS_ABORTS = p.fld F.PTK_TST_STATUS_ABORTS ∧ q.waits = p.waits ∧ q.waiting = p.waiting ∧
      (x.core < 256 → q.flag (Potik.dueField x.slot x.core) = (if n < 2 then false else p.flag (Potik.dueField x.slot x.core))) ∧
      (p.queued + 64 ≤ Potik.frameMemory → Potik.queues p q 2 0x09 (le 8 sig ++ le 4 x.package ++ zeros 4 ++ le 2 (x.core % 2048) ++ le 1 n ++
        le 1 (x.slot % 16) ++ le 4 (min 0xFFFFFFFF ((now - x.start) / nsUnit).toNat) ++ le 2 x.context ++ zeros 6)))))

/-- TRACE_BEAT, the trigger and ring rows, PTK_RECORD_ENQUEUE, PTK_FRAME_START, LIVE_FLUSH and PTK_SNAPSHOT: beats kept, records queued, frames sent. -/
def Obligations.PotikTraceAndShaper : Prop :=
  (∀ (s : State) (d src : Nat) (sync : Bool) (b : Bytes) (now : Int) (u : Potik) (x : PBeat), u = { s.ptkOf d with time := now } →
    x = { source := src, sync := sync, data := b, epoch := u.epoch, offset := u.stamp, quality := u.quality } →
    (u.trcMode = 0 ∨ u.trcMode = 2 ∧ u.flag F.PTK_TRC_CTRL_FROZEN = true → OnDie (.traceBeat d src sync b now) s d (fun _ q o => q = u ∧ o = [])) ∧
    (u.trcMode = 1 → OnDie (.traceBeat d src sync b now) s d (fun p q o => o = [] ∧ ∃ kept, q.live = kept ++ [x] ∧ (kept = p.live ∨ kept = []) ∧
      (kept = p.live → kept ≠ [] → q = { u with live := q.live }))) ∧
    (u.trcMode = 2 → u.flag F.PTK_TRC_CTRL_FROZEN = false → OnDie (.traceBeat d src sync b now) s d (fun p q o => o = [] ∧
      q.ring = (p.ring ++ [x]).drop ((p.ring ++ [x]).length - 2730) ∧ q.ring.length ≤ 2730 ∧
      (p.post = none → q = { u with ring := q.ring }) ∧
      (∀ n, p.post = some n → 1 < n → q = { u with ring := q.ring, post := some (n - 1) }) ∧
      (∀ n, p.post = some n → n ≤ 1 → q.post = none ∧ q.flag F.PTK_TRC_CTRL_FROZEN = true)))) ∧
  (∀ (s : State) (d : Nat), OnDie (.ptkTraceTrigger d) s d (fun p q o => o = [] ∧
    (p.trcMode = 1 → q = { p with hold := p.fld F.PTK_TRC_CTRL_TRIG_HOLD }) ∧
    (p.trcMode ≠ 1 → p.trcMode ≠ 2 → q = p) ∧
    (p.trcMode = 2 → p.flag F.PTK_TRC_CTRL_FROZEN = true → q = { p with trigIgnored := p.trigIgnored + 1 }) ∧
    (p.trcMode = 2 → p.flag F.PTK_TRC_CTRL_FROZEN = false → p.post ≠ none → q = p) ∧
    (p.trcMode = 2 → p.flag F.PTK_TRC_CTRL_FROZEN = false → p.post = none → p.fld F.PTK_TRC_CTRL_POST ≠ 0 →
      q = { p with post := some (p.fld F.PTK_TRC_CTRL_POST) }) ∧
    (p.trcMode = 2 → p.flag F.PTK_TRC_CTRL_FROZEN = false → p.post = none → p.fld F.PTK_TRC_CTRL_POST = 0 →
      q.flag F.PTK_TRC_CTRL_FROZEN = true ∧ q.ring = p.ring ∧ q.post = none))) ∧
  (∀ (s : State) (d : Nat), OnDie (.ptkRingSent d) s d (fun p q o => o = [] ∧
    (p.flag F.PTK_TRC_CTRL_FROZEN = false ∨ p.ringQueued = true → q = p) ∧
    (p.flag F.PTK_TRC_CTRL_FROZEN = true → p.ringQueued = false → q.flag F.PTK_TRC_CTRL_FROZEN = false ∧ p.onlyFields [F.PTK_TRC_CTRL_FROZEN] q ∧
      q = { p with regs := q.regs, ring := [], post := none }))) ∧
  (∀ (s : State) (d : Nat) (r : Rec), OnDie (.ptkRecordEnqueue d r) s d (fun p q o => o = [] ∧ (p.armed = false → q = p) ∧
    (p.armed = true → p.queued + r.size ≤ Potik.frameMemory → q.level (potikLevel r.type) = p.level (potikLevel r.type) ++ [{ r := r }] ∧
      (∀ l, l ≠ potikLevel r.type → q.level l = p.level l) ∧ q = { p with levels := q.levels }) ∧
    (p.armed = true → Potik.frameMemory < p.queued + r.size → 2 ≤ potikLevel r.type → q.levels = p.levels ∧
      q.fld F.PTK_SHP_STATUS_DROPPED = min 0xFFFFFFFF (p.fld F.PTK_SHP_STATUS_DROPPED + 1) ∧ p.onlyFields [F.PTK_SHP_STATUS_DROPPED] q))) ∧
  (∀ (s : State) (d dt df : Nat), df = (s.ptk d).deficit - (s.ptk d).fld F.PTK_SHP_CFG_RATE_MBPS * dt →
    ((s.ptk d).bucketDepth ≤ df ∨ (∀ l ∈ (s.ptk d).serviceOrder, (s.ptk d).level l = []) →
      OnDie (.ptkFrameStart d dt) s d (fun p q o => q = { p with deficit := df } ∧ o = [])) ∧
    (∀ l i rest, df < (s.ptk d).bucketDepth → (s.ptk d).serviceOrder.find? (fun l => !((s.ptk d).level l).isEmpty) = some l →
      (s.ptk d).level l = i :: rest →
      (i.frags = none → i.r.size + 16 ≤ (s.ptk d).frameMax → OnDie (.ptkFrameStart d dt) s d (fun p q o => ∃ n b, 1 ≤ n ∧ n ≤ rest.length + 1 ∧
        b = packedPayload (((i :: rest).take n).map (fun x => x.r)) ∧ b.length ≤ p.frameMax ∧ q.level l = (i :: rest).drop n ∧
        o = [.ptkFrame p.die (i.etherType.getD (p.fld F.PTK_REC_CFG_ETHERTYPE)) (i.dest.getD (p.fld F.PTK_REC_DMAC_DMAC)) b] ∧
        (∀ x ∈ (i :: rest).take n, x.etherType = i.etherType ∧ x.dest = i.dest ∧ x.frags = none) ∧
        q.deficit = df + (b.length + 18 + p.fld F.PTK_SHP_CFG_OVERHEAD) * 8000 ∧ (∀ k, k ≠ l → q.level k = p.level k) ∧
        q = { p with levels := q.levels, deficit := q.deficit })) ∧
      (∀ b bs, i.frags = some (b :: bs) → OnDie (.ptkFrameStart d dt) s d (fun p q o =>
        q.level l = (if bs = [] then rest else { i with frags := some bs } :: rest) ∧
        o = [.ptkFrame p.die (i.etherType.getD (p.fld F.PTK_REC_CFG_ETHERTYPE)) (i.dest.getD (p.fld F.PTK_REC_DMAC_DMAC)) b] ∧
        q.deficit = df + (b.length + 18 + p.fld F.PTK_SHP_CFG_OVERHEAD) * 8000 ∧ q = { p with levels := q.levels, deficit := q.deficit })))) ∧
  (∀ (s : State) (d : Nat), OnDie (.liveFlush (.potik d)) s d (fun p q o => o = [] ∧ q.live = [] ∧ (p.live = [] → q = p) ∧
    (p.live ≠ [] → p.armed = false → q.fld F.PTK_TRC_CTRL_LOST = min 65535 (p.fld F.PTK_TRC_CTRL_LOST + p.live.length) ∧ q.levels = p.levels) ∧
    (∀ x rest, p.live = x :: rest → p.armed = true → bit (p.fld F.PTK_COD_CFG_TYPES) 6 = false →
      p.queued + 56 + ((p.live.map (fun b => (PBeat.entry b).beat)).flatten).length ≤ Potik.frameMemory →
      Potik.queues p q 5 0x06 (le 1 1 ++ zeros 3 ++ le 4 p.live.length ++ le 4 x.offset ++ le 4 ((p.live.getLast?.map (fun b => b.offset)).getD 0) ++
        (p.live.map (fun b => (PBeat.entry b).beat)).flatten)))) ∧
  (∀ (s : State) (k : Nat), s.image.archives[k]? = none ∨ s.works 9 = false → exec (.liveFlush (.archive k)) s = .next { s with out := [] }) ∧
  (∀ (s : State) (d ns tb : Nat) (s0 : Int) (bs ws held : List Nat), OnDie (.ptkSnapshot d s0 bs ws ns tb held) s d (fun p q o => o = [] ∧
    (p.armed = false ∨ p.flag F.PTK_SNAP_CTRL_REQ = false ∨ p.epoch < p.fld F.PTK_SNAP_CTRL_EPOCH → q = { p with time := s0 }) ∧
    (p.armed = true → p.flag F.PTK_SNAP_CTRL_REQ = true → p.fld F.PTK_SNAP_CTRL_EPOCH ≤ p.epoch → q.flag F.PTK_SNAP_CTRL_REQ = false ∧
      (p.fld F.PTK_SNAP_CTRL_EPOCH < p.epoch → q.flag F.PTK_SNAP_CTRL_MISSED = true) ∧
      (p.fld F.PTK_SNAP_CTRL_EPOCH = p.epoch → q.flag F.PTK_SNAP_CTRL_MISSED = p.flag F.PTK_SNAP_CTRL_MISSED) ∧
      ∃ i : PItem, i.raised = true ∧ i.r.type = 0x06 ∧ i.r.src = p.addr ∧ i.r.epoch = p.epoch ∧
        (p.queued + i.r.size ≤ Potik.frameMemory → q.level 6 = p.level 6 ++ [i]) ∧
        (Potik.frameMemory < p.queued + i.r.size → q.levels = p.levels))))

/-- TILE_DISPATCH, TILE_COMPLETE, RESIDUE_MISMATCH, DISPUTE_RERUN_DONE and WEIGHT_RELOAD: tiles given, finished, disputed and decided. -/
def Obligations.TilesAndDisputes : Prop :=
  (∀ (s : State) (home : Nat) (tile : Tile), s.works 14 = false → exec (.tileDispatch home tile) s = .next { s with out := [] }) ∧
  (∀ (s : State) (home : Nat) (tile : Tile), s.works 14 = true → s.poolFrom home = none →
    exec (.tileDispatch home tile) s = .next { s with out := [.tileMissing tile.id] }) ∧
  (∀ (s : State) (home c : Nat) (tile : Tile), s.works 14 = true → s.poolFrom home = some c → s.consumesCanary tile = false →
    Completes (.tileDispatch home tile) s (fun t => t.core c = { s.core c with jobs := (s.core c).jobs ++ [{ tile := tile, why := .main }] } ∧
      (∀ k, k ≠ c → t.core k = s.core k) ∧ t.tdsp.idle = s.tdsp.idle.filter (fun x => x != c) ∧ t.flag (F.Tnn_TILE_BUSY.at c) = true ∧
      ((s.core c).jobs = [] → t.fld (F.Tnn_TILE_LAYER.at c) = tile.layer % 64 ∧ t.flag (F.Tnn_TILE_CANARY.at c) = false ∧
        t.flag (F.Tnn_TILE_RERUN.at c) = false ∧ t.flag (F.Tnn_TILE_REPLAY.at c) = false) ∧
      s.onlyFields [F.Tnn_TILE_BUSY.at c, F.Tnn_TILE_LAYER.at c, F.Tnn_TILE_CANARY.at c, F.Tnn_TILE_RERUN.at c, F.Tnn_TILE_REPLAY.at c] t ∧
      t = { s with regs := t.regs, tdsp := { s.tdsp with cores := t.tdsp.cores, idle := t.tdsp.idle }, out := [] })) ∧
  (∀ (s : State) (home c d : Nat) (tile : Tile), s.works 14 = true → s.poolFrom home = some c → s.consumesCanary tile = true →
    s.poolFrom (c + 1) = some d → d ≠ c → Completes (.tileDispatch home tile) s (fun t =>
      (t.core c).jobs = (s.core c).jobs ++ [{ tile := tile, why := .main }] ∧
      (t.core d).jobs = (s.core d).jobs ++ [{ tile := { tile with b := s.canaryB tile }, why := .canary }] ∧
      (∀ k, k ≠ c → k ≠ d → t.core k = s.core k) ∧
      t.tdsp.pairs = s.tdsp.pairs.filter (fun x => x.id != tile.id) ++ [{ id := tile.id, layer := tile.layer }] ∧
      t = { s with regs := t.regs, out := []
                   tdsp := { s.tdsp with cores := t.tdsp.cores, idle := t.tdsp.idle, pairs := t.tdsp.pairs } })) ∧
  (∀ (s : State) (c : Nat) (w : Option (List (List Nat))), (s.core c).jobs = [] ∨ s.works (16 + c) = false ∨ s.flag F.MGT_PWR_STATUS_FAST_HOLD = true ∨
      (∃ j x, (s.core c).jobs.head? = some j ∧ j.why = .rerun x) →
    exec (.tileComplete c w) s = .next { s with out := [] }) ∧
  (∀ (s : State) (c : Nat) (w : Option (List (List Nat))) (j : CoreJob) (rest : List CoreJob) (p : Profile) (o : TileOut), c < 84 →
    (s.core c).jobs = j :: rest → s.works (16 + c) = true → s.flag F.MGT_PWR_STATUS_FAST_HOLD = false → s.inPool c = true →
    p = s.ownProfile j.tile → (s.injectArmed (16 + c) 4 && p.checked) = false → o = tileConvert p s.escCfg j.tile (s.jobSums j w).1 (s.jobSums j w).2 →
    j.why = .main ∨ j.why = .canary → Completes (.tileComplete c w) s (fun t =>
      (t.core c).jobs = rest ∧ (∀ k, k ≠ c → t.core k = s.core k) ∧ t.fld (F.Tnn_TILE_TILES.at c) = (s.fld (F.Tnn_TILE_TILES.at c) + 1) % 2 ^ 32 ∧
      t.flag (F.Tnn_TILE_BUSY.at c) = !rest.isEmpty ∧
      t.fld (F.Tnn_CENSUS0_SAT_ACC.at c) = min 65535 (s.fld (F.Tnn_CENSUS0_SAT_ACC.at c) + o.satAcc) ∧
      t.fld (F.Tnn_CENSUS0_SAT_OUT.at c) = min 65535 (s.fld (F.Tnn_CENSUS0_SAT_OUT.at c) + o.satOut) ∧
      t.fld (F.Tnn_CENSUS0_SPREAD.at c) = min 65535 (s.fld (F.Tnn_CENSUS0_SPREAD.at c) + o.spread) ∧
      t.fld (F.Tnn_CENSUS0_NONFINITE.at c) = min 65535 (s.fld (F.Tnn_CENSUS0_NONFINITE.at c) + o.nonfinite) ∧
      t.fld (F.Tnn_CENSUS1_ESC_BLOCKS.at c) = min (2 ^ 32 - 1) (s.fld (F.Tnn_CENSUS1_ESC_BLOCKS.at c) + o.esc) ∧
      t.fld (F.Tnn_CENSUS1_POISON_OUT.at c) = min 65535 (s.fld (F.Tnn_CENSUS1_POISON_OUT.at c) + o.poisonOut) ∧
      t.fld (F.Tnn_CENSUS2_FORMAT_ERR.at c) = min 65535 (s.fld (F.Tnn_CENSUS2_FORMAT_ERR.at c) + o.formatErr) ∧
      (j.why = .main → t.out.getLast? = some (.tileOut j.tile.id o.flags o.out o.poison)) ∧
      (j.why = .main → j.tile.out = 4 → (t.core c).lfsr = lfsrStep (s.core c).lfsr ∧
        t.tdsp.canaryBuf.get none' j.tile.id = (if getBits s.tdsp.cfg 16 5 ≠ 31 ∧ (t.core c).lfsr.toNat % 2 ^ getBits s.tdsp.cfg 16 5 = 0
          then some (o.sums.map (fun r => (convertRow p s.escCfg false 2 r).map (fun e => e.1))) else none)) ∧
      (j.why = .canary ∨ j.tile.out ≠ 4 → (t.core c).lfsr = (s.core c).lfsr ∧ t.tdsp.canaryBuf = s.tdsp.canaryBuf) ∧
      ((∀ x ∈ s.tdsp.pairs, x.id ≠ j.tile.id) → t.tdsp.pairs = s.tdsp.pairs ∧ t.tdsp.canarySum = s.tdsp.canarySum) ∧
      ({ s with tdsp := { s.tdsp with cores := t.tdsp.cores, idle := t.tdsp.idle, pairs := t.tdsp.pairs
                                      canarySum := t.tdsp.canarySum, canaryBuf := t.tdsp.canaryBuf } } : State).onlyMessagesAnd
        [F.Tnn_TILE_TILES.at c, F.Tnn_TILE_BUSY.at c, F.Tnn_TILE_LAYER.at c, F.Tnn_TILE_CANARY.at c, F.Tnn_TILE_RERUN.at c, F.Tnn_TILE_REPLAY.at c,
         .whole (F.Tnn_CENSUS0_SAT_ACC.at c).addr, F.Tnn_CENSUS1_ESC_BLOCKS.at c, F.Tnn_CENSUS1_POISON_OUT.at c, F.Tnn_CENSUS2_FORMAT_ERR.at c] t)) ∧
  (∀ (s : State) (x loc : Nat) (rx : Option (List (List Nat))), (s.core x).jobs = [] ∨ s.works (16 + x) = false ∨
      (∃ j z, (s.core x).jobs.head? = some j ∧ j.why = .rerun z) →
    exec (.residueMismatch x loc rx) s = .next { s with out := [] }) ∧
  (∀ (s : State) (x loc : Nat) (rx : Option (List (List Nat))) (j : CoreJob) (rest : List CoreJob), x < 84 → (s.core x).jobs = j :: rest →
    s.works (16 + x) = true → (∀ z, j.why ≠ .rerun z) →
    (∀ y, s.poolAfter x = some y → s.tdsp.disputes.length < 4 → Completes (.residueMismatch x loc rx) s (fun t =>
      t.tdsp.disputes = s.tdsp.disputes ++ [{ x := x, job := j, rx := (s.jobSums j rx).1, y := y }] ∧
      t.flag (F.Tnn_TILE_HELD.at x) = true ∧ t.inPool x = false ∧ t.works (16 + x) = true ∧ (t.core x).jobs = [] ∧
      t.fld (F.Tnn_CENSUS1_RES_ERR.at x) = min 65535 (s.fld (F.Tnn_CENSUS1_RES_ERR.at x) + 1) ∧
      (t.core y).jobs.getLast? = some { tile := j.tile, why := .rerun x } ∧ (rest = [] → ∀ k, k ≠ x → k ≠ y → t.core k = s.core k) ∧
      t.fld F.STW_TDSP_DISPUTE_CORE = 16 + x ∧ t.fld F.STW_TDSP_DISPUTE_RERUN_CORE = 16 + y ∧
      t.fld F.STW_TDSP_DISPUTE_OPEN = s.tdsp.disputes.length + 1 ∧
      t.fld F.STW_TDSP_DISPUTE_OUTCOME = s.fld F.STW_TDSP_DISPUTE_OUTCOME ∧ t.fld F.STW_TDSP_DISPUTE_COUNT = s.fld F.STW_TDSP_DISPUTE_COUNT ∧
      (s.disabled (16 + x) = false → t.flag (F.ERR_FIRST_VALID.at (16 + x)) = true ∧
        (s.flag (F.ERR_FIRST_VALID.at (16 + x)) = false → t.fld (F.ERR_FIRST_DETECTOR.at (16 + x)) = 0x10 ∧
          t.fld (F.ERR_FIRST_LOCATION.at (16 + x)) = loc % 2 ^ 40)) ∧
      t = { s with regs := t.regs, mgt := { s.mgt with msiWait := t.mgt.msiWait }, exp := t.exp, trc := t.trc
                   stw := { s.stw with ctrl := t.stw.ctrl, nextTag := t.stw.nextTag }, out := t.out
                   tdsp := { s.tdsp with cores := t.tdsp.cores, idle := t.tdsp.idle, disputes := t.tdsp.disputes } })) ∧
    (s.poolAfter x = none ∨ 4 ≤ s.tdsp.disputes.length → Completes (.residueMismatch x loc rx) s (fun t =>
      t.istate (16 + x) = 1 ∧ t.flag (F.Tnn_TILE_HELD.at x) = false ∧ (t.core x).jobs = [] ∧ t.tdsp.disputes.length ≤ s.tdsp.disputes.length ∧
      t.fld (F.Tnn_CENSUS1_RES_ERR.at x) = min 65535 (s.fld (F.Tnn_CENSUS1_RES_ERR.at x) + 1) ∧
      t.fld F.STW_TDSP_DISPUTE_OUTCOME = 3 ∧ t.fld F.STW_TDSP_DISPUTE_CORE = 16 + x ∧
      (s.poolAfter x = none → t.fld F.STW_TDSP_DISPUTE_RERUN_CORE = 0x7F) ∧
      t.fld F.STW_TDSP_DISPUTE_COUNT = min 65535 (s.fld F.STW_TDSP_DISPUTE_COUNT + 1) ∧
      t.fld F.STW_TDSP_DISPUTE_UNRESOLVED = min 65535 (s.fld F.STW_TDSP_DISPUTE_UNRESOLVED + 1) ∧
      (s.disabled (16 + x) = false → t.flag (F.ERR_FIRST_WINTER.at (16 + x)) = true) ∧
      (j.why = .main → Emit.tileOut j.tile.id (j.tile.flags ||| 2 ^ tfPoison) (j.tile.a.map (fun _ => []))
        (j.tile.a.map (fun _ => j.tile.b.map (fun _ => true))) ∈ t.out) ∧
      t = { s with regs := t.regs, mgt := { s.mgt with msiWait := t.mgt.msiWait }, exp := t.exp, trc := t.trc
                   stw := { s.stw with ctrl := t.stw.ctrl, nextTag := t.stw.nextTag }, out := t.out, tdsp := t.tdsp }))) ∧
  (∀ (s : State) (x loc : Nat) (clean agrees : Bool) (ry : Option (List (List Nat))),
    s.tdsp.disputes.find? (fun d => d.x == x && !d.arb) = none ∨ s.flag F.MGT_PWR_STATUS_FAST_HOLD = true →
    exec (.disputeRerunDone x clean ry agrees loc) s = .next { s with out := [] }) ∧
  (∀ (s : State) (x loc : Nat) (clean agrees same : Bool) (ry : Option (List (List Nat))) (d : Dispute), x < 84 →
    s.tdsp.disputes.find? (fun d => d.x == x && !d.arb) = some d → s.flag F.MGT_PWR_STATUS_FAST_HOLD = false →
    same = decide ((s.jobSums d.job ry).1 = d.rx) →
    (clean = true → same = true ∨ agrees = true → Completes (.disputeRerunDone x clean ry agrees loc) s (fun t =>
      d ∉ t.tdsp.disputes ∧
      (d.job.why = .main ∨ d.job.why = .canary →
        t = { s with regs := t.regs, mgt := { s.mgt with msiWait := t.mgt.msiWait }, exp := t.exp, trc := t.trc
                     stw := { s.stw with ctrl := t.stw.ctrl, nextTag := t.stw.nextTag }, out := t.out, tdsp := t.tdsp }) ∧
      t.fld F.STW_TDSP_DISPUTE_OUTCOME = (if same = true then 0 else 1) ∧ t.fld F.STW_TDSP_DISPUTE_CORE = 16 + x ∧
      t.fld F.STW_TDSP_DISPUTE_COUNT = min 65535 (s.fld F.STW_TDSP_DISPUTE_COUNT + 1) ∧
      t.fld F.STW_TDSP_DISPUTE_UNRESOLVED = s.fld F.STW_TDSP_DISPUTE_UNRESOLVED ∧
      t.istate (16 + x) = (if s.works (16 + x) then 1 else s.istate (16 + x)) ∧ t.flag (F.Tnn_TILE_HELD.at x) = false ∧
      (∀ o, o = tileConvert (s.ownProfile d.job.tile) s.escCfg d.job.tile (s.jobSums d.job ry).1 {} → d.job.why = .main →
        Emit.tileOut d.job.tile.id o.flags o.out o.poison ∈ t.out))) ∧
    (clean = false ∨ same = false ∧ agrees = false → s.tdsp.arbQ.length < 16 → Completes (.disputeRerunDone x clean ry agrees loc) s (fun t =>
      (d.job.why = .main ∨ d.job.why = .canary →
        t = { s with regs := t.regs, mgt := { s.mgt with msiWait := t.mgt.msiWait }, exp := t.exp, trc := t.trc
                     stw := { s.stw with ctrl := t.stw.ctrl, nextTag := t.stw.nextTag }, out := t.out, tdsp := t.tdsp }) ∧
      (∃ e ∈ t.tdsp.disputes, e.x = x ∧ e.arb = true ∧ e.job = d.job ∧ e.rx = d.rx ∧ e.ry = some (s.jobSums d.job ry).1) ∧
      (∃ a ∈ t.tdsp.arbQ, a.kind = 0 ∧ a.ref = x) ∧ t.fld F.ARB_STATUS_QUEUED = s.tdsp.arbQ.length + 1 ∧
      t.tdsp.disputes.length = s.tdsp.disputes.length ∧ t.fld F.STW_TDSP_DISPUTE_COUNT = s.fld F.STW_TDSP_DISPUTE_COUNT ∧
      t.istate (16 + x) = s.istate (16 + x))) ∧
    (clean = true → same = false → agrees = false → 16 ≤ s.tdsp.arbQ.length → Completes (.disputeRerunDone x clean ry agrees loc) s (fun t =>
      t.fld F.STW_TDSP_DISPUTE_OUTCOME = 3 ∧ t.tdsp.arbQ = s.tdsp.arbQ ∧
      t.fld F.STW_TDSP_DISPUTE_UNRESOLVED = min 65535 (s.fld F.STW_TDSP_DISPUTE_UNRESOLVED + 1) ∧
      t.istate (16 + x) = (if s.works (16 + x) then 1 else s.istate (16 + x))))) ∧
  (∀ (s : State) (c : Nat), (c < 84 → s.works (16 + c) = true → Completes (.weightReload c) s (fun t =>
      t.fld (F.Tnn_CENSUS2_WEIGHT_RELOAD.at c) = min 65535 (s.fld (F.Tnn_CENSUS2_WEIGHT_RELOAD.at c) + 1) ∧
      s.onlyFields [F.Tnn_CENSUS2_WEIGHT_RELOAD.at c] t ∧ t = { s with regs := t.regs, out := [] })) ∧
    (84 ≤ c ∨ s.works (16 + c) = false → exec (.weightReload c) s = .next { s with out := [] }))

/-- MODEL_RUN_START, MODEL_RUN_END and MODEL_DEADLINE: a run takes the next waiting epoch, stores keys and values, hands on outputs, or is cut off. -/
def Obligations.ModelRuns : Prop :=
  (∀ (s : State) (m : Nat), (s.seq m).running ≠ none ∨ (s.seq m).waiting = [] ∨ s.works 14 = false →
    exec (.modelRunStart m) s = .next { s with out := [] }) ∧
  (∀ (s : State) (m e : Nat) (rest : List Nat), (s.seq m).running = none → (s.seq m).waiting = e :: rest → s.works 14 = true →
    Completes (.modelRunStart m) s (fun t => t.seq m = { s.seq m with running := some e, waiting := rest } ∧ (∀ k, k ≠ m → t.seq k = s.seq k) ∧
      t.flag (F.STW_MDL_STATUS_RUNNING.at m) = true ∧ t.fld (F.STW_MDL_STATUS_WAITING.at m) = min 2 rest.length ∧
      t.fld (F.STW_MDL_STATUS_RUN_EPOCH.at m) = e % 2 ^ 48 ∧
      t.out = (match s.model m e with | some c => [.tokens m e (s.tokensOf c e)] | none => []) ∧
      s.onlyFields [F.STW_MDL_STATUS_RUNNING.at m, F.STW_MDL_STATUS_WAITING.at m, F.STW_MDL_STATUS_RUN_EPOCH.at m] t ∧
      t = { s with regs := t.regs, seqs := t.seqs, out := t.out })) ∧
  (∀ (s : State) (m : Nat) (outs : List ModelOut) (kv : List KvEntry), (s.seq m).running = none ∨ s.works 14 = false →
    exec (.modelRunEnd m outs kv) s = .next { s with out := [] }) ∧
  (∀ (s : State) (m e n : Nat) (outs : List ModelOut) (kv : List KvEntry) (c : ModelCfg) (r : Region) (us : List Nat),
    (s.seq m).running = some e → s.works 14 = true → s.model m e = some c → s.windowRegion m = some r → 0 < c.window → e < 2 ^ 48 →
    us = s.windowSubjects (s.imageFor e) c.cls → n = us.length → us.Nodup → Completes (.modelRunEnd m outs kv) s (fun t =>
      t.seq m = (match (s.seq m).waiting with
        | [] => { s.seq m with running := none }
        | e2 :: rest => { s.seq m with running := some e2, waiting := rest }) ∧
      t.flag (F.STW_MDL_STATUS_RUNNING.at m) = !(s.seq m).waiting.isEmpty ∧
      (s.poisonedEntries r c n = [] → t.fld (F.STW_MDL_CNT_KV_POISON.at m) = s.fld (F.STW_MDL_CNT_KV_POISON.at m) ∧
        t.fld (F.STW_MDL_CNT_WITHHELD.at m) = min 65535 (s.fld (F.STW_MDL_CNT_WITHHELD.at m) +
          ((List.range n).filter (fun u => (s.rowsOf c.cls e).any (fun x => x.subject == us.getD u 0) &&
            decide ((s.pastSlots r c n e u).length < s.minPast m e c.window))).length)) ∧
      (s.works 5 = false → t.slotHeader r c n (e % c.window) = (e, true, (t.slotHeader r c n (e % c.window)).2.2) ∧
        (∀ u < n, present (t.slotHeader r c n (e % c.window)) u = (s.rowsOf c.cls e).any (fun x => x.subject == us.getD u 0)) ∧
        t.fea = s.fea ∧
        (∀ k u, kv = [k] → k.layer < c.layers → us.findIdx? (fun a => a == k.subject) = some u →
          (s.rowsOf c.cls e).any (fun x => x.subject == k.subject) = true → ∀ i < c.h,
            t.storeByte (entryPlace r c n k.layer u (e % c.window) + i) = BitVec.ofNat 8 (storeKv (c.kvScale.getD k.layer 127) (k.key.getD i 0)).1 ∧
            t.storeByte (entryPlace r c n k.layer u (e % c.window) + c.h + i) = BitVec.ofNat 8 (storeKv (c.kvScale.getD k.layer 127) (k.value.getD i 0)).1)) ∧
      (s.works 5 = true → kv = [] → s.minPast m e c.window = 0 → (∀ x ∈ s.rowsOf c.cls e, x.subject ∈ us) →
        (s.program c.cls e).any (fun d => d.kind == 11) = true →
        (∃ x ∈ s.rowsOf c.cls e, bit x.passes 2 = false ∧ x.outs = none ∧ ∀ o ∈ outs, o.subject ≠ x.subject) →
        t.fea = { s.fea with rows := s.fea.rows.map (fun x =>
          if x.cls = c.cls ∧ x.epoch = e ∧ bit x.passes 2 = false then (match outs.find? (fun o => o.subject == x.subject) with
            | some o => { x with outs := some (if o.poison then [] else o.vals), outSat := o.sat }
            | none => x) else x) }) ∧
      t.tdsp = s.tdsp ∧ t.tst = s.tst ∧ t.vrd = s.vrd ∧ t.img = s.img ∧ t.tim = s.tim ∧ t.potiks = s.potiks ∧ t.aln = s.aln)) ∧
  (∀ (s : State) (m e : Nat) (outs : List ModelOut) (kv : List KvEntry), (s.seq m).running = some e → s.works 14 = true → (s.seq m).waiting = [] →
    s.model m e = none ∨ s.windowRegion m = none → Completes (.modelRunEnd m outs kv) s (fun t =>
      t.seq m = { s.seq m with running := none } ∧ t.flag (F.STW_MDL_STATUS_RUNNING.at m) = false ∧
      s.onlyFields [F.STW_MDL_STATUS_RUNNING.at m, F.STW_MDL_STATUS_WAITING.at m] t ∧ t = { s with regs := t.regs, seqs := t.seqs, out := [] })) ∧
  (∀ (s : State) (cls e : Nat), (∀ m, s.modelOf cls e = some m → (s.seq m).running ≠ some e ∧ e ∉ (s.seq m).waiting) →
    (s.program cls e).all (fun d => d.kind != 11) = true ∨ s.works 5 = false → exec (.modelDeadline cls e) s = .next { s with out := [] }) ∧
  (∀ (s : State) (cls e m : Nat), s.modelOf cls e = some m → (s.program cls e).all (fun d => d.kind != 11) = true ∨ s.works 5 = false →
    (e ∈ (s.seq m).waiting → (s.seq m).running ≠ some e → Completes (.modelDeadline cls e) s (fun t =>
      t.seq m = { s.seq m with waiting := (s.seq m).waiting.filter (fun x => x != e) } ∧ e ∉ (t.seq m).waiting ∧
      t.fld (F.STW_MDL_CNT_ABANDONED.at m) = min 65535 (s.fld (F.STW_MDL_CNT_ABANDONED.at m) + 1) ∧
      ({ s with seqs := t.seqs } : State).onlyMessagesAnd [F.STW_MDL_STATUS_RUNNING.at m, F.STW_MDL_STATUS_WAITING.at m,
        F.STW_MDL_STATUS_RUN_EPOCH.at m, F.STW_MDL_CNT_ABANDONED.at m] t)) ∧
    ((s.seq m).running = some e → (s.seq m).waiting = [] → Completes (.modelDeadline cls e) s (fun t =>
      t.seq m = { s.seq m with running := none } ∧ t.flag (F.STW_MDL_STATUS_RUNNING.at m) = false ∧
      t.fld (F.STW_MDL_CNT_ABANDONED.at m) = min 65535 (s.fld (F.STW_MDL_CNT_ABANDONED.at m) + 1) ∧
      (∀ k < 84, ∀ j ∈ (t.core k).jobs, j.tile.run ≠ some (m, e)) ∧ (∀ d ∈ t.tdsp.disputes, d.job.tile.run ≠ some (m, e)) ∧
      (∀ r c n, s.model m e = some c → s.windowRegion m = some r → n = (s.windowSubjects (s.imageFor e) c.cls).length → e < 2 ^ 48 →
        (t.slotHeader r c n (e % c.window)).1 = e ∧ (t.slotHeader r c n (e % c.window)).2.1 = false ∧
        (∀ u < n, present (t.slotHeader r c n (e % c.window)) u = false)) ∧
      t.fea = s.fea ∧ t.img = s.img ∧ t.potiks = s.potiks ∧ t.vrd = s.vrd ∧ t.tim = s.tim))) ∧
  (∀ (s : State) (cls e : Nat), s.modelOf cls e = none → s.works 5 = true → (s.program cls e).any (fun d => d.kind == 11) = true →
    (s.rowsOf cls e).head?.any (fun r => decide (r.passes = 3)) = false → Completes (.modelDeadline cls e) s (fun t =>
      t.fld F.FEA_CNT_MODEL_LATE = min (2 ^ F.FEA_CNT_MODEL_LATE.w - 1) (s.fld F.FEA_CNT_MODEL_LATE +
        ((s.rowsOf cls e).filter (fun r => r.passes == 3 && r.outs.isNone)).length) ∧
      s.onlyFields [F.FEA_CNT_MODEL_LATE] t ∧ t = { s with regs := t.regs, out := [] })) ∧
  (∀ (s : State) (cls e : Nat) (x : AEpoch) (r : FRow) (rest : List FRow), s.modelOf cls e = none → s.works 5 = true →
    (s.program cls e).any (fun d => d.kind == 11) = true → s.closedInputs (levelOfClass cls) e = some x → s.rowsOf cls e = r :: rest → r.passes = 3 →
    x.epoch = e → Completes (.modelDeadline cls e) s (fun t => (∀ y ∈ t.rowsOf cls e, bit y.passes 2 = true) ∧ t.tdsp = s.tdsp ∧ t.seqs = s.seqs))

/-- REPLAY_ENQUEUE, REPLAY_DISPATCH and the ARB rows: the replay queue, sub-tiles on idle cores, jobs started, decided, timed out or put back. -/
def Obligations.ReplaysAndArbiter : Prop :=
  (∀ (s : State) (r : Rec), s.works 14 = false → exec (.replayEnqueue r) s = .next { s with out := [] }) ∧
  (∀ (s : State) (r : Rec) (c : Captured) (limit : Nat), s.works 14 = true → c = Captured.ofRec r → limit = min 256 (max 1 (s.fld F.STW_REPLAY_CFG_REPLAY_Q)) →
    (tilePoison r = true → Completes (.replayEnqueue r) s (fun t => s.onlyFields [F.STW_REPLAY_CNT_POISONED] t ∧ t = { s with regs := t.regs, out := [] } ∧
      t.fld F.STW_REPLAY_CNT_POISONED = min 65535 (s.fld F.STW_REPLAY_CNT_POISONED + 1))) ∧
    (tilePoison r = false → s.tdsp.replayQ.length < limit →
      exec (.replayEnqueue r) s = .next { s with tdsp := { s.tdsp with replayQ := s.tdsp.replayQ ++ [c] }, out := [] }) ∧
    (tilePoison r = false → limit ≤ s.tdsp.replayQ.length → Completes (.replayEnqueue r) s (fun t =>
      t.fld F.STW_REPLAY_CNT_DROPPED = min 65535 (s.fld F.STW_REPLAY_CNT_DROPPED + 1) ∧ s.onlyFields [F.STW_REPLAY_CNT_DROPPED] t ∧
      t = { s with regs := t.regs, tdsp := { s.tdsp with replayQ := t.tdsp.replayQ }, out := [] } ∧
      (c.forced = false ∨ (∀ x ∈ s.tdsp.replayQ, x.forced = true) → t.tdsp.replayQ = s.tdsp.replayQ) ∧
      (∀ a b x, c.forced = true → s.tdsp.replayQ = a ++ x :: b → x.forced = false → (∀ z ∈ b, z.forced = true) →
        t.tdsp.replayQ = a ++ b ++ [c])))) ∧
  (∀ s : State, s.tdsp.replayQ = [] ∨ s.works 14 = false ∨ s.flag F.MGT_PWR_STATUS_FAST_HOLD = true → exec .replayDispatch s = .next { s with out := [] }) ∧
  (∀ (s : State) (c : Captured) (rest : List Captured), s.tdsp.replayQ = c :: rest → s.works 14 = true → s.flag F.MGT_PWR_STATUS_FAST_HOLD = false →
    ((∀ p, s.profileOf c.profile = some p → p.fmtA ≠ c.fmtA ∨ p.fmtB ≠ c.fmtB ∨ p.fmtC ≠ c.fmtC) → Completes .replayDispatch s (fun t =>
      t.fld F.STW_REPLAY_CNT_BAD_PROFILE = min 65535 (s.fld F.STW_REPLAY_CNT_BAD_PROFILE + 1) ∧
      t.fld F.ARB_CNT_NO_RESULT = min 65535 (s.fld F.ARB_CNT_NO_RESULT + 1) ∧ s.onlyFields [F.STW_REPLAY_CNT_BAD_PROFILE, F.ARB_CNT_NO_RESULT] t ∧
      t = { s with regs := t.regs, tdsp := { s.tdsp with replayQ := rest }, out := [] })) ∧
    (∀ p per, s.profileOf c.profile = some p → p.fmtA = c.fmtA → p.fmtB = c.fmtB → p.fmtC = c.fmtC → per = (if p.paired then 2 else 1) →
      (s.idlePool.length < per * (cuts c.m c.n).length → exec .replayDispatch s = .next { s with out := [] }) ∧
      (per * (cuts c.m c.n).length ≤ s.idlePool.length → s.tdsp.idle.Nodup → Completes .replayDispatch s (fun t =>
        t.tdsp.replayQ = rest ∧ t.tdsp.nextReplay = s.tdsp.nextReplay + 1 ∧
        (∃ y, t.tdsp.replays = s.tdsp.replays ++ [y] ∧ y.no = s.tdsp.nextReplay ∧ y.src = c ∧ y.subs.length = (cuts c.m c.n).length ∧
          ∀ x ∈ y.subs, x.paired = p.paired ∧ x.first = none ∧ x.second = none ∧ x.done = none ∧ (x.row, x.col) ∈ cuts c.m c.n) ∧
        (∀ i < (cuts c.m c.n).length, ∀ k < per, (t.core (s.idlePool.getD (per * i + k) 0)).jobs =
          [{ tile := (c.tile p).1.sub ((cuts c.m c.n).getD i (0, 0)).1 ((cuts c.m c.n).getD i (0, 0)).2
             why := .replay s.tdsp.nextReplay i (k == 1) }]) ∧
        (∀ k, k ∉ s.idlePool.take (per * (cuts c.m c.n).length) → t.core k = s.core k) ∧
        (∀ g : Fld, ledger g.addr = false → (∀ c < 84, g.addr ≠ (F.Tnn_TILE_BUSY.at c).addr) → t.fld g = s.fld g) ∧
        t = { s with regs := t.regs, mgt := { s.mgt with msiWait := t.mgt.msiWait }, out := t.out
                     tdsp := { s.tdsp with cores := t.tdsp.cores, idle := t.tdsp.idle, replayQ := rest, replays := t.tdsp.replays
                                           nextReplay := t.tdsp.nextReplay } })))) ∧
  (∀ s : State, s.works 11 = false ∨ s.tdsp.arb ≠ none ∨ s.flag F.MGT_PWR_STATUS_FAST_HOLD = true ∨ s.tdsp.arbQ = [] →
    exec .arbJobStart s = .next { s with out := [] }) ∧
  (∀ (s : State) (j : ArbJob) (rest : List ArbJob), s.works 11 = true → s.tdsp.arb = none → s.flag F.MGT_PWR_STATUS_FAST_HOLD = false →
    s.tdsp.arbQ = j :: rest → Completes .arbJobStart s (fun t => t.tdsp = { s.tdsp with arb := some j, arbQ := rest } ∧
      t.fld F.ARB_STATUS_QUEUED = rest.length % 32 ∧ t.flag F.ARB_STATUS_BUSY = true ∧ t.fld F.ARB_STATUS_KIND = j.kind % 4 ∧
      (j.kind ≠ 2 → t.stw.ctrl = s.stw.ctrl ∧ t.out = []) ∧
      (j.kind = 2 → t.stw.ctrl = s.stw.ctrl ++ [(⟨s.stw.nextTag, slotOf j.ref,
        .batch [⟨0x6C8, true, j.round % 2 ^ 16 + j.seq % 2 ^ 32 * 2 ^ 16⟩], 0, .plain⟩ : CtrlReq)]) ∧
      ({ s with tdsp := t.tdsp } : State).onlyMessagesAnd [F.ARB_STATUS_QUEUED, F.ARB_STATUS_BUSY, F.ARB_STATUS_KIND] t)) ∧
  (∀ s : State, s.tdsp.arb = none ∨ s.works 11 = false ∨ s.flag F.MGT_PWR_STATUS_FAST_HOLD = true ∨ (∃ j, s.tdsp.arb = some j ∧ j.kind = 2) →
    exec .arbJobDone s = .next { s with out := [] }) ∧
  (∀ (s : State) (j : ArbJob), s.tdsp.arb = some j → s.works 11 = true → s.flag F.MGT_PWR_STATUS_FAST_HOLD = false →
    s.injectArmed 11 4 = false →
    (∀ d v, j.kind = 0 → s.tdsp.disputes.find? (fun d => d.x == j.ref && d.arb) = some d → d.x < 84 → d.y < 84 → d.x ≠ d.y → s.works (16 + d.x) = true →
      s.works (16 + d.y) = true → v = (tileSums (s.ownProfile d.job.tile) d.job.tile).1 → d.job.why = .main → Completes .arbJobDone s (fun t =>
        t.tdsp.arb = none ∧ t.flag F.ARB_STATUS_BUSY = false ∧ d ∉ t.tdsp.disputes ∧ t.fld F.STW_TDSP_DISPUTE_OUTCOME = 2 ∧
        t.fld F.ARB_CNT_JOBS = min 65535 (s.fld F.ARB_CNT_JOBS + 1) ∧
        t.fld F.STW_TDSP_DISPUTE_COUNT = min 65535 (s.fld F.STW_TDSP_DISPUTE_COUNT + 1) ∧
        t.fld F.STW_TDSP_DISPUTE_UNRESOLVED = s.fld F.STW_TDSP_DISPUTE_UNRESOLVED ∧
        t.istate (16 + d.x) = (if d.rx = v then 0 else 1) ∧ t.istate (16 + d.y) = (if d.ry = some v then 0 else 1) ∧
        t.flag (F.Tnn_TILE_HELD.at d.x) = false ∧ t.flag (F.Tnn_TILE_HELD.at d.y) = false ∧
        t.fld F.ARB_CNT_CORE_WRONG = min 65535 (s.fld F.ARB_CNT_CORE_WRONG + ((if d.rx = v then 0 else 1) + (if d.ry = some v then 0 else 1))) ∧
        ∀ o, o = tileConvert (s.ownProfile d.job.tile) s.escCfg d.job.tile v {} → Emit.tileOut d.job.tile.id o.flags o.out o.poison ∈ t.out)) ∧
    (∀ r p badD badP, j.kind = 1 → s.tdsp.replays.find? (fun r => r.no == j.ref) = some r → s.profileOf r.src.profile = some p →
      badD = (!(outside p (r.src.tile p).1 (r.src.tile p).2 none).isEmpty) →
      badP = outside p (r.src.tile p).1 (finalRows p r.src.n r.joined) none → Completes .arbJobDone s (fun t =>
        t.tdsp.arb = none ∧ (∀ x ∈ t.tdsp.replays, x.no ≠ j.ref) ∧ t.fld F.ARB_CNT_JOBS = min 65535 (s.fld F.ARB_CNT_JOBS + 1) ∧
        t.fld F.ARB_CNT_DIE_WRONG = min 65535 (s.fld F.ARB_CNT_DIE_WRONG + b2n badD) ∧
        t.fld F.ARB_CNT_CORE_WRONG = min 65535 (s.fld F.ARB_CNT_CORE_WRONG + b2n (!badP.isEmpty)) ∧
        t.fld F.STW_REPLAY_CNT_REPLAYED = min 65535 (s.fld F.STW_REPLAY_CNT_REPLAYED + b2n (badD || badP.isEmpty)) ∧
        t.tdsp.replayQ = (if badD = false ∧ badP ≠ [] then r.src :: s.tdsp.replayQ else s.tdsp.replayQ) ∧
        (badP = [] → ∀ c < 84, t.istate (16 + c) = s.istate (16 + c)) ∧
        (∀ x ∈ r.subs, ∀ c ∈ x.cores, c < 84 → badP.any (fun e => e.1 / 128 == x.row / 128 && e.2 / 128 == x.col / 128) = true →
          s.works (16 + c) = true → (∀ z ∈ r.subs, ∀ k ∈ z.cores, k < 84) → t.istate (16 + c) = 1)))) ∧
  (∀ (s : State) (place : Nat), (if place = 0 then s.tdsp.arb else s.tdsp.arbQ[place - 1]?) = none → exec (.arbTimeout place) s = .next { s with out := [] }) ∧
  (∀ (s : State) (place : Nat) (j : ArbJob), (if place = 0 then s.tdsp.arb else s.tdsp.arbQ[place - 1]?) = some j → Completes (.arbTimeout place) s (fun t =>
    t.tdsp.arb = (if place = 0 then none else s.tdsp.arb) ∧
    t.tdsp.arbQ = (if place = 0 then s.tdsp.arbQ else s.tdsp.arbQ.eraseIdx (place - 1)) ∧
    t.fld F.ARB_CNT_JOBS = s.fld F.ARB_CNT_JOBS ∧
    (j.kind ≠ 0 ∨ (∀ d ∈ s.tdsp.disputes, d.job.why = .main) → t.fld F.ARB_CNT_NO_RESULT = min 65535 (s.fld F.ARB_CNT_NO_RESULT + 1)) ∧
    (j.kind = 1 → (∀ x ∈ t.tdsp.replays, x.no ≠ j.ref) ∧ t.out = [] ∧
      t = { s with regs := t.regs, out := [], tdsp := { s.tdsp with arb := t.tdsp.arb, arbQ := t.tdsp.arbQ, replays := t.tdsp.replays } }) ∧
    (2 ≤ j.kind → t.fld F.DIG_DISPUTE_UNDECIDED = min 65535 (s.fld F.DIG_DISPUTE_UNDECIDED + 1) ∧
      (({ s with tdsp := t.tdsp } : State).onlyMessagesAnd [F.ARB_STATUS_QUEUED, F.ARB_STATUS_BUSY, F.ARB_STATUS_KIND, F.ARB_CNT_NO_RESULT,
        F.DIG_DISPUTE_UNDECIDED] t)) ∧
    (∀ d, j.kind = 0 → d.job.why = .main → s.tdsp.disputes.find? (fun d => d.x == j.ref && d.arb) = some d → d ∉ t.tdsp.disputes ∧
      t.fld F.STW_TDSP_DISPUTE_OUTCOME = 3 ∧
      t.fld F.STW_TDSP_DISPUTE_UNRESOLVED = min 65535 (s.fld F.STW_TDSP_DISPUTE_UNRESOLVED + 1) ∧
      (d.x < 84 → s.works (16 + d.x) = true → t.istate (16 + d.x) = 1)))) ∧
  (∀ (s : State) (loc : Nat), s.tdsp.arb = none → exec (.arbResidue loc) s = .next { s with out := [] }) ∧
  (∀ (s : State) (loc : Nat) (j : ArbJob), s.tdsp.arb = some j → Completes (.arbResidue loc) s (fun t =>
    t.tdsp = { s.tdsp with arb := none, arbQ := j :: s.tdsp.arbQ } ∧ t.flag F.ARB_STATUS_BUSY = false ∧
    t.fld F.ARB_STATUS_QUEUED = (s.tdsp.arbQ.length + 1) % 32 ∧
    (s.works 11 = true → s.disabled 11 = false → t.istate 11 = 1 ∧ t.flag (F.ERR_FIRST_VALID.at 11) = true ∧
      (s.flag (F.ERR_FIRST_VALID.at 11) = false ∨ s.flag (F.ERR_FIRST_WINTER.at 11) = false →
        t.fld (F.ERR_FIRST_DETECTOR.at 11) = 0x11 ∧ t.flag (F.ERR_FIRST_WINTER.at 11) = true)) ∧
    t = { s with regs := t.regs, mgt := { s.mgt with msiWait := t.mgt.msiWait }, exp := t.exp, trc := t.trc, tdsp := t.tdsp
                 stw := { s.stw with ctrl := t.stw.ctrl, nextTag := t.stw.nextTag }, out := t.out }))

/-- The DIG rows, INTEGRITY_OUTCOME, the replica rows and the two TST rows: chunks checked, rounds answered, reports, comparisons and results. -/
def Obligations.DigestsReplicasAndTests : Prop :=
  (∀ (s : State) (round : Nat) (marked : Bool) (t0 pl : Bytes) (now : Int),
    s.digDark = true ∨ (∀ x ∈ s.dig.rounds, x.round ≠ round) ∧ 64 ≤ s.dig.rounds.length →
    exec (.chunkCheck round marked t0 pl now) s = .next { s with out := [], dig := { s.dig with
      unchecked := if s.dig.unchecked.contains round then s.dig.unchecked else s.dig.unchecked ++ [round] } }) ∧
  (∀ (s : State) (round code : Nat) (marked : Bool) (t0 pl : Bytes) (now : Int) (base : List DRound), s.digDark = false →
    base = (if s.dig.rounds.any (fun x => x.round == round) then s.dig.rounds else s.dig.rounds ++ [{ round := round }]) → base.length ≤ 64 →
    (s.dig.unchecked.contains round = true ∨ s.flag F.DIG_CFG_CHECK_EN = false → Completes (.chunkCheck round marked t0 pl now) s (fun t =>
      t.dig = { s.dig with rounds := base } ∧ (base ≠ s.dig.rounds → t.fld F.DIG_STATUS_OPEN_ROUNDS = base.length) ∧
      s.onlyFields [F.DIG_STATUS_OPEN_ROUNDS] t ∧ t = { s with regs := t.regs, dig := t.dig, out := [] })) ∧
    (s.dig.unchecked.contains round = false → s.flag F.DIG_CFG_CHECK_EN = true → code = s.chunkCheck round marked t0 pl →
      Completes (.chunkCheck round marked t0 pl now) s (fun t =>
        t.fld F.DIG_CNT0_CHUNKS = min (2 ^ 32 - 1) (s.fld F.DIG_CNT0_CHUNKS + 1) ∧
        t.fld F.DIG_CNT1_POISONED = min 65535 (s.fld F.DIG_CNT1_POISONED + b2n (code == 0 && trPoison t0)) ∧
        (code ≠ 7 → t.dig.rounds = base.map (fun r => if r.round = round then
          { r with stop := r.stop || trPoison t0 && code == 0 || code != 0, chunks := r.chunks + 1
                   arrivals := if code = 1 then r.arrivals else r.arrivals.filter (fun x => x.1 != trSrc t0) ++ [(trSrc t0, now)] } else r) ∧
          t.tdsp = s.tdsp) ∧
        (code ≠ 0 → t.fld F.DIG_ERR_LOC_SRC = (if code = 1 then 0 else trSrc t0) ∧ t.fld F.DIG_ERR_LOC_ROUND = round % 65536 ∧
          t.fld F.DIG_ERR_LOC_CHECK = code) ∧
        t.fld F.DIG_CNT1_FRAME_ERR = min 65535 (s.fld F.DIG_CNT1_FRAME_ERR + (if 1 ≤ code ∧ code ≤ 5 then 1 else 0)) ∧
        t.fld F.DIG_CNT1_SOURCE_ERR = min 65535 (s.fld F.DIG_CNT1_SOURCE_ERR + (if code = 6 then 1 else 0)) ∧
        t.fld F.DIG_CNT1_DIGEST_ERR = min 65535 (s.fld F.DIG_CNT1_DIGEST_ERR + (if code = 7 then 1 else 0)) ∧
        t.fld F.DIG_DISPUTE_FRAME = min 65535 (s.fld F.DIG_DISPUTE_FRAME + (if 1 ≤ code ∧ code ≤ 6 then 1 else 0)) ∧
        (1 ≤ code → code ≤ 6 → s.sends 0x0A 10 s.myNode (eventBody 0x8003 (if code = 1 then 0 else trSrc t0) round
          (le 1 (if code = 6 then 1 else 0) ++ le 1 code ++ zeros 2 ++ le 4 (if code = 1 then 0 else trSeq t0) ++ zeros 4)) t) ∧
        (code = 7 → trVersion t0 = 2 → t.fld F.DIG_DISPUTE_TRANSPORT = min 65535 (s.fld F.DIG_DISPUTE_TRANSPORT + 1)) ∧
        (code = 7 → trVersion t0 ≠ 2 → trRetained t0 = false ∨ s.flag F.DIG_CFG_DISPUTE_EN = false →
          t.fld F.DIG_DISPUTE_UNDECIDED = min 65535 (s.fld F.DIG_DISPUTE_UNDECIDED + 1)) ∧
        (code = 7 → trVersion t0 ≠ 2 → trRetained t0 = true → s.flag F.DIG_CFG_DISPUTE_EN = true →
          (∀ x ∈ s.dig.rounds, x.round = round → trSrc t0 ∉ x.disputed) → s.tdsp.arbQ.length < 16 →
          (∃ j ∈ t.tdsp.arbQ, j.kind = 2 ∧ j.ref = trSrc t0 ∧ j.round = round ∧ j.seq = trSeq t0) ∧
          t.tdsp.arbQ.length = s.tdsp.arbQ.length + 1 ∧ (∀ x ∈ t.dig.rounds, x.round = round → trSrc t0 ∈ x.disputed) ∧
          t.fld F.DIG_DISPUTE_UNDECIDED = s.fld F.DIG_DISPUTE_UNDECIDED) ∧
        ({ s with dig := { s.dig with rounds := t.dig.rounds }, tdsp := { s.tdsp with arbQ := t.tdsp.arbQ } } : State).onlyMessagesAnd
          [F.DIG_STATUS_OPEN_ROUNDS, F.DIG_CNT0_CHUNKS, .whole F.DIG_CNT1_FRAME_ERR.addr, .whole F.DIG_ERR_LOC_SRC.addr,
           .whole F.DIG_DISPUTE_FRAME.addr, .whole F.ARB_STATUS_QUEUED.addr, F.ARB_CNT_NO_RESULT] t))) ∧
  (∀ (s : State) (round ans : Nat) (r : DRound) (un : Bool), r = (s.dig.rounds.find? (fun x => x.round == round)).getD { round := round } →
    un = (s.digDark || s.dig.unchecked.contains round || !s.flag F.DIG_CFG_CHECK_EN) → ans = (if un then 2 else if r.stop then 1 else 0) →
    Completes (.roundEnd round) s (fun t => t.out.getLast? = some (.digAnswer round ans) ∧ t.fld F.DIG_STATUS_LAST_ROUND = round % 65536 ∧
      t.fld F.DIG_STATUS_LAST_ANSWER = ans ∧ t.fld F.DIG_CNT0_UNCHECKED = min 65535 (s.fld F.DIG_CNT0_UNCHECKED + b2n un) ∧
      t.fld F.DIG_CNT0_STOPS = min 65535 (s.fld F.DIG_CNT0_STOPS + b2n (ans == 1)) ∧ t.dig.rounds = s.dig.rounds.filter (fun x => x.round != round) ∧
      t.fld F.DIG_STATUS_OPEN_ROUNDS = min 64 t.dig.rounds.length ∧ round ∈ t.dig.answered ∧ (∀ x ∈ t.dig.answered, x = round ∨ x ∈ s.dig.answered) ∧
      t.dig.unchecked = s.dig.unchecked.filter (fun x => x != round) ∧ t.dig.dark = s.dig.dark + b2n (un && !s.works 10) ∧
      (un = true → s.epoch ∈ t.dig.unmeasured) ∧ (un = false → t.dig.unmeasured = s.dig.unmeasured) ∧
      (∀ a b x y, r.arrivals = [(a, x), (b, y)] → contribLevel a = contribLevel b → x < y → (∀ g ∈ s.dig.strag, g.level ≠ contribLevel a ∨ g.epoch ≠ s.epoch) →
        { level := contribLevel a, epoch := s.epoch, rounds := 1, charges := [(b, y - x, 1)] } ∈ t.dig.strag) ∧
      ({ s with dig := t.dig } : State).onlyMessagesAnd [.whole F.DIG_STATUS_OPEN_ROUNDS.addr, F.DIG_CNT0_UNCHECKED, F.DIG_CNT0_STOPS] t)) ∧
  (∀ (s : State) (r : Rec), s.works 11 = false ∨ (∀ j, s.tdsp.arb = some j → j.kind ≠ 2 ∨ j.ref ≠ senderOf r.src ∨ j.round ≠ bytesAt r.body 16 2 ∨
      j.seq ≠ bytesAt r.body 20 4) → exec (.digestReport r) s = .next { s with out := [] }) ∧
  (∀ (s : State) (r : Rec) (j : ArbJob) (a : Nat), s.works 11 = true → s.tdsp.arb = some j → j.kind = 2 → j.ref = senderOf r.src →
    j.round = bytesAt r.body 16 2 → j.seq = bytesAt r.body 20 4 → a = bytesAt r.body 18 1 → Completes (.digestReport r) s (fun t =>
      t.tdsp = { s.tdsp with arb := none } ∧ t.fld F.ARB_CNT_JOBS = min 65535 (s.fld F.ARB_CNT_JOBS + 1) ∧ t.flag F.ARB_STATUS_BUSY = false ∧
      t.fld F.DIG_DISPUTE_TRANSPORT = min 65535 (s.fld F.DIG_DISPUTE_TRANSPORT + (if a = 0 then 1 else 0)) ∧
      t.fld F.DIG_DISPUTE_DIE_MEMORY = min 65535 (s.fld F.DIG_DISPUTE_DIE_MEMORY + (if a = 1 then 1 else 0)) ∧
      t.fld F.DIG_DISPUTE_UNDECIDED = min 65535 (s.fld F.DIG_DISPUTE_UNDECIDED + (if 2 ≤ a then 1 else 0)) ∧
      (a = 1 → nodeAddr (j.ref / 2 ^ 24) (j.ref / 2 ^ 18 % 64) = s.myNode → s.works 7 = true →
        t.vrd = (s.addEvid j.ref (stratumOf (bytesAt r.body 24 2)) 0 1).vrd) ∧ (a ≠ 1 → t.vrd = s.vrd) ∧
      ({ s with tdsp := t.tdsp, vrd := t.vrd } : State).onlyMessagesAnd [.whole F.ARB_STATUS_QUEUED.addr, F.ARB_CNT_JOBS,
        .whole F.DIG_DISPUTE_TRANSPORT.addr] t)) ∧
  (∀ (s : State) (r : Rec) (kind die n ctx set : Nat), kind = bytesAt r.body 12 1 → die = bytesAt r.body 4 4 → n = bytesAt r.body 8 4 →
    ctx = bytesAt r.body 14 2 → set = bytesAt r.body 20 2 →
    (s.works 7 = true → kind ≠ 4 ∨ s.works 14 = false ∨ die / 2 ^ 18 ≠ s.myNode / 2 ^ 18 →
      exec (.integrityOutcome r) s = .next { s.addEvid die (stratumOf ctx) 0 (if kind = 3 then s.evidMin else n) with out := [] }) ∧
    (s.works 7 = false → kind ≠ 4 → Completes (.integrityOutcome r) s (fun t => s.onlyMessages t)) ∧
    (kind = 4 → s.works 14 = true → die / 2 ^ 18 = s.myNode / 2 ^ 18 → Completes (.integrityOutcome r) s (fun t =>
      t.flag (F.STW_REPLICA_DATA_FOCUS.at set) = true ∧ set ∈ t.stw.focus ∧ (set, die) ∈ t.stw.focused ∧
      (s.works 7 = true → t.vrd = (s.addEvid die (stratumOf ctx) 0 n).vrd) ∧
      ({ s with vrd := t.vrd, stw := { s.stw with focus := t.stw.focus, focused := t.stw.focused } } : State).onlyMessagesAnd
        [F.STW_REPLICA_DATA_FOCUS.at set] t))) ∧
  (∀ (s : State) (r : Rec), s.works 14 = false → exec (.tensorWatchReceive r) s = .next { s with out := [] }) ∧
  (∀ (s : State) (r : Rec), s.works 14 = true → s.image.replicas = [] → exec (.tensorWatchReceive r) s = .next { s with out := [], stw := { s.stw with
    gapped := if r.flag flagLoss && !s.stw.gapped.contains (senderOf r.src) then s.stw.gapped ++ [senderOf r.src] else s.stw.gapped } }) ∧
  (∀ (s : State) (r : Rec) (k ord key die : Nat) (x : ReplicaSet) (e : Bytes), s.works 14 = true → r.flag flagLoss = false → bytesAt r.body 0 2 = 1 →
    e = (r.body.drop 8).take 128 → e.length = 128 → bit (bytesAt e 0 1) 7 = true → s.image.replicas[k]? = some x → x.tag = bytesAt e 2 2 →
    die = senderOf r.src → die ∈ x.members → (∀ i y, s.image.replicas[i]? = some y → y.tag = x.tag → i = k) → key = k * 2 ^ 32 + die →
    ord = s.stw.ordinals.get zero key + 1 → Completes (.tensorWatchReceive r) s (fun t => t.stw.ordinals.get zero key = ord ∧
      (∀ y, y ≠ key → t.stw.ordinals.get zero y = s.stw.ordinals.get zero y) ∧
      (ord % max 1 x.every ≠ 0 → k ∉ s.stw.focus → t = { s with out := [], stw := { s.stw with ordinals := t.stw.ordinals, cut := t.stw.cut } }) ∧
      (ord % max 1 x.every = 0 ∨ k ∈ s.stw.focus → s.evaluates x.members = true → s.fld (F.STW_REPLICA_DATA_LAST_ORDINAL.at k) < ord →
        s.stw.digests = [] → 1 < x.members.length → ∃ d : WDigest, t.stw.digests = [d] ∧ d.set = k ∧ d.ord = ord ∧ d.member = die ∧
          d.digest = bytesAt e 40 8 ∧ d.context = bytesAt e 4 2 ∧ (bytesAt e 1 1 = 0 → key ∉ s.stw.cut → die ∉ s.stw.gapped → d.status = 0) ∧
          s.sends 0x0A 10 s.myNode (eventBody 0x8001 die ord (weightParam d)) t))) ∧
  (∀ (s : State) (r : Rec) (d : WDigest), d = s.digestOfEvent r →
    (s.works 14 = false ∨ s.image.replicas[d.set]? = none ∨ d.ord ≤ s.fld (F.STW_REPLICA_DATA_LAST_ORDINAL.at d.set) ∨
      (∃ x, s.image.replicas[d.set]? = some x ∧ (s.evaluates x.members = false ∨ d.member ∉ x.members)) →
      exec (.weightDigestReceive r) s = .next { s with out := [] }) ∧
    (∀ x n, s.works 14 = true → s.image.replicas[d.set]? = some x → s.fld (F.STW_REPLICA_DATA_LAST_ORDINAL.at d.set) < d.ord →
      s.evaluates x.members = true → d.member ∈ x.members → (∀ y ∈ s.stw.digests, y.set = d.set → y.ord = d.ord → y.member ≠ d.member) →
      n = (s.stw.digests.filter (fun y => y.set == d.set && y.ord == d.ord)).length + 1 →
      (n ≠ x.members.length → exec (.weightDigestReceive r) s = .next { s with out := [], stw := { s.stw with digests := s.stw.digests ++ [d] } }) ∧
      (n = x.members.length → exec (.weightDigestReceive r) s =
        exec (.replicaDeadline d.set d.ord) { s with stw := { s.stw with digests := s.stw.digests ++ [d] } }))) ∧
  (∀ (s : State) (set ord : Nat), s.works 14 = false ∨ (∀ d ∈ s.stw.digests, d.set ≠ set ∨ d.ord ≠ ord) →
    exec (.replicaDeadline set ord) s = .next { s with out := [] }) ∧
  (∀ (s : State) (set ord : Nat) (held c : List WDigest), s.works 14 = true → held = s.stw.digests.filter (fun d => d.set == set && d.ord == ord) →
    held ≠ [] → c = held.filter (fun d => d.status == 0) → Completes (.replicaDeadline set ord) s (fun t =>
      t.stw.digests = s.stw.digests.filter (fun d => !(d.set == set && d.ord == ord)) ∧ t.fld (F.STW_REPLICA_DATA_LAST_ORDINAL.at set) = ord % 2 ^ 32 ∧
      (c.length ≤ 1 → t.fld F.STW_REPLICA_CNT_INCOMPLETE = min 65535 (s.fld F.STW_REPLICA_CNT_INCOMPLETE + 1) ∧ t.vrd = s.vrd) ∧
      (2 ≤ c.length → (∀ d ∈ c, ∀ e ∈ c, d.digest = e.digest) → t.fld F.STW_REPLICA_CNT_AGREE = min 65535 (s.fld F.STW_REPLICA_CNT_AGREE + 1) ∧
        t.vrd = s.vrd) ∧
      (∀ m d, 2 ≤ c.length → m ∈ c → d ∈ c → d.digest ≠ m.digest → c.length < 2 * (c.filter (fun x => x.digest == m.digest)).length →
        t.fld F.STW_REPLICA_CNT_MINORITY = min 65535 (s.fld F.STW_REPLICA_CNT_MINORITY + 1) ∧ t.stw.focus = s.stw.focus) ∧
      ((∀ m ∈ c, 2 * (c.filter (fun x => x.digest == m.digest)).length ≤ c.length) → c ≠ [] →
        t.fld F.STW_REPLICA_CNT_SPLIT = min 65535 (s.fld F.STW_REPLICA_CNT_SPLIT + 1) ∧ t.flag (F.STW_REPLICA_DATA_FOCUS.at set) = true ∧
        set ∈ t.stw.focus ∧ (∀ d ∈ c, d.member / 2 ^ 18 = s.myNode / 2 ^ 18 → (set, d.member) ∈ t.stw.focused)) ∧
      ({ s with vrd := t.vrd, stw := { s.stw with digests := t.stw.digests, focus := t.stw.focus, focused := t.stw.focused } } : State).onlyMessagesAnd
        [F.STW_REPLICA_DATA_FOCUS.at set, F.STW_REPLICA_DATA_LAST_ORDINAL.at set, .whole F.STW_REPLICA_CNT_AGREE.addr] t)) ∧
  (∀ (s : State) (set : Nat), set ∉ s.stw.focus → exec (.focusEnd set) s = .next { s with out := [] }) ∧
  (∀ (s : State) (set : Nat), set ∈ s.stw.focus → Completes (.focusEnd set) s (fun t =>
    t.stw.focus = s.stw.focus.filter (fun f => f != set) ∧ t.stw.focused = s.stw.focused.filter (fun f => f.1 != set) ∧
    t.flag (F.STW_REPLICA_DATA_FOCUS.at set) = false ∧
    ((∀ f ∈ s.stw.focused, f.1 = set → ∃ g ∈ s.stw.focused, g.1 ≠ set ∧ g.2 = f.2) → t.stw.ctrl = s.stw.ctrl ∧ t.out = []) ∧
    ({ s with stw := { s.stw with focus := t.stw.focus, focused := t.stw.focused } } : State).onlyMessagesAnd [F.STW_REPLICA_DATA_FOCUS.at set] t)) ∧
  (∀ (s : State) (r : Rec) (now : Int), s.works 15 = false → exec (.testResultReceive r now) s = .next { s with out := [] }) ∧
  (∀ (s : State) (r : Rec) (now : Int) (die core pkg o : Nat), s.works 15 = true → die = slotOf r.src → core = bytesAt r.body 16 2 % 2048 →
    pkg = bytesAt r.body 8 4 → o = bytesAt r.body 18 1 → Completes (.testResultReceive r now) s (fun t =>
      (o ≠ 2 → o ≠ 3 → (die, core, pkg, now) ∈ t.tst.done ∧ (∀ x ∈ t.tst.due, x ∈ s.tst.due ∧ (x.die ≠ die ∨ x.core ≠ core ∨ x.pkg ≠ pkg)) ∧
        (∀ x ∈ t.tst.done, x.1 = die → x.2.1 = core → x.2.2.1 = pkg → x.2.2.2 = now) ∧
        (senderOf r.src - 2047 + core, pkg) ∉ t.tst.late ∧ (∀ x ∈ t.tst.noAns, x.1 ≠ die ∨ x.2.1 ≠ core ∨ x.2.2.1 ≠ pkg)) ∧
      (o = 2 → t.tst = { s.tst with noAns := s.tst.noAns.filter (fun x => !(x.1 == die && x.2.1 == core && x.2.2.1 == pkg)) }) ∧
      (∀ k, o = 3 → k = ((s.tst.noAns.find? (fun x => x.1 == die && x.2.1 == core && x.2.2.1 == pkg)).map (fun x => x.2.2.2)).getD 0 + 1 →
        t.tst = { s.tst with noAns := s.tst.noAns.filter (fun x => !(x.1 == die && x.2.1 == core && x.2.2.1 == pkg)) ++
          (if k < max 1 (s.fld F.TST_CFG_NOANS_MAX) then [(die, core, pkg, k)] else []) } ∧
        (k < max 1 (s.fld F.TST_CFG_NOANS_MAX) → t.vrd = s.vrd)) ∧
      (o = 0 ∨ o = 2 → t.vrd = s.vrd) ∧
      (o = 1 → nodeAddr (senderOf r.src / 2 ^ 24) (senderOf r.src / 2 ^ 18 % 64) = s.myNode → s.works 7 = true →
        t.vrd = (s.addEvid (senderOf r.src) (stratumOf (bytesAt r.body 24 2)) 0 1).vrd) ∧
      ({ s with tst := t.tst, vrd := t.vrd } : State).onlyMessages t)) ∧
  (∀ (s : State) (die core pkg a : Nat), a = s.dieAddr die - 2047 + core →
    (s.works 15 = true → (∃ x ∈ s.tst.due, x.die = die ∧ x.core = core ∧ x.pkg = pkg) → (∀ p ∈ s.tst.packages, p.id = pkg → p.bandReq = false) →
      (a, pkg) ∉ s.tst.late → exec (.testOverdue die core pkg) s = .next { s with out := [], tst := { s.tst with late := s.tst.late ++ [(a, pkg)] } }) ∧
    (s.works 15 = false ∨ (∀ x ∈ s.tst.due, x.die ≠ die ∨ x.core ≠ core ∨ x.pkg ≠ pkg) ∨ (∃ p ∈ s.tst.packages, p.id = pkg ∧ p.bandReq = true) ∨
      (a, pkg) ∈ s.tst.late → exec (.testOverdue die core pkg) s = .next { s with out := [] }))

/-- The VRD rows and the PMC rows: an issue instant builds its batch, signatures send it, batches arrive, spares are set, counters freeze, clear and wrap. -/
def Obligations.VerdictsIssuedAndCounters : Prop :=
  (∀ (s : State) (level e : Nat), s.silent = true ∨ s.issuesLevel level = false ∨ s.istate 7 = 2 →
    exec (.issueInstant level e) s = .next { s with out := [] }) ∧
  (∀ (s : State) (level e : Nat), s.silent = false → s.issuesLevel level = true → s.istate 7 ≠ 2 → s.works 7 = false →
    Completes (.issueInstant level e) s (fun t => t.lastIssued level = e % 2 ^ 48 ∧ (level = 0 → t.fld F.VRD_STATUS_LAST_EPOCH = e % 2 ^ 48) ∧
      t.exp.seqs.get zero (s.levelAddr level) = (s.exp.seqs.get zero (s.levelAddr level) + 1) % 2 ^ 32 ∧
      (∃ r : Rec, Emit.directed (s.parentOf level).toList r ∈ t.out ∧ r.type = 0x21 ∧ r.epoch = e ∧ r.offset = 0 ∧ r.src = s.levelAddr level ∧
        r.body = pad8 ({ level := level, eflags := 1, subject := s.levelAddr level } : EpochRec).bytes) ∧
      s.onlyMessagesAnd [F.VRD_LEVEL_CFG_LAST_EPOCH.at level, F.VRD_STATUS_LAST_EPOCH] t)) ∧
  (∀ (s : State) (level e : Nat), s.silent = false → s.issuesLevel level = true → s.works 7 = true → Completes (.issueInstant level e) s (fun t =>
    t.lastIssued level = e % 2 ^ 48 ∧ (level = 0 → t.fld F.VRD_STATUS_LAST_EPOCH = e % 2 ^ 48) ∧ t.vrd.late.get zero level = 0 ∧
    (∀ c ∈ t.vrd.children, c.level = level → c.fresh = false) ∧ t.vrd.signFailed = s.vrd.signFailed ∧
    (s.flag F.VRD_STATUS_KEY_LOST = true → t.vrd.batches = s.vrd.batches) ∧
    (s.flag F.VRD_STATUS_KEY_LOST = false → t.flag F.VRD_STATUS_SIGNING = true ∧ ∃ (rs : List Rec) (er : Rec),
      t.vrd.batches = (match s.vrd.batches with
        | [] => [{ level := level, epoch := e, recs := rs ++ [er] }]
        | x :: rest => x :: (rest.filter (fun y => decide (y.level ≤ level)) ++ { level := level, epoch := e, recs := rs ++ [er] } ::
            rest.filter (fun y => decide (level < y.level)))) ∧
      isEpochRecord er = true ∧ er.epoch = e ∧ er.offset = 0 ∧ er.src = s.levelAddr level ∧ er.flag flagSigned = true ∧ bytesAt er.body 1 1 = level ∧
      bytesAt er.body 8 4 = rs.length % 2 ^ 32 ∧ (∀ r ∈ rs, r.epoch = e ∧ r.offset = 0)) ∧
    (level = 1 → t.vrd.sparesDue = none) ∧ t.img = s.img ∧ t.tim = s.tim ∧ t.tdsp = s.tdsp ∧ t.tst = s.tst ∧ t.potiks = s.potiks ∧
    t.sto = s.sto ∧ t.dig = s.dig)) ∧
  (∀ s : State, s.vrd.batches = [] ∨ s.works 7 = false → exec .batchSigned s = .next { s with out := [] }) ∧
  (∀ (s : State) (b : VBatch) (rest : List VBatch) (p : Nat), s.vrd.batches = b :: rest → s.works 7 = true → s.injectArmed 7 10 = false →
    b.level = 0 → s.parentOf 0 = some p → s.masterOf .group = false → Completes .batchSigned s (fun t =>
      t.vrd = { s.vrd with batches := rest, signFailed := false } ∧ t.flag F.VRD_STATUS_SIGNING = !rest.isEmpty ∧
      (s.silent = false → s.flag F.VRD_STATUS_KEY_LOST = false → ∀ r ∈ b.recs, Emit.directed [p] (if isEpochRecord r then
        { r with body := r.body.take (r.body.length - 96) ++ Config.ecdsaSign (s.mgt.key.getD []) (batchDigest b.recs) } else r) ∈ t.out) ∧
      (s.silent = false → s.flag F.VRD_STATUS_KEY_LOST = true → ∀ r ∈ (unsign b).recs, Emit.directed [p] r ∈ t.out ∧
        (isEpochRecord r = true → bit (bytesAt r.body 2 1) 2 = true ∨ r.body.length < 3)) ∧
      ({ s with vrd := t.vrd } : State).onlyMessagesAnd [F.VRD_STATUS_SIGNING] t)) ∧
  (∀ (s : State) (b : VBatch) (rest : List VBatch), s.vrd.batches = b :: rest → s.works 7 = true → s.injectArmed 7 10 = false →
    Completes .batchSigned s (fun t => t.vrd.batches = rest ∧ t.vrd.signFailed = false ∧ t.flag F.VRD_STATUS_SIGNING = !rest.isEmpty ∧
      ((b.level = 0 ∧ s.masterOf .group = true ∨ b.level = 1 ∧ s.masterOf .system = true) → ∃ c ∈ t.vrd.children,
        c.level = b.level + 1 ∧ c.src = s.levelAddr b.level ∧ c.epoch = b.epoch ∧ c.recs.length = b.recs.length ∧ c.fresh = true))) ∧
  (∀ (s : State) (v : Nat), Completes (.sparesWrite v) s (fun t => t.fld F.VRD_BUDGET_SPARES = v % 65536 ∧ s.onlyFields [F.VRD_BUDGET_SPARES] t ∧
    t = { s with regs := t.regs, vrd := { s.vrd with sparesDue := some (v % 65536) }, out := [] })) ∧
  (∀ s : State, exec (.verdictBatchReceive []) s = .next { s with out := [] }) ∧
  (∀ (s : State) (r : Rec) (rs : List Rec), s.works 7 = false → Completes (.verdictBatchReceive (r :: rs)) s (fun t => s.onlyMessages t)) ∧
  (∀ (s : State) (r : Rec) (rs : List Rec) (L : Nat), s.works 7 = true →
    (L = 1 ∧ s.masterOf .group = true ∧ r.src ∈ s.image.groupNodes ∨
     L = 2 ∧ (s.masterOf .group = false ∨ r.src ∉ s.image.groupNodes) ∧ s.masterOf .system = true ∧ r.src ∈ s.image.systemGroups) →
    Completes (.verdictBatchReceive (r :: rs)) s (fun t =>
      t.fld F.VRD_CNT_LATE_VERDICT = min 65535 (s.fld F.VRD_CNT_LATE_VERDICT + (if r.epoch ≤ s.lastIssued L then rs.length + 1 else 0)) ∧
      t.vrd.late.get zero L = s.vrd.late.get zero L + (if r.epoch ≤ s.lastIssued L then rs.length + 1 else 0) ∧
      (∀ c, s.vrd.children.find? (fun c => c.level == L && c.src == r.src) = some c → r.epoch < c.epoch → t.vrd.children = s.vrd.children) ∧
      ((∀ c, s.vrd.children.find? (fun c => c.level == L && c.src == r.src) = some c → c.epoch ≤ r.epoch) → t.vrd.children =
        s.vrd.children.filter (fun x => !(x.level == L && x.src == r.src)) ++ [{ level := L, src := r.src, epoch := r.epoch, recs := r :: rs }]) ∧
      s.onlyFields [F.VRD_CNT_LATE_VERDICT] t ∧
      t = { s with regs := t.regs, vrd := { s.vrd with late := t.vrd.late, children := t.vrd.children }, out := [] })) ∧
  (∀ (s : State) (r : Rec) (rs : List Rec) (bs : List VBody), s.works 7 = true → s.masterOf .group = false → s.masterOf .system = false →
    r.src = s.myGroup → s.image.groupDeputy = some s.myNode → s.vrd.sparesDue = none →
    bs = (r :: rs).filterMap (fun r => if r.type = 0x21 ∧ bytesAt r.body 0 1 % 4 = 0 then some (VBody.parse r.body) else none) →
    Completes (.verdictBatchReceive (r :: rs)) s (fun t =>
      t.vrd.ledger = s.vrd.ledger ++ (bs.filter (fun b => b.level == 3 && !bit b.vflags vRestated)).map (fun b => (b.subject, r.epoch)) ∧
      t.fld F.VRD_BUDGET_SPARE_LEFT = s.fld F.VRD_BUDGET_SPARE_LEFT - (bs.filter (fun b => b.level == 3 && !bit b.vflags vRestated)).length ∧
      (∀ a, a ∈ t.vrd.held ↔ ∃ b ∈ bs, b.level = 4 ∧ b.held ≠ 0 ∧ b.subject = a) ∧ t.fld F.VRD_BUDGET_HELD = t.vrd.held.length % 128 ∧
      s.onlyFields [F.VRD_BUDGET_SPARE_LEFT, F.VRD_BUDGET_HELD] t ∧
      t = { s with regs := t.regs, out := []
                   vrd := { s.vrd with ledger := t.vrd.ledger, held := t.vrd.held, groupDies := t.vrd.groupDies } })) ∧
  (∀ (s : State) (r : Rec) (b : VBody), s.works 7 = true → s.masterOf .group = true → r.src = systemAddr → systemAddr ∉ s.image.groupNodes →
    (s.masterOf .system = false ∨ systemAddr ∉ s.image.systemGroups) → systemAddr ≠ s.myGroup → r.type = 0x21 → b = VBody.parse r.body → b.kind = 1 →
    Completes (.verdictBatchReceive [r]) s (fun t =>
      (bit b.vflags vEnd = true → t = { s with out := [], vrd := { s.vrd with outer := s.vrd.outer.filter (fun x => x != (b.dtype, b.did)) } }) ∧
      (bit b.vflags vEnd = false → t.vrd.outer = s.vrd.outer.filter (fun x => x != (b.dtype, b.did)) ++ [(b.dtype, b.did)] ∧
        (∀ l ∈ t.vrd.ledger, l ∈ s.vrd.ledger) ∧ t = { s with out := [], vrd := { s.vrd with outer := t.vrd.outer, ledger := t.vrd.ledger } }))) ∧
  (∀ s : State, s.flag F.TRC_PMC_CTRL_FREEZE = false → exec .pmcFreeze s = .next { s with out := [] }) ∧
  (∀ s : State, s.flag F.TRC_PMC_CTRL_FREEZE = true → Completes .pmcFreeze s (fun t => t.flag F.TRC_PMC_CTRL_FREEZE = false ∧
    (s.flag F.TRC_PMC_CTRL_UNFREEZE = false → t.flag F.TRC_PMC_CTRL_FROZEN = true ∧ t.fld F.TRC_PMC_CTRL_FREEZE_EPOCH = s.epoch % 2 ^ 48) ∧
    (s.flag F.TRC_PMC_CTRL_UNFREEZE = true → s.onlyFields [F.TRC_PMC_CTRL_FREEZE] t) ∧
    s.onlyFields [F.TRC_PMC_CTRL_FREEZE, F.TRC_PMC_CTRL_FROZEN, F.TRC_PMC_CTRL_FREEZE_EPOCH] t ∧ t = { s with regs := t.regs, out := [] })) ∧
  (∀ s : State, s.flag F.TRC_PMC_CTRL_UNFREEZE = false → exec .pmcUnfreeze s = .next { s with out := [] }) ∧
  (∀ s : State, s.flag F.TRC_PMC_CTRL_UNFREEZE = true → Completes .pmcUnfreeze s (fun t => t.flag F.TRC_PMC_CTRL_UNFREEZE = false ∧
    t.flag F.TRC_PMC_CTRL_FREEZE = false ∧ t.flag F.TRC_PMC_CTRL_FROZEN = false ∧
    s.onlyFields [F.TRC_PMC_CTRL_UNFREEZE, F.TRC_PMC_CTRL_FREEZE, F.TRC_PMC_CTRL_FROZEN] t ∧ t = { s with regs := t.regs, out := [] })) ∧
  (∀ s : State, s.flag F.TRC_PMC_CTRL_CLEAR = false → exec .pmcClear s = .next { s with out := [] }) ∧
  (∀ s : State, s.flag F.TRC_PMC_CTRL_CLEAR = true → Completes .pmcClear s (fun t => t.flag F.TRC_PMC_CTRL_CLEAR = false ∧
    (∀ n < 100, ∀ k < 8, t.fld (pmcField n k F.PMC_VALUE) = 0) ∧
    (∀ g : Fld, g.lo + g.w ≤ 64 → F.TRC_PMC_CTRL_CLEAR.apart g → (∀ n < 100, ∀ k < 8, (pmcField n k F.PMC_VALUE).apart g) → t.fld g = s.fld g) ∧
    t = { s with regs := t.regs, out := [] })) ∧
  (∀ (s : State) (n k : Nat), s.flag (pmcField n k F.PMSEL_EN) = false ∨ s.flag F.TRC_PMC_CTRL_FROZEN = true →
    exec (.pmcOverflow n k) s = .next { s with out := [] }) ∧
  (∀ (s : State) (n k : Nat), n < 100 → k < 8 → s.flag (pmcField n k F.PMSEL_EN) = true → s.flag F.TRC_PMC_CTRL_FROZEN = false →
    Completes (.pmcOverflow n k) s (fun t => t.fld (pmcField n k F.PMC_VALUE) = 0 ∧ t.flag (pmcField n k F.PMSEL_OVF) = true ∧
      (s.flag (pmcField n k F.PMSEL_OVF_INT) = true → getBits (t.reg (F.INT_PEND_ERR.at n).addr) 2 1 = 1) ∧
      (s.flag (pmcField n k F.PMSEL_OVF_INT) = false → s.onlyFields [pmcField n k F.PMC_VALUE, pmcField n k F.PMSEL_OVF] t ∧
        t = { s with regs := t.regs, out := [] }) ∧
      s.onlyFields [pmcField n k F.PMC_VALUE, pmcField n k F.PMSEL_OVF, .whole (F.INT_PEND_ERR.at n).addr] t ∧
      t = { s with regs := t.regs, mgt := { s.mgt with msiWait := t.mgt.msiWait }, out := t.out }))

/-- The EXP rows and the TRC rows: records join queues, frames start, buckets refill, held summaries merge; messages, captures and snapshots. -/
def Obligations.ExportAndTrace : Prop :=
  (∀ (s : State) (n : Nat) (r : Rec), s.silent = true → exec (.exportEnqueue n r) s = .next { s with out := [] }) ∧
  (∀ (s : State) (n : Nat) (r : Rec), s.silent = false → s.works 12 = false → Completes (.exportEnqueue n r) s (fun t => t.exp = s.exp ∧
    (match s.routeNo n 12 7 0 with
     | some k => t.fld (F.MGT_ROUTE_DATA_DROPS.at k) = min (2 ^ F.MGT_ROUTE_DATA_DROPS.w - 1) (s.fld (F.MGT_ROUTE_DATA_DROPS.at k) + 1) ∧
        s.onlyFields [F.MGT_ROUTE_DATA_DROPS.at k] t
     | none => t.regs = s.regs) ∧ t = { s with regs := t.regs, out := [] })) ∧
  (∀ (s : State) (n : Nat) (r : Rec), s.silent = false → s.works 12 = true → s.destsOf r = [] → Completes (.exportEnqueue n r) s (fun t =>
    t.fld F.EXP_CNT_UNMAPPED = min 65535 (s.fld F.EXP_CNT_UNMAPPED + 1) ∧ s.onlyFields [F.EXP_CNT_UNMAPPED] t ∧ t = { s with regs := t.regs, out := [] })) ∧
  (∀ (s : State) (n d : Nat) (r : Rec), s.silent = false → s.works 12 = true → s.destsOf r = [d] → 8 ≤ r.cls → r.cls < 13 → r.type ≠ 0x0B →
    (s.destHeld d = false → recsSize (s.queue d (r.cls - 8)).recs + r.size + 112 ≤ (s.destCfg d).depthKib.getD (r.cls - 8) 0 * 1024 →
      Completes (.exportEnqueue n r) s (fun t => (t.queue d (r.cls - 8)).recs = (s.queue d (r.cls - 8)).recs ++ [r] ∧
        (t.queue d (r.cls - 8)).f = (s.queue d (r.cls - 8)).f ∧
        (t.queue d (r.cls - 8)).s = (if (s.queue d (r.cls - 8)).recs = [] then
          (if tagLt (s.vtime (s.fld (F.EXP_DEST_DATA_LINK.at d)) (r.cls - 8)) (s.queue d (r.cls - 8)).f then (s.queue d (r.cls - 8)).f
           else s.vtime (s.fld (F.EXP_DEST_DATA_LINK.at d)) (r.cls - 8)) else (s.queue d (r.cls - 8)).s) ∧
        (∀ j c, c < 8 → (j, c) ≠ (d, r.cls - 8) → t.queue j c = s.queue j c) ∧
        t = { s with exp := { s.exp with queues := t.exp.queues }, out := [] })) ∧
    (s.destHeld d = false → (s.destCfg d).depthKib.getD (r.cls - 8) 0 * 1024 < recsSize (s.queue d (r.cls - 8)).recs + r.size + 112 →
      Completes (.exportEnqueue n r) s (fun t => t.fld (F.EXP_DEST_CNT_QUEUE_DROP.at d) = min 65535 (s.fld (F.EXP_DEST_CNT_QUEUE_DROP.at d) + 1) ∧
        t.exp.losses.get (fun _ => {}) d = (s.exp.losses.get (fun _ => {}) d).add r.type r.epoch r.offset ∧
        s.onlyFields [F.EXP_DEST_CNT_QUEUE_DROP.at d] t ∧
        t = { s with regs := t.regs, exp := { s.exp with losses := t.exp.losses }, out := [] })) ∧
    (s.destHeld d = true → s.shareUsed (r.cls - 8) + r.size ≤ s.shareSize (r.cls - 8) → Completes (.exportEnqueue n r) s (fun t =>
      (t.queue d (r.cls - 8)).recs = (s.queue d (r.cls - 8)).recs ++ [r] ∧ (∀ j c, c < 8 → (j, c) ≠ (d, r.cls - 8) → t.queue j c = s.queue j c) ∧
      t = { s with exp := { s.exp with queues := t.exp.queues }, out := [] }))) ∧
  (∀ (s : State) (port : Nat), s.works 12 = false ∨ s.works 2 = false ∨ s.portUp port = false → exec (.exportFrameStart port) s = .next { s with out := [] }) ∧
  (∀ (s : State) (port : Nat), s.works 12 = true → s.works 2 = true → s.portUp port = true →
    (s.exp.frags.get nil port = [] → s.chooseQueue port = none →
      exec (.exportFrameStart port) s = .next { s with out := [], exp := { s.exp with tx := s.exp.tx.put none' port none } }) ∧
    (∀ p ps x, s.exp.frags.get nil port = p :: ps → s.exp.tx.get none' port = some x → s.mayStart x.link port x.cls = false →
      exec (.exportFrameStart port) s = .next { s with out := [] }) ∧
    (∀ (p : Bytes) (rs : List Rec) (link d c : Nat), c < 5 → port < 4 → link < 12 →
      (s.exp.frags.get nil port = [] ∧ s.chooseQueue port = some (d, c) ∧ link = s.fld (F.EXP_DEST_DATA_LINK.at d) ∧
          (∃ r rest, (s.queue d c).recs = r :: rest ∧ r.size + 16 ≤ clampFrameMax (s.fld F.ING_CFG_FRAME_MAX)) ∧
          rs = packed (clampFrameMax (s.fld F.ING_CFG_FRAME_MAX) - 16) (s.queue d c).recs ∧ p = packedPayload rs) ∨
       (∃ ps x, s.exp.frags.get nil port = p :: ps ∧ s.exp.tx.get none' port = some x ∧ s.mayStart x.link port x.cls = true ∧
          link = x.link ∧ d = x.dest ∧ c = x.cls ∧ rs = x.recs) →
      Completes (.exportFrameStart port) s (fun t => t.out = [.frame port (s.fld (F.EXP_DEST_DATA_DMAC.at d)) p] ∧
        t.exp.tx.get none' port = some { link := link, dest := d, cls := c, recs := rs } ∧
        (t.queue d c).recs = (if s.exp.frags.get nil port = [] then (s.queue d c).recs.drop rs.length else (s.queue d c).recs) ∧
        t.exp.frags.get nil port = (s.exp.frags.get nil port).drop 1 ∧
        t.fld (F.EXP_DEST_CNT_FRAMES.at d) = min (2 ^ 32 - 1) (s.fld (F.EXP_DEST_CNT_FRAMES.at d) + 1) ∧
        t.exp.classBits.get zeroI (link * 8 + c) = s.exp.classBits.get zeroI (link * 8 + c) - (((p.length + 18) * 8 : Nat) : Int) ∧
        (link < 4 → t.exp.linkBits.get zeroI link =
          s.exp.linkBits.get zeroI link - (((p.length + 18 + s.fld F.EXP_CFG_LNK_OVERHEAD) * 8 : Nat) : Int)) ∧
        (4 ≤ link → t.exp.linkBits.get zeroI link = s.exp.linkBits.get zeroI link - (((p.length + 18 + s.fld F.EXP_CFG_LH_OVERHEAD) * 8 : Nat) : Int) ∧
          t.exp.linkBits.get zeroI port = s.exp.linkBits.get zeroI port - (((p.length + 18 + s.fld F.EXP_CFG_LNK_OVERHEAD) * 8 : Nat) : Int)) ∧
        t.credit port = s.credit port - (((p.length + 18 + 191) / 192 : Nat) : Int) ∧ t.vtime link c = (s.queue d c).s ∧
        (t.queue d c).f = (s.queue d c).s + BitVec.ofNat 64 ((p.length + 18) * 65536 / max 1 (s.fld (F.EXP_DEST_DATA_WEIGHT.at d))) ∧
        t = { s with regs := t.regs, mgt := { s.mgt with msiWait := t.mgt.msiWait }, exp := t.exp, out := t.out
                     lnk := { s.lnk with credits := t.lnk.credits } })) ∧
    (∀ (p : Bytes) (ps : List Bytes) (r : Rec) (rest : List Rec) (d c : Nat), s.exp.frags.get nil port = [] → s.chooseQueue port = some (d, c) →
      (s.queue d c).recs = r :: rest → clampFrameMax (s.fld F.ING_CFG_FRAME_MAX) < r.size + 16 →
      fragPayloads (clampFrameMax (s.fld F.ING_CFG_FRAME_MAX)) r = p :: ps → Completes (.exportFrameStart port) s (fun t =>
        t.out = [.frame port (s.fld (F.EXP_DEST_DATA_DMAC.at d)) p] ∧ t.exp.frags.get nil port = ps ∧ (t.queue d c).recs = rest ∧
        (∃ x, t.exp.tx.get none' port = some x ∧ x.dest = d ∧ x.cls = c ∧ x.recs = [r])))) ∧
  (∀ s : State, Completes .bucketRefill s (fun t =>
    (∀ l < 12, t.exp.linkBits.get zeroI l = (if depthBits (s.fld (F.EXP_LINK_SHAPER_DEPTH_KIB.at l)) ≤ s.exp.linkBits.get zeroI l
        then s.exp.linkBits.get zeroI l
        else min (depthBits (s.fld (F.EXP_LINK_SHAPER_DEPTH_KIB.at l))) (s.exp.linkBits.get zeroI l + s.fld (F.EXP_LINK_SHAPER_RATE_MBPS.at l))) ∧
      (t.exp.linkStop.get no l = true ↔ s.fld (F.EXP_LINK_SHAPER_RATE_MBPS.at l) = 0) ∧
      ∀ c < 5, t.exp.classBits.get zeroI (l * 8 + c) = (if depthBits (s.fld (F.EXP_CLASS_SHAPER_DEPTH_KIB.at (l + 16 * c))) ≤
          s.exp.classBits.get zeroI (l * 8 + c) then s.exp.classBits.get zeroI (l * 8 + c)
        else min (depthBits (s.fld (F.EXP_CLASS_SHAPER_DEPTH_KIB.at (l + 16 * c))))
          (s.exp.classBits.get zeroI (l * 8 + c) + s.fld (F.EXP_CLASS_SHAPER_RATE_MBPS.at (l + 16 * c)))) ∧
        (t.exp.classRun.get no (l * 8 + c) = true ↔ s.fld (F.EXP_CLASS_SHAPER_RATE_MBPS.at (l + 16 * c)) ≠ 0)) ∧
    t = { s with out := [], exp := { s.exp with
      linkBits := t.exp.linkBits, linkStop := t.exp.linkStop, classBits := t.exp.classBits, classRun := t.exp.classRun } })) ∧
  (∀ s : State, s.works 12 = false ∨ (∀ d < s.image.dests.length, s.destHeld d = false ∨ s.flag (F.EXP_DEST_DATA_COARSEN_OK.at d) = false ∨
      s.dueHeld (s.queue d 1).recs = none) → exec .heldSummaryMerge s = .next { s with out := [] }) ∧
  (∀ (s : State) (d i : Nat), s.works 12 = true → d < s.image.dests.length → s.destHeld d = true → s.flag (F.EXP_DEST_DATA_COARSEN_OK.at d) = true →
    (∀ j < s.image.dests.length, j ≠ d → s.destHeld j = false) → s.dueHeld (s.queue d 1).recs = some i →
    s.dueHeld (raiseHeld (s.queue d 1).recs i) = none → Completes .heldSummaryMerge s (fun t =>
      t.queue d 1 = { s.queue d 1 with recs := raiseHeld (s.queue d 1).recs i } ∧ t.fld F.EXP_CNT_MERGED = min 65535 (s.fld F.EXP_CNT_MERGED + 1) ∧
      (∀ j c, c < 8 → (j, c) ≠ (d, 1) → t.queue j c = s.queue j c) ∧ s.onlyFields [F.EXP_CNT_MERGED] t ∧
      t = { s with regs := t.regs, exp := { s.exp with queues := t.exp.queues }, out := [] })) ∧
  (∀ (s : State) (n code : Nat) (pl : Bytes), s.flag (F.TRC_SRC_DATA_EN.at n) = false → s.trc.fifos = [] →
    exec (.traceMessage n code pl) s = .next { s with out := [] }) ∧
  (∀ (s : State) (n code : Nat) (pl : Bytes), n < 100 → s.flag (F.TRC_SRC_DATA_EN.at n) = true → s.works 13 = false → Completes (.traceMessage n code pl) s (fun t =>
    t.fld (F.TRC_SRC_DATA_NEXT_ISEQ.at n) = (s.fld (F.TRC_SRC_DATA_NEXT_ISEQ.at n) + 1) % 65536 ∧
    t.fld (F.TRC_SRC_DATA_LOST.at n) = min (2 ^ 32 - 1) (s.fld (F.TRC_SRC_DATA_LOST.at n) + 1) ∧ t.trc.lostFlag.get no n = true ∧
    t.trc.fifos = s.trc.fifos ∧ s.onlyMessages t)) ∧
  (∀ (s : State) (n code : Nat) (pl : Bytes) (e : TrcEntry), n < 100 → s.flag (F.TRC_SRC_DATA_EN.at n) = true → s.works 13 = true → s.trc.fifos = [] →
    e = { source := n, code := code, iseq := s.fld (F.TRC_SRC_DATA_NEXT_ISEQ.at n), payload := pl, epoch := s.epoch, offset := s.stamp
          quality := s.quality n, sync := s.trc.lostFlag.get no n } → Completes (.traceMessage n code pl) s (fun t =>
      t.fld (F.TRC_SRC_DATA_NEXT_ISEQ.at n) = (s.fld (F.TRC_SRC_DATA_NEXT_ISEQ.at n) + 1) % 65536 ∧ t.trc.lostFlag.get no n = false ∧ t.trc.fifos = [] ∧
      (s.matches' e = false → t.fld F.TRC_STATUS_STATE = (if s.fld F.TRC_STATUS_STATE = 2 ∧ s.reserveSlots ≤ s.trc.reserve.length then 3
          else s.fld F.TRC_STATUS_STATE) ∧
        (s.fld F.TRC_STATUS_STATE = 1 → t.trc.pre = (s.trc.pre ++ [e]).drop (s.trc.pre.length + 1 - s.preSlots) ∧ t.trc.reserve = s.trc.reserve) ∧
        (s.fld F.TRC_STATUS_STATE = 2 → s.trc.reserve.length < s.reserveSlots → t.trc.reserve = s.trc.reserve ++ [e] ∧ t.trc.pre = s.trc.pre) ∧
        (s.fld F.TRC_STATUS_STATE = 3 ∨ s.fld F.TRC_STATUS_STATE = 2 ∧ s.reserveSlots ≤ s.trc.reserve.length →
          t.fld F.TRC_STATUS_LOST = min (2 ^ 32 - 1) (s.fld F.TRC_STATUS_LOST + 1) ∧ t.trc.frozenLost = s.trc.frozenLost + 1 ∧
          t.trc.pre = s.trc.pre ∧ t.trc.reserve = s.trc.reserve)) ∧
      (s.matches' e = true → bit (s.fld F.TRC_TRIG_EN_SOURCES) 4 = true → s.fld F.TRC_CTRL_MODE = 1 → s.fld F.TRC_STATUS_STATE = 1 →
        t.fld F.TRC_STATUS_STATE = 2 ∧ t.fld F.TRC_STATUS_TRIG_SOURCE = 5 ∧ t.trc.pre = (s.trc.pre ++ [e]).drop (s.trc.pre.length + 1 - s.preSlots)) ∧
      s.onlyMessages t)) ∧
  (∀ s : State, s.works 13 = false → exec .trcTrigWrite s = .next { s with out := [] }) ∧
  (∀ s : State, s.works 13 = true → s.trc.fifos = [] → s.fld F.TRC_CTRL_MODE = 1 → Completes .trcTrigWrite s (fun t =>
    (s.fld F.TRC_STATUS_STATE = 1 → t.fld F.TRC_STATUS_STATE = 2 ∧ t.fld F.TRC_STATUS_TRIG_SOURCE = 0 ∧ t.trc.pre = s.trc.pre ∧
      (∃ m, t.trc.reserve = [m] ∧ m.source = 127 ∧ m.code = 0x10 ∧ m.payload = le 1 0 ++ le 1 0 ∧ m.epoch = s.epoch ∧ m.offset = s.stamp) ∧
      t.fld F.TRC_CAPTURE0_TRIG_EPOCH = s.epoch % 2 ^ 48 ∧ t.fld F.TRC_CAPTURE1_TRIG_OFFSET = s.stamp % 2 ^ 32 ∧
      t.fld F.TRC_CAPTURE1_PRE_ENTRIES = min 0xFFFFFFFF s.trc.pre.length ∧ t.flag F.EXP_CFG_TRACE_BOOST = true ∧ t.trc.sinceTrigger = 0 ∧
      t.trc.sinceBoost = 0) ∧
    (s.fld F.TRC_STATUS_STATE = 2 ∨ s.fld F.TRC_STATUS_STATE = 3 → t.fld F.TRC_STATUS_STATE = s.fld F.TRC_STATUS_STATE ∧
      t.fld F.TRC_STATUS_TRIG_IGNORED = min 65535 (s.fld F.TRC_STATUS_TRIG_IGNORED + 1) ∧ t.trc.pre = s.trc.pre ∧ t.trc.reserve = s.trc.reserve) ∧
    s.onlyMessagesAnd [F.COD_CNT_NOSPACE, F.COD_CNT_RAW_STORED, F.COD_CNT_CODED] t)) ∧
  (∀ s : State, (s.fld F.TRC_STATUS_STATE ≠ 2 ∨ s.trc.reserve.length < s.reserveSlots ∨ s.works 13 = false →
      exec .reserveFull s = .next { s with out := [] }) ∧
    (s.fld F.TRC_STATUS_STATE ≠ 2 ∨ s.fld F.TRC_CTRL_POST_EPOCHS = 0 ∨ s.trc.sinceTrigger < s.fld F.TRC_CTRL_POST_EPOCHS ∨ s.works 13 = false →
      exec .postEpochsExpire s = .next { s with out := [] })) ∧
  (∀ (s : State) (c : Instr), s.fld F.TRC_STATUS_STATE = 2 → s.works 13 = true → s.trc.fifos = [] →
    (c = .reserveFull ∧ s.reserveSlots ≤ s.trc.reserve.length ∨
     c = .postEpochsExpire ∧ s.fld F.TRC_CTRL_POST_EPOCHS ≠ 0 ∧ s.fld F.TRC_CTRL_POST_EPOCHS ≤ s.trc.sinceTrigger) →
    Completes c s (fun t => t.fld F.TRC_STATUS_STATE = 3 ∧ t.trc.pre = s.trc.pre ∧ t.trc.reserve = s.trc.reserve ∧
      s.onlyMessagesAnd [F.COD_CNT_NOSPACE, F.COD_CNT_RAW_STORED, F.COD_CNT_CODED] t)) ∧
  (∀ s : State, s.fld F.TRC_CTRL_MODE ≠ 1 ∨ s.works 13 = false ∨ s.trc.rearmDue = false ∧ (s.flag F.TRC_CTRL_AUTO_REARM = false ∨
      s.fld F.TRC_STATUS_STATE ≠ 3 ∨ s.flag F.TRC_STATUS_EXPORTING = true) → exec .rearm s = .next { s with out := [] }) ∧
  (∀ s : State, s.fld F.TRC_CTRL_MODE = 1 → s.works 13 = true → (s.trc.rearmDue = true ∨ s.flag F.TRC_CTRL_AUTO_REARM = true ∧
      s.fld F.TRC_STATUS_STATE = 3 ∧ s.flag F.TRC_STATUS_EXPORTING = false) → Completes .rearm s (fun t => t.fld F.TRC_STATUS_STATE = 1 ∧
    t.flag F.TRC_STATUS_EXPORTING = false ∧ t.trc.reserve = [] ∧ t.trc.exported = 0 ∧ t.trc.frozenLost = 0 ∧ t.trc.rearmDue = false ∧
    t.trc.pct = max 1 (min 75 (s.fld F.TRC_CTRL_RESERVE_PCT)) ∧ t.trc.slots = s.traceSlots ∧
    (s.traceSlots ≠ 0 → ∃ e, t.trc.pre = [e] ∧ e.source = 127 ∧ e.code = 0x12 ∧ e.payload = le 4 s.trc.frozenLost) ∧
    s.onlyFields [F.TRC_STATUS_STATE, F.TRC_STATUS_EXPORTING] t ∧ t = { s with regs := t.regs, trc := t.trc, out := [] })) ∧
  (∀ s : State, exec .trcRearmWrite s = .next { s with trc := { s.trc with rearmDue := true }, out := [] }) ∧
  (∀ (s : State) (b : Bool), b = (s.flag F.EXP_CFG_TRACE_BOOST && ((!s.flag F.TRC_STATUS_EXPORTING && !s.flag F.TRC_SNAP_BUSY) ||
      decide (s.fld F.TRC_CTRL_BOOST_MAX ≤ s.trc.sinceBoost))) →
    exec .boostExpire s = .next (if b then ({ s with out := [] } : State).setFld F.EXP_CFG_TRACE_BOOST 0 else { s with out := [] })) ∧
  (∀ (s : State) (e : Nat), Completes (.snapRequest e) s (fun t =>
    (s.flag F.TRC_SNAP_BUSY = true → t.flag F.TRC_SNAP_REFUSED = true ∧ s.onlyFields [F.TRC_SNAP_REFUSED] t ∧ t = { s with regs := t.regs, out := [] }) ∧
    (s.flag F.TRC_SNAP_BUSY = false → t.fld F.TRC_SNAP_EPOCH = e % 2 ^ 48 ∧ t.flag F.TRC_SNAP_REQ = true ∧ t.flag F.TRC_SNAP_BUSY = false ∧
      (s.flag F.TRC_SNAP_POTIKS = false → s.onlyFields [F.TRC_SNAP_EPOCH, F.TRC_SNAP_REQ] t ∧ t = { s with regs := t.regs, out := [] }) ∧
      (s.flag F.TRC_SNAP_POTIKS = true → t.stw.ctrl.length = s.stw.ctrl.length + s.stw.armed.length ∧
        ∀ d ∈ s.stw.armed, ∃ q ∈ t.stw.ctrl, q.die = d ∧ q.body = .batch [⟨0x750, true, e % 2 ^ 48 + 2 ^ 48⟩]) ∧ s.onlyMessages t))) ∧
  (∀ (s : State) (f : SnapFigures), s.flag F.TRC_SNAP_REQ = false ∨ s.flag F.TRC_SNAP_BUSY = true ∨ s.epoch < s.fld F.TRC_SNAP_EPOCH ∨
    s.works 13 = false ∨ s.tim.open_ = false → exec (.snapshotTake f) s = .next { s with out := [] }) ∧
  (∀ (s : State) (f : SnapFigures), s.flag F.TRC_SNAP_REQ = true → s.flag F.TRC_SNAP_BUSY = false → s.fld F.TRC_SNAP_EPOCH ≤ s.epoch →
    s.works 13 = true → s.tim.open_ = true → Completes (.snapshotTake f) s (fun t => t.flag F.TRC_SNAP_REQ = false ∧ t.trc.snap = s.snapItems f ∧
      t.trc.snapEpoch = s.epoch ∧ t.fld F.TRC_SNAP_MISSED = (if s.fld F.TRC_SNAP_EPOCH < s.epoch then 1 else s.fld F.TRC_SNAP_MISSED) ∧
      (s.works 9 = false → s.snapItems f ≠ [] → t.flag F.TRC_SNAP_BUSY = true ∧ t.trc.snapExported = 0) ∧
      s.onlyMessagesAnd [F.COD_CNT_NOSPACE, F.COD_CNT_RAW_STORED, F.COD_CNT_CODED] t))

/-- The rows of the configuration image: LOAD, staging, VERIFY, verification, ARM, shadows, the guard instant and CANCEL: which state each leaves. -/
def Obligations.ImageAndCommit : Prop :=
  (∀ (s : State) (v n : Nat), n = v % 2 ^ 33 → Completes (.imageLoad v) s (fun t => t.fld F.MGT_IMG_LEN_LENGTH = n ∧
    t.flag F.MGT_IMG_LEN_CMD_REFUSED = (s.flag F.MGT_IMG_LEN_CMD_REFUSED && !bit v 35) ∧
    (bit v 33 = false → s.onlyFields [.whole F.MGT_IMG_LEN_LENGTH.addr] t ∧ t = { s with regs := t.regs, out := [] } ∧
      t.flag F.MGT_IMG_LEN_STAGE_REFUSED = (s.flag F.MGT_IMG_LEN_STAGE_REFUSED && !bit v 34)) ∧
    (bit v 33 = true → s.commitArmed = true ∨ s.imgState = 1 ∨ s.imgState = 3 ∨ 2 ^ 32 < n → t.flag F.MGT_IMG_LEN_STAGE_REFUSED = true ∧
      s.onlyFields [.whole F.MGT_IMG_LEN_LENGTH.addr] t ∧ t = { s with regs := t.regs, out := [] }) ∧
    (bit v 33 = true → s.commitArmed = false → s.imgState ≠ 1 → s.imgState ≠ 3 → n ≤ 2 ^ 32 →
      t.imgState = (if s.works 8 then 1 else 0) ∧ t.mgt = { s.mgt with stagedLen := n, verified := none } ∧
      (n = 0 ∨ s.works 8 = false → t.sto = s.sto ∧ t.out = []) ∧
      t = { s with regs := t.regs, mgt := t.mgt, sto := t.sto, exp := t.exp, trc := t.trc, out := t.out
                   stw := { s.stw with ctrl := t.stw.ctrl, nextTag := t.stw.nextTag } }))) ∧
  (∀ (s : State) (ok : Bool), s.imgState ≠ 1 → exec (.stagingComplete ok) s = .next { s with out := [] }) ∧
  (∀ s : State, s.imgState = 1 → Completes (.stagingComplete true) s (fun t => t.imgState = 2 ∧ s.onlyFields [F.MGT_IMG_STATUS_STATE] t ∧
    t = { s with regs := t.regs, out := [] })) ∧
  (∀ s : State, s.imgState = 1 → Completes (.stagingComplete false) s (fun t => t.imgState = 7 ∧ t.fld F.MGT_IMG_STATUS_REASON = 16 ∧
    t.fld F.MGT_IMG_STATUS_SECTION = 0x7F ∧ getBits (t.reg (F.INT_PEND_ERR.at 0).addr) 10 1 = 1 ∧
    t.sto.waiting = s.sto.waiting.filter (fun r => r.write || !staging.holds r.dest) ∧
    ({ s with sto := { s.sto with waiting := t.sto.waiting } } : State).onlyMessagesAnd
      [F.MGT_IMG_STATUS_STATE, F.MGT_IMG_STATUS_REASON, F.MGT_IMG_STATUS_SECTION, F.MGT_IMG_COMMIT_ARM] t)) ∧
  (∀ s : State, (s.imgState ≠ 2 → exec .imageVerify s = .next (({ s with out := [] } : State).setFld F.MGT_IMG_LEN_CMD_REFUSED 1)) ∧
    (s.imgState = 2 → Completes .imageVerify s (fun t => t.imgState = 3 ∧ t.fld F.MGT_IMG_GEN_STAGED_GEN = s.stagedGen % 2 ^ 32 ∧
      s.onlyFields [F.MGT_IMG_STATUS_STATE, F.MGT_IMG_GEN_STAGED_GEN] t ∧ t = { s with regs := t.regs, out := [] }))) ∧
  (∀ (s : State) (content : Image) (fail : Option (Nat × Nat)),
    (s.imgState ≠ 3 → exec (.verificationDone content fail) s = .next { s with out := [] }) ∧
    (∀ r e, s.imgState = 3 → s.verifyImage (s.stagedImage content) fail = some (r, e) → Completes (.verificationDone content fail) s (fun t =>
      t.imgState = 7 ∧ t.fld F.MGT_IMG_STATUS_REASON = r % 256 ∧ t.fld F.MGT_IMG_STATUS_SECTION = e % 128 ∧
      getBits (t.reg (F.INT_PEND_ERR.at 0).addr) 10 1 = 1 ∧
      s.onlyMessagesAnd [F.MGT_IMG_STATUS_STATE, F.MGT_IMG_STATUS_REASON, F.MGT_IMG_STATUS_SECTION, F.MGT_IMG_COMMIT_ARM] t)) ∧
    (s.imgState = 3 → s.verifyImage (s.stagedImage content) fail = none → Completes (.verificationDone content fail) s (fun t =>
      t.imgState = 4 ∧ t.mgt.verified = some (s.stagedImage content) ∧ getBits (t.reg (F.INT_PEND_ERR.at 0).addr) 10 1 = 1 ∧
      ({ s with mgt := { s.mgt with verified := t.mgt.verified } } : State).onlyMessagesAnd [F.MGT_IMG_STATUS_STATE] t)) ∧
    (s.imgState = 3 → s.stagedPoison = true → Completes (.verificationDone content fail) s (fun t => t.fld F.MGT_IMG_STATUS_REASON = 12)) ∧
    (s.imgState = 3 → s.stagedPoison = false → s.badMagic = true → Completes (.verificationDone content fail) s (fun t =>
      t.fld F.MGT_IMG_STATUS_REASON = 1)) ∧
    (s.imgState = 3 → s.stagedPoison = false → s.badMagic = false → bytesAt (s.stg 6 2) 0 2 = Config.revision → s.badLength = none →
      s.badKey = false → s.badSignature = true → Completes (.verificationDone content fail) s (fun t => t.fld F.MGT_IMG_STATUS_REASON = 5))) ∧
  (∀ (s : State) (v : Nat) (now : Int), Completes (.commitArm v now) s (fun t => t.tim.time = now ∧
    t.fld F.MGT_IMG_COMMIT_COMMIT_EPOCH = v % 2 ^ 48 ∧ t.fld F.MGT_IMG_COMMIT_DEFER_MAX = v / 2 ^ 56 % 256 ∧
    (bit v 48 = false ∨ s.commitArmed = true → s.onlyFields [F.MGT_IMG_COMMIT_COMMIT_EPOCH, F.MGT_IMG_COMMIT_DEFER_MAX] t ∧
      t = { s with regs := t.regs, tim := { s.tim with time := now }, out := [] }) ∧
    (bit v 48 = true → s.commitArmed = false → s.mgt.verified = none ∨ s.imgState ≠ 4 → t.flag F.MGT_IMG_LEN_CMD_REFUSED = true ∧
      s.onlyFields [F.MGT_IMG_COMMIT_COMMIT_EPOCH, F.MGT_IMG_COMMIT_DEFER_MAX, F.MGT_IMG_LEN_CMD_REFUSED] t ∧
      t = { s with regs := t.regs, tim := { s.tim with time := now }, out := [] }) ∧
    (∀ im e, bit v 48 = true → s.mgt.verified = some im → s.imgState = 4 →
      e = s.guardAhead (max (v % 2 ^ 48) (if s.tim.open_ then s.epoch + 1 else 0)) now →
      (s.pastSchedule e = false → t.imgState = 5 ∧ t.flag F.MGT_IMG_COMMIT_ARM = true ∧ t.mgt.verified = some im ∧ t.img = s.img ∧
        t.mgt = { s.mgt with aim := e, deferrals := 0, fixed := false } ∧
        (∀ n < 84, s.disabled (16 + n) = true → t.shadowReady (16 + n) = true) ∧
        (s.flag F.COD_DICT_CTRL_ACTIVATE = true → t.flag F.COD_DICT_CTRL_ACTIVATE = false ∧ t.flag F.COD_DICT_CTRL_ACT_REFUSED = true)) ∧
      (s.pastSchedule e = true → t.imgState = 7 ∧ t.fld F.MGT_IMG_STATUS_REASON = 10 ∧ t.flag F.MGT_IMG_COMMIT_ARM = false ∧ t.img = s.img ∧
        ∀ n < 100, t.shadowReady n = false)))) ∧
  (∀ (s : State) (c : Sched) (e : Nat) (now : Int), s.tim.sched = some c → 0 < c.p → e ≤ s.guardAhead e now ∧
    now + 10000 * 65536 ≤ c.t0 + ((s.guardAhead e now : Int) - (c.e0 : Int)) * (c.p : Int) * 65536) ∧
  (∀ (s : State) (n : Nat), (∀ im, s.mgt.verified = some im → s.commitArmed = false ∨ s.shadowCan n im = false) →
    exec (.shadowReady n) s = .next { s with out := [] }) ∧
  (∀ (s : State) (n : Nat) (im : Image), s.mgt.verified = some im → s.commitArmed = true → s.shadowCan n im = true →
    ((∃ k < 100, k ≠ n ∧ s.shadowReady k = false) → Completes (.shadowReady n) s (fun t => t.shadowReady n = true ∧
      (∀ k < 100, k ≠ n → t.shadowReady k = s.shadowReady k) ∧ t.imgState = s.imgState ∧ t.img = s.img)) ∧
    ((∀ k < 100, k ≠ n → s.shadowReady k = true) → s.img ≠ none → Completes (.shadowReady n) s (fun t => t.imgState = 6 ∧
      (∀ k < 100, t.shadowReady k = true) ∧ t.img = s.img ∧ t.mgt.aim = s.mgt.aim ∧ t.mgt.fixed = s.mgt.fixed)) ∧
    (n ≠ 6 → n ≠ 8 → n ≠ 9 → (∃ k < 100, k ≠ n ∧ s.shadowReady k = false) → Completes (.shadowReady n) s (fun t =>
      s.onlyFields [F.MGT_IMG_SHADOW0_READY, F.MGT_IMG_SHADOW1_READY] t ∧ t = { s with regs := t.regs, out := [] }))) ∧
  (∀ s : State, (s.commitArmed = false ∨ s.img = none ∨ s.mgt.fixed = true → exec .guardInstant s = .next { s with out := [] }) ∧
    (s.imgState = 6 → s.img ≠ none → s.mgt.fixed = false → exec .guardInstant s = .next { s with mgt := { s.mgt with fixed := true }, out := [] }) ∧
    (s.imgState = 5 → s.img ≠ none → s.mgt.fixed = false → Completes .guardInstant s (fun t => t.img = s.img ∧
      (s.fld F.MGT_IMG_COMMIT_DEFER_MAX ≤ s.mgt.deferrals → t.imgState = 7 ∧ t.fld F.MGT_IMG_STATUS_REASON = 14 ∧ t.flag F.MGT_IMG_COMMIT_ARM = false ∧
        (∀ n < 100, t.shadowReady n = false) ∧ t.fld F.MGT_IMG_STATUS_DEFERRED = s.fld F.MGT_IMG_STATUS_DEFERRED) ∧
      (s.mgt.deferrals < s.fld F.MGT_IMG_COMMIT_DEFER_MAX → t.mgt.aim = s.mgt.aim + 1 ∧ t.mgt.deferrals = s.mgt.deferrals + 1 ∧
        t.fld F.MGT_IMG_STATUS_DEFERRED = min 65535 (s.fld F.MGT_IMG_STATUS_DEFERRED + 1) ∧
        (s.pastSchedule (s.mgt.aim + 1) = false → t.imgState = 5) ∧
        (s.pastSchedule (s.mgt.aim + 1) = true → t.imgState = 7 ∧ t.fld F.MGT_IMG_STATUS_REASON = 10))))) ∧
  (∀ s : State, (s.commitArmed = false ∨ s.mgt.fixed = true → exec .commitCancel s = .next { s with out := [] }) ∧
    (s.commitArmed = true → s.mgt.fixed = false → Completes .commitCancel s (fun t => t.imgState = 4 ∧ t.flag F.MGT_IMG_COMMIT_ARM = false ∧
      t.tre = { s.tre with shadow := false } ∧ (∀ n < 100, t.shadowReady n = false) ∧ t.mgt.verified = s.mgt.verified ∧ t.img = s.img ∧
      ({ s with tre := t.tre, mgt := { s.mgt with fixed := false } } : State).onlyMessagesAnd
        [F.MGT_IMG_SHADOW0_READY, F.MGT_IMG_SHADOW1_READY, F.MGT_IMG_COMMIT_ARM, F.MGT_IMG_STATUS_STATE] t)))

/-- While no image is running, the switch takes place as soon as the last shadow is ready, without a tick; epochs open only once the block is armed. -/
def Obligations.FirstSwitchWaitsForNoTick : Prop :=
  (∀ (s : State) (n : Nat) (im : Image), s.img = none → s.mgt.verified = some im → s.commitArmed = true → s.shadowCan n im = true →
    (∀ k < 100, k ≠ n → s.shadowReady k = true) → Completes (.shadowReady n) s (fun t => t.img = some im ∧ t.imgState = 0 ∧ t.mgt.verified = none ∧
      t.flag F.MGT_IMG_STATUS_COMMITTED = true ∧ t.fld F.MGT_IMG_GEN_RUNNING_GEN = im.generation % 2 ^ 32 ∧ t.fld F.MGT_IMG_EPOCH_EPOCH = 0 ∧
      t.tim.open_ = s.tim.open_ ∧ t.tim.time = s.tim.time)) ∧
  (∀ (s : State) (c : Instr), c = .equinoxTick ∨ c = .stepApply none → s.isArmed = false → s.tim.open_ = false →
    Completes c s (fun t => t.tim.open_ = false ∧ t.epoch = s.epoch)) ∧
  (∀ (s : State) (now : Int), s.tim.open_ = false → Completes (.blockArm now) s (fun t => t.tim.open_ = true → t.isArmed = true))
end

