-- ==== Sys2Proof/Laws/Table.lean ====
section
/-! SUPPORT. Sparse tables: what is read after a write, and that every operation keeps the canonical form. -/

namespace Sys2Proof.Machine

variable {β : Type} {d : Nat → β}

/-- A dropped key reads the default, and every other key as before. -/
theorem Tab.get_drop (t : Tab β) (k k' : Nat) : Tab.get d (Tab.drop t k) k' = if k' = k then d k else Tab.get d t k' := by
  induction t with
  | nil => by_cases h : k' = k <;> simp [Tab.drop, Tab.get, h]
  | cons e t ih =>
    obtain ⟨i, x⟩ := e
    simp only [Tab.drop] at ih ⊢
    by_cases hi : i = k
    · subst hi
      simp only [List.filter, ne_eq, not_true_eq_false, decide_false, ih, Tab.get]
      by_cases hk : k' = i
      · simp [hk]
      · simp [hk, Ne.symm hk]
    · simp only [List.filter, ne_eq, hi, not_false_eq_true, decide_true, Tab.get, ih]
      by_cases hk : i = k'
      · subst hk; simp [hi]
      · simp [hk]

variable [DecidableEq β]

theorem Tab.wfFrom_mono {lo lo' : Nat} {t : Tab β} (h : lo' ≤ lo) (w : Tab.wfFrom d lo t = true) : Tab.wfFrom d lo' t = true := by
  cases t with
  | nil => rfl
  | cons e t => obtain ⟨i, v⟩ := e; simp [Tab.wfFrom] at w ⊢; exact ⟨⟨by omega, w.1.2⟩, w.2⟩

/-- A read after a write: the value at the key written, and what was there before at every other. -/
theorem Tab.get_put (t : Tab β) (k : Nat) (v : β) (k' : Nat) : Tab.get d (Tab.put d t k v) k' = if k' = k then v else Tab.get d t k' := by
  induction t with
  | nil =>
    by_cases hv : v = d k <;> by_cases hk : k' = k <;> simp [Tab.put, Tab.get, hv, hk]
    intro h; exact absurd h.symm hk
  | cons e t ih =>
    obtain ⟨i, x⟩ := e
    by_cases h1 : k < i
    · by_cases hv : v = d k
      · simp only [Tab.put, h1, if_true, hv, Tab.get, Tab.get_drop]
        by_cases hk : k' = k
        · subst hk; rw [if_neg (by omega), if_pos rfl, if_pos rfl]
        · simp only [hk, if_false]
      · simp only [Tab.put, h1, if_true, hv, if_false, Tab.get]
        by_cases hk : k' = k
        · subst hk; simp
        · rw [if_neg (Ne.symm hk), if_neg hk]
    · by_cases h2 : k = i
      · subst h2
        by_cases hv : v = d k
        · simp only [Tab.put, Nat.lt_irrefl, if_false, if_true, hv, Tab.get, Tab.get_drop]
          by_cases hk : k' = k
          · simp only [hk, if_true]
          · rw [if_neg hk, if_neg hk, if_neg (Ne.symm hk)]
        · simp only [Tab.put, Nat.lt_irrefl, if_false, if_true, hv, Tab.get]
          by_cases hk : k' = k
          · subst hk; simp
          · rw [if_neg (Ne.symm hk), if_neg hk, if_neg (Ne.symm hk)]
      · simp only [Tab.put, h1, h2, if_false, Tab.get]
        by_cases hi : i = k'
        · subst hi; rw [if_pos rfl, if_neg (Ne.symm h2), if_pos rfl]
        · rw [if_neg hi, if_neg hi, ih]

/-- The key written reads as written. -/
@[simp] theorem Tab.get_put_same (t : Tab β) (k : Nat) (v : β) : Tab.get d (Tab.put d t k v) k = v := by simp [Tab.get_put]

/-- Every other key reads as before. -/
@[simp] theorem Tab.get_put_other (t : Tab β) {k k' : Nat} (v : β) (h : k' ≠ k) : Tab.get d (Tab.put d t k v) k' = Tab.get d t k' := by
  simp [Tab.get_put, h]

theorem Tab.wfFrom_filter {lo : Nat} {t : Tab β} (p : Nat × β → Bool) (w : Tab.wfFrom d lo t = true) : Tab.wfFrom d lo (t.filter p) = true := by
  induction t generalizing lo with
  | nil => rfl
  | cons e t ih =>
    obtain ⟨i, v⟩ := e
    simp only [Tab.wfFrom, Bool.and_eq_true, decide_eq_true_eq] at w
    by_cases hp : p (i, v) = true
    · simp only [List.filter, hp, Tab.wfFrom, Bool.and_eq_true, decide_eq_true_eq]; exact ⟨w.1, ih w.2⟩
    · simp only [List.filter, hp]; exact Tab.wfFrom_mono (by omega) (ih w.2)

theorem Tab.wfFrom_put {lo : Nat} {t : Tab β} (w : Tab.wfFrom d lo t = true) (k : Nat) (v : β) (h : lo ≤ k) :
    Tab.wfFrom d lo (Tab.put d t k v) = true := by
  induction t generalizing lo with
  | nil => by_cases hv : v = d k <;> simp [Tab.put, hv, Tab.wfFrom, h]
  | cons e t ih =>
    obtain ⟨i, x⟩ := e
    simp only [Tab.wfFrom, Bool.and_eq_true, decide_eq_true_eq] at w
    obtain ⟨⟨w1, w2⟩, w3⟩ := w
    by_cases h1 : k < i
    · by_cases hv : v = d k
      · simp only [Tab.put, h1, hv, if_true, Tab.wfFrom, Bool.and_eq_true, decide_eq_true_eq]; exact ⟨⟨w1, w2⟩, Tab.wfFrom_filter _ w3⟩
      · simp only [Tab.put, h1, hv, if_true, if_false, Tab.wfFrom, Bool.and_eq_true, decide_eq_true_eq]
        exact ⟨⟨h, hv⟩, ⟨by omega, w2⟩, w3⟩
    · by_cases h2 : k = i
      · subst h2
        by_cases hv : v = d k
        · simp only [Tab.put, Nat.lt_irrefl, hv, if_true, if_false]; exact Tab.wfFrom_mono (by omega) (Tab.wfFrom_filter _ w3)
        · simp only [Tab.put, Nat.lt_irrefl, hv, if_true, if_false, Tab.wfFrom, Bool.and_eq_true, decide_eq_true_eq]
          exact ⟨⟨h, hv⟩, w3⟩
      · simp only [Tab.put, h1, h2, if_false, Tab.wfFrom, Bool.and_eq_true, decide_eq_true_eq]
        exact ⟨⟨w1, w2⟩, ih w3 (by omega)⟩

/-- A write keeps the canonical form. -/
theorem Tab.wf_put {t : Tab β} (w : t.wf d = true) (k : Nat) (v : β) : (Tab.put d t k v).wf d = true := Tab.wfFrom_put w k v (Nat.zero_le k)

/-- A change of one entry keeps the canonical form. -/
theorem Tab.wf_mod {t : Tab β} (w : t.wf d = true) (k : Nat) (f : β → β) : (Tab.mod d t k f).wf d = true := Tab.wf_put w k _

/-- The empty table has the canonical form. -/
theorem Tab.wf_nil : Tab.wf d ([] : Tab β) = true := rfl

/-- Entries dropped: the canonical form stays. -/
theorem Tab.wf_keep {t : Tab β} (p : Nat → Bool) (w : t.wf d = true) : (Tab.keep p t).wf d = true := Tab.wfFrom_filter _ w

theorem Tab.wfFrom_each {lo : Nat} {t : Tab β} (f : β → β) (w : Tab.wfFrom d lo t = true) : Tab.wfFrom d lo (Tab.each d t f) = true := by
  induction t generalizing lo with
  | nil => rfl
  | cons e t ih =>
    obtain ⟨i, v⟩ := e
    simp only [Tab.wfFrom, Bool.and_eq_true, decide_eq_true_eq] at w
    have ht := ih w.2
    simp only [Tab.each] at ht ⊢
    by_cases hv : f v = d i
    · simp only [List.map_cons, List.filter, hv, ne_eq, not_true_eq_false, decide_false]
      exact Tab.wfFrom_mono (by omega) ht
    · simp only [List.map_cons, List.filter, hv, ne_eq, not_false_eq_true, decide_true, Tab.wfFrom, Bool.and_eq_true, decide_eq_true_eq]
      exact ⟨⟨w.1.1, trivial⟩, ht⟩

/-- Every listed entry changed: the canonical form stays. -/
theorem Tab.wf_each {t : Tab β} (f : β → β) (w : t.wf d = true) : (Tab.each d t f).wf d = true := Tab.wfFrom_each f w

end Sys2Proof.Machine
end

