-- ==== Sys2Proof/Laws/Bank.lean ====
section
/-! SUPPORT. The register bank: what a field reads after a field is written. -/

namespace Sys2Proof.Machine

theorem getBits_lt (v : Word) (lo w : Nat) : getBits v lo w < 2 ^ w := Nat.mod_lt _ (Nat.two_pow_pos w)

theorem testBit_getBits (v : Word) (lo w i : Nat) : (getBits v lo w).testBit i = (decide (i < w) && v.getLsbD (lo + i)) := by
  simp [getBits, Nat.testBit_mod_two_pow, Nat.testBit_div_two_pow, BitVec.getLsbD, Nat.add_comm]

theorem getLsbD_fieldMask (lo w i : Nat) : (fieldMask lo w).getLsbD i = (decide (i < 64) && decide (lo ≤ i) && decide (i < lo + w)) := by
  simp only [fieldMask, BitVec.getLsbD_ofNat, Nat.testBit_mul_two_pow, Nat.testBit_two_pow_sub_one]
  by_cases h : lo ≤ i
  · have e : (i - lo < w) = (i < lo + w) := by apply propext; omega
    simp [h, e]
  · simp [h]

theorem getLsbD_setBits (v : Word) (lo w x i : Nat) (hi : i < 64) :
    (setBits v lo w x).getLsbD i = if lo ≤ i ∧ i < lo + w then x.testBit (i - lo) else v.getLsbD i := by
  simp only [setBits, BitVec.getLsbD_or, BitVec.getLsbD_and, BitVec.getLsbD_not, getLsbD_fieldMask, BitVec.getLsbD_ofNat,
    Nat.testBit_mul_two_pow, Nat.testBit_mod_two_pow, hi, decide_true, Bool.true_and]
  by_cases h : lo ≤ i
  · by_cases h2 : i < lo + w
    · have : i - lo < w := by omega
      simp [h, h2, this]
    · have : ¬ i - lo < w := by omega
      simp [h, h2, this]
  · simp [h]

/-- The bits written read as written. -/
@[simp] theorem getBits_setBits_same (v : Word) (lo w x : Nat) (h : lo + w ≤ 64) : getBits (setBits v lo w x) lo w = x % 2 ^ w := by
  apply Nat.eq_of_testBit_eq
  intro i
  rw [testBit_getBits, Nat.testBit_mod_two_pow]
  by_cases hi : i < w
  · rw [getLsbD_setBits _ _ _ _ _ (by omega)]; simp [hi]
  · simp [hi]

/-- Bits of another field read as before. -/
theorem getBits_setBits_other (v : Word) (lo w x lo' w' : Nat) (h : lo' + w' ≤ lo ∨ lo + w ≤ lo') (h64 : lo' + w' ≤ 64) :
    getBits (setBits v lo w x) lo' w' = getBits v lo' w' := by
  apply Nat.eq_of_testBit_eq
  intro i
  rw [testBit_getBits, testBit_getBits]
  by_cases hi : i < w'
  · rw [getLsbD_setBits _ _ _ _ _ (by omega), if_neg (by omega)]
  · simp [hi]

namespace State

/-- A register written reads as written. -/
@[simp] theorem reg_setReg_same (s : State) (a : Nat) (v : Word) : (s.setReg a v).reg a = v := Tab.get_put_same _ _ _

/-- Every other register reads as before. -/
@[simp] theorem reg_setReg_other (s : State) {a b : Nat} (v : Word) (h : b ≠ a) : (s.setReg a v).reg b = s.reg b := Tab.get_put_other _ _ h

/-- A field written reads as written, cut to its width. -/
@[simp] theorem fld_setFld_same (s : State) (f : Fld) (v : Nat) (h : f.lo + f.w ≤ 64) : (s.setFld f v).fld f = v % 2 ^ f.w := by
  simp [fld, setFld, getBits_setBits_same _ _ _ _ h]

/-- A field of another register reads as before. -/
theorem fld_setFld_reg (s : State) (f g : Fld) (v : Nat) (h : g.addr ≠ f.addr) : (s.setFld f v).fld g = s.fld g := by
  simp [fld, setFld, reg_setReg_other _ _ h]

/-- Another field of the same register reads as before. -/
theorem fld_setFld_bits (s : State) (f g : Fld) (v : Nat) (h : g.lo + g.w ≤ f.lo ∨ f.lo + f.w ≤ g.lo) (h64 : g.lo + g.w ≤ 64) :
    (s.setFld f v).fld g = s.fld g := by
  by_cases ha : g.addr = f.addr
  · simp only [fld, setFld, ha, reg_setReg_same]; exact getBits_setBits_other _ _ _ _ _ _ h h64
  · exact fld_setFld_reg _ _ _ _ ha

/-- A field fits its width. -/
theorem fld_lt (s : State) (f : Fld) : s.fld f < 2 ^ f.w := getBits_lt _ _ _

/-- A field write that changes another register leaves this one. -/
theorem reg_setFld_other (s : State) (f : Fld) (v : Nat) {b : Nat} (h : b ≠ f.addr) : (s.setFld f v).reg b = s.reg b := reg_setReg_other _ _ h

/-- The register bank keeps its canonical form under a write. -/
theorem wf_setReg (s : State) (a : Nat) (v : Word) (h : s.regs.wf blockReset = true) : (s.setReg a v).regs.wf blockReset = true := Tab.wf_put h _ _

/-- A command's answer is a next state with the queue as it was. -/
theorem run_next (s : State) (f : State → State) : s.run f = .next { f s.start with pending := s.pending } := rfl

end State
end Sys2Proof.Machine
end

