-- ==== Sys2Proof/Laws/State.lean ====
section
/-! SUPPORT. One lemma per field per update of State: what the elementary updates leave as it was. -/

namespace Sys2Proof.Machine
namespace State

/-! ### `setReg` -/

@[simp] theorem mgt_setReg (s : State) (a : Nat) (v : Word) : (s.setReg a v).mgt = s.mgt := rfl
@[simp] theorem tim_setReg (s : State) (a : Nat) (v : Word) : (s.setReg a v).tim = s.tim := rfl
@[simp] theorem lnk_setReg (s : State) (a : Nat) (v : Word) : (s.setReg a v).lnk = s.lnk := rfl
@[simp] theorem ing_setReg (s : State) (a : Nat) (v : Word) : (s.setReg a v).ing = s.ing := rfl
@[simp] theorem aln_setReg (s : State) (a : Nat) (v : Word) : (s.setReg a v).aln = s.aln := rfl
@[simp] theorem exp_setReg (s : State) (a : Nat) (v : Word) : (s.setReg a v).exp = s.exp := rfl
@[simp] theorem trc_setReg (s : State) (a : Nat) (v : Word) : (s.setReg a v).trc = s.trc := rfl
@[simp] theorem img_setReg (s : State) (a : Nat) (v : Word) : (s.setReg a v).img = s.img := rfl
@[simp] theorem prevImg_setReg (s : State) (a : Nat) (v : Word) : (s.setReg a v).prevImg = s.prevImg := rfl
@[simp] theorem fea_setReg (s : State) (a : Nat) (v : Word) : (s.setReg a v).fea = s.fea := rfl
@[simp] theorem tre_setReg (s : State) (a : Nat) (v : Word) : (s.setReg a v).tre = s.tre := rfl
@[simp] theorem tst_setReg (s : State) (a : Nat) (v : Word) : (s.setReg a v).tst = s.tst := rfl
@[simp] theorem stw_setReg (s : State) (a : Nat) (v : Word) : (s.setReg a v).stw = s.stw := rfl
@[simp] theorem tdsp_setReg (s : State) (a : Nat) (v : Word) : (s.setReg a v).tdsp = s.tdsp := rfl
@[simp] theorem seqs_setReg (s : State) (a : Nat) (v : Word) : (s.setReg a v).seqs = s.seqs := rfl
@[simp] theorem vrd_setReg (s : State) (a : Nat) (v : Word) : (s.setReg a v).vrd = s.vrd := rfl
@[simp] theorem dig_setReg (s : State) (a : Nat) (v : Word) : (s.setReg a v).dig = s.dig := rfl
@[simp] theorem sto_setReg (s : State) (a : Nat) (v : Word) : (s.setReg a v).sto = s.sto := rfl
@[simp] theorem cod_setReg (s : State) (a : Nat) (v : Word) : (s.setReg a v).cod = s.cod := rfl
@[simp] theorem potiks_setReg (s : State) (a : Nat) (v : Word) : (s.setReg a v).potiks = s.potiks := rfl
@[simp] theorem out_setReg (s : State) (a : Nat) (v : Word) : (s.setReg a v).out = s.out := rfl
@[simp] theorem fresh_setReg (s : State) (a : Nat) (v : Word) : (s.setReg a v).fresh = s.fresh := rfl
@[simp] theorem pending_setReg (s : State) (a : Nat) (v : Word) : (s.setReg a v).pending = s.pending := rfl

/-! ### `setFld` -/

@[simp] theorem mgt_setFld (s : State) (f : Fld) (v : Nat) : (s.setFld f v).mgt = s.mgt := rfl
@[simp] theorem tim_setFld (s : State) (f : Fld) (v : Nat) : (s.setFld f v).tim = s.tim := rfl
@[simp] theorem lnk_setFld (s : State) (f : Fld) (v : Nat) : (s.setFld f v).lnk = s.lnk := rfl
@[simp] theorem ing_setFld (s : State) (f : Fld) (v : Nat) : (s.setFld f v).ing = s.ing := rfl
@[simp] theorem aln_setFld (s : State) (f : Fld) (v : Nat) : (s.setFld f v).aln = s.aln := rfl
@[simp] theorem exp_setFld (s : State) (f : Fld) (v : Nat) : (s.setFld f v).exp = s.exp := rfl
@[simp] theorem trc_setFld (s : State) (f : Fld) (v : Nat) : (s.setFld f v).trc = s.trc := rfl
@[simp] theorem img_setFld (s : State) (f : Fld) (v : Nat) : (s.setFld f v).img = s.img := rfl
@[simp] theorem prevImg_setFld (s : State) (f : Fld) (v : Nat) : (s.setFld f v).prevImg = s.prevImg := rfl
@[simp] theorem fea_setFld (s : State) (f : Fld) (v : Nat) : (s.setFld f v).fea = s.fea := rfl
@[simp] theorem tre_setFld (s : State) (f : Fld) (v : Nat) : (s.setFld f v).tre = s.tre := rfl
@[simp] theorem tst_setFld (s : State) (f : Fld) (v : Nat) : (s.setFld f v).tst = s.tst := rfl
@[simp] theorem stw_setFld (s : State) (f : Fld) (v : Nat) : (s.setFld f v).stw = s.stw := rfl
@[simp] theorem tdsp_setFld (s : State) (f : Fld) (v : Nat) : (s.setFld f v).tdsp = s.tdsp := rfl
@[simp] theorem seqs_setFld (s : State) (f : Fld) (v : Nat) : (s.setFld f v).seqs = s.seqs := rfl
@[simp] theorem vrd_setFld (s : State) (f : Fld) (v : Nat) : (s.setFld f v).vrd = s.vrd := rfl
@[simp] theorem dig_setFld (s : State) (f : Fld) (v : Nat) : (s.setFld f v).dig = s.dig := rfl
@[simp] theorem sto_setFld (s : State) (f : Fld) (v : Nat) : (s.setFld f v).sto = s.sto := rfl
@[simp] theorem cod_setFld (s : State) (f : Fld) (v : Nat) : (s.setFld f v).cod = s.cod := rfl
@[simp] theorem potiks_setFld (s : State) (f : Fld) (v : Nat) : (s.setFld f v).potiks = s.potiks := rfl
@[simp] theorem out_setFld (s : State) (f : Fld) (v : Nat) : (s.setFld f v).out = s.out := rfl
@[simp] theorem fresh_setFld (s : State) (f : Fld) (v : Nat) : (s.setFld f v).fresh = s.fresh := rfl
@[simp] theorem pending_setFld (s : State) (f : Fld) (v : Nat) : (s.setFld f v).pending = s.pending := rfl

/-! ### `addFld` -/

@[simp] theorem mgt_addFld (s : State) (f : Fld) (n : Nat) : (s.addFld f n).mgt = s.mgt := rfl
@[simp] theorem tim_addFld (s : State) (f : Fld) (n : Nat) : (s.addFld f n).tim = s.tim := rfl
@[simp] theorem lnk_addFld (s : State) (f : Fld) (n : Nat) : (s.addFld f n).lnk = s.lnk := rfl
@[simp] theorem ing_addFld (s : State) (f : Fld) (n : Nat) : (s.addFld f n).ing = s.ing := rfl
@[simp] theorem aln_addFld (s : State) (f : Fld) (n : Nat) : (s.addFld f n).aln = s.aln := rfl
@[simp] theorem exp_addFld (s : State) (f : Fld) (n : Nat) : (s.addFld f n).exp = s.exp := rfl
@[simp] theorem trc_addFld (s : State) (f : Fld) (n : Nat) : (s.addFld f n).trc = s.trc := rfl
@[simp] theorem img_addFld (s : State) (f : Fld) (n : Nat) : (s.addFld f n).img = s.img := rfl
@[simp] theorem prevImg_addFld (s : State) (f : Fld) (n : Nat) : (s.addFld f n).prevImg = s.prevImg := rfl
@[simp] theorem fea_addFld (s : State) (f : Fld) (n : Nat) : (s.addFld f n).fea = s.fea := rfl
@[simp] theorem tre_addFld (s : State) (f : Fld) (n : Nat) : (s.addFld f n).tre = s.tre := rfl
@[simp] theorem tst_addFld (s : State) (f : Fld) (n : Nat) : (s.addFld f n).tst = s.tst := rfl
@[simp] theorem stw_addFld (s : State) (f : Fld) (n : Nat) : (s.addFld f n).stw = s.stw := rfl
@[simp] theorem tdsp_addFld (s : State) (f : Fld) (n : Nat) : (s.addFld f n).tdsp = s.tdsp := rfl
@[simp] theorem seqs_addFld (s : State) (f : Fld) (n : Nat) : (s.addFld f n).seqs = s.seqs := rfl
@[simp] theorem vrd_addFld (s : State) (f : Fld) (n : Nat) : (s.addFld f n).vrd = s.vrd := rfl
@[simp] theorem dig_addFld (s : State) (f : Fld) (n : Nat) : (s.addFld f n).dig = s.dig := rfl
@[simp] theorem sto_addFld (s : State) (f : Fld) (n : Nat) : (s.addFld f n).sto = s.sto := rfl
@[simp] theorem cod_addFld (s : State) (f : Fld) (n : Nat) : (s.addFld f n).cod = s.cod := rfl
@[simp] theorem potiks_addFld (s : State) (f : Fld) (n : Nat) : (s.addFld f n).potiks = s.potiks := rfl
@[simp] theorem out_addFld (s : State) (f : Fld) (n : Nat) : (s.addFld f n).out = s.out := rfl
@[simp] theorem fresh_addFld (s : State) (f : Fld) (n : Nat) : (s.addFld f n).fresh = s.fresh := rfl
@[simp] theorem pending_addFld (s : State) (f : Fld) (n : Nat) : (s.addFld f n).pending = s.pending := rfl

/-! ### `incFld` -/

@[simp] theorem mgt_incFld (s : State) (f : Fld) : (s.incFld f).mgt = s.mgt := rfl
@[simp] theorem tim_incFld (s : State) (f : Fld) : (s.incFld f).tim = s.tim := rfl
@[simp] theorem lnk_incFld (s : State) (f : Fld) : (s.incFld f).lnk = s.lnk := rfl
@[simp] theorem ing_incFld (s : State) (f : Fld) : (s.incFld f).ing = s.ing := rfl
@[simp] theorem aln_incFld (s : State) (f : Fld) : (s.incFld f).aln = s.aln := rfl
@[simp] theorem exp_incFld (s : State) (f : Fld) : (s.incFld f).exp = s.exp := rfl
@[simp] theorem trc_incFld (s : State) (f : Fld) : (s.incFld f).trc = s.trc := rfl
@[simp] theorem img_incFld (s : State) (f : Fld) : (s.incFld f).img = s.img := rfl
@[simp] theorem prevImg_incFld (s : State) (f : Fld) : (s.incFld f).prevImg = s.prevImg := rfl
@[simp] theorem fea_incFld (s : State) (f : Fld) : (s.incFld f).fea = s.fea := rfl
@[simp] theorem tre_incFld (s : State) (f : Fld) : (s.incFld f).tre = s.tre := rfl
@[simp] theorem tst_incFld (s : State) (f : Fld) : (s.incFld f).tst = s.tst := rfl
@[simp] theorem stw_incFld (s : State) (f : Fld) : (s.incFld f).stw = s.stw := rfl
@[simp] theorem tdsp_incFld (s : State) (f : Fld) : (s.incFld f).tdsp = s.tdsp := rfl
@[simp] theorem seqs_incFld (s : State) (f : Fld) : (s.incFld f).seqs = s.seqs := rfl
@[simp] theorem vrd_incFld (s : State) (f : Fld) : (s.incFld f).vrd = s.vrd := rfl
@[simp] theorem dig_incFld (s : State) (f : Fld) : (s.incFld f).dig = s.dig := rfl
@[simp] theorem sto_incFld (s : State) (f : Fld) : (s.incFld f).sto = s.sto := rfl
@[simp] theorem cod_incFld (s : State) (f : Fld) : (s.incFld f).cod = s.cod := rfl
@[simp] theorem potiks_incFld (s : State) (f : Fld) : (s.incFld f).potiks = s.potiks := rfl
@[simp] theorem out_incFld (s : State) (f : Fld) : (s.incFld f).out = s.out := rfl
@[simp] theorem fresh_incFld (s : State) (f : Fld) : (s.incFld f).fresh = s.fresh := rfl
@[simp] theorem pending_incFld (s : State) (f : Fld) : (s.incFld f).pending = s.pending := rfl

/-! ### `emit` -/

@[simp] theorem regs_emit (s : State) (e : Emit) : (s.emit e).regs = s.regs := rfl
@[simp] theorem mgt_emit (s : State) (e : Emit) : (s.emit e).mgt = s.mgt := rfl
@[simp] theorem tim_emit (s : State) (e : Emit) : (s.emit e).tim = s.tim := rfl
@[simp] theorem lnk_emit (s : State) (e : Emit) : (s.emit e).lnk = s.lnk := rfl
@[simp] theorem ing_emit (s : State) (e : Emit) : (s.emit e).ing = s.ing := rfl
@[simp] theorem aln_emit (s : State) (e : Emit) : (s.emit e).aln = s.aln := rfl
@[simp] theorem exp_emit (s : State) (e : Emit) : (s.emit e).exp = s.exp := rfl
@[simp] theorem trc_emit (s : State) (e : Emit) : (s.emit e).trc = s.trc := rfl
@[simp] theorem img_emit (s : State) (e : Emit) : (s.emit e).img = s.img := rfl
@[simp] theorem prevImg_emit (s : State) (e : Emit) : (s.emit e).prevImg = s.prevImg := rfl
@[simp] theorem fea_emit (s : State) (e : Emit) : (s.emit e).fea = s.fea := rfl
@[simp] theorem tre_emit (s : State) (e : Emit) : (s.emit e).tre = s.tre := rfl
@[simp] theorem tst_emit (s : State) (e : Emit) : (s.emit e).tst = s.tst := rfl
@[simp] theorem stw_emit (s : State) (e : Emit) : (s.emit e).stw = s.stw := rfl
@[simp] theorem tdsp_emit (s : State) (e : Emit) : (s.emit e).tdsp = s.tdsp := rfl
@[simp] theorem seqs_emit (s : State) (e : Emit) : (s.emit e).seqs = s.seqs := rfl
@[simp] theorem vrd_emit (s : State) (e : Emit) : (s.emit e).vrd = s.vrd := rfl
@[simp] theorem dig_emit (s : State) (e : Emit) : (s.emit e).dig = s.dig := rfl
@[simp] theorem sto_emit (s : State) (e : Emit) : (s.emit e).sto = s.sto := rfl
@[simp] theorem cod_emit (s : State) (e : Emit) : (s.emit e).cod = s.cod := rfl
@[simp] theorem potiks_emit (s : State) (e : Emit) : (s.emit e).potiks = s.potiks := rfl
@[simp] theorem fresh_emit (s : State) (e : Emit) : (s.emit e).fresh = s.fresh := rfl
@[simp] theorem pending_emit (s : State) (e : Emit) : (s.emit e).pending = s.pending := rfl

/-! ### `start` -/

@[simp] theorem regs_start (s : State) : (s.start).regs = s.regs := rfl
@[simp] theorem mgt_start (s : State) : (s.start).mgt = s.mgt := rfl
@[simp] theorem tim_start (s : State) : (s.start).tim = s.tim := rfl
@[simp] theorem lnk_start (s : State) : (s.start).lnk = s.lnk := rfl
@[simp] theorem ing_start (s : State) : (s.start).ing = s.ing := rfl
@[simp] theorem aln_start (s : State) : (s.start).aln = s.aln := rfl
@[simp] theorem exp_start (s : State) : (s.start).exp = s.exp := rfl
@[simp] theorem trc_start (s : State) : (s.start).trc = s.trc := rfl
@[simp] theorem img_start (s : State) : (s.start).img = s.img := rfl
@[simp] theorem prevImg_start (s : State) : (s.start).prevImg = s.prevImg := rfl
@[simp] theorem fea_start (s : State) : (s.start).fea = s.fea := rfl
@[simp] theorem tre_start (s : State) : (s.start).tre = s.tre := rfl
@[simp] theorem tst_start (s : State) : (s.start).tst = s.tst := rfl
@[simp] theorem stw_start (s : State) : (s.start).stw = s.stw := rfl
@[simp] theorem tdsp_start (s : State) : (s.start).tdsp = s.tdsp := rfl
@[simp] theorem seqs_start (s : State) : (s.start).seqs = s.seqs := rfl
@[simp] theorem vrd_start (s : State) : (s.start).vrd = s.vrd := rfl
@[simp] theorem dig_start (s : State) : (s.start).dig = s.dig := rfl
@[simp] theorem sto_start (s : State) : (s.start).sto = s.sto := rfl
@[simp] theorem cod_start (s : State) : (s.start).cod = s.cod := rfl
@[simp] theorem potiks_start (s : State) : (s.start).potiks = s.potiks := rfl
@[simp] theorem fresh_start (s : State) : (s.start).fresh = s.fresh := rfl

@[simp] theorem out_emit (s : State) (e : Emit) : (s.emit e).out = s.out ++ [e] := rfl
@[simp] theorem out_start (s : State) : s.start.out = [] := rfl
@[simp] theorem pending_start (s : State) : s.start.pending = [] := rfl

@[simp] theorem regs_setIf (s : State) (c : Bool) (f : Fld) (v : Nat) : (s.setIf c f v).regs = if c then (s.setFld f v).regs else s.regs := by cases c <;> rfl
@[simp] theorem mgt_setIf (s : State) (c : Bool) (f : Fld) (v : Nat) : (s.setIf c f v).mgt = s.mgt := by cases c <;> rfl
@[simp] theorem tim_setIf (s : State) (c : Bool) (f : Fld) (v : Nat) : (s.setIf c f v).tim = s.tim := by cases c <;> rfl
@[simp] theorem lnk_setIf (s : State) (c : Bool) (f : Fld) (v : Nat) : (s.setIf c f v).lnk = s.lnk := by cases c <;> rfl
@[simp] theorem ing_setIf (s : State) (c : Bool) (f : Fld) (v : Nat) : (s.setIf c f v).ing = s.ing := by cases c <;> rfl
@[simp] theorem aln_setIf (s : State) (c : Bool) (f : Fld) (v : Nat) : (s.setIf c f v).aln = s.aln := by cases c <;> rfl
@[simp] theorem exp_setIf (s : State) (c : Bool) (f : Fld) (v : Nat) : (s.setIf c f v).exp = s.exp := by cases c <;> rfl
@[simp] theorem trc_setIf (s : State) (c : Bool) (f : Fld) (v : Nat) : (s.setIf c f v).trc = s.trc := by cases c <;> rfl
@[simp] theorem img_setIf (s : State) (c : Bool) (f : Fld) (v : Nat) : (s.setIf c f v).img = s.img := by cases c <;> rfl
@[simp] theorem prevImg_setIf (s : State) (c : Bool) (f : Fld) (v : Nat) : (s.setIf c f v).prevImg = s.prevImg := by cases c <;> rfl
@[simp] theorem fea_setIf (s : State) (c : Bool) (f : Fld) (v : Nat) : (s.setIf c f v).fea = s.fea := by cases c <;> rfl
@[simp] theorem tre_setIf (s : State) (c : Bool) (f : Fld) (v : Nat) : (s.setIf c f v).tre = s.tre := by cases c <;> rfl
@[simp] theorem tst_setIf (s : State) (c : Bool) (f : Fld) (v : Nat) : (s.setIf c f v).tst = s.tst := by cases c <;> rfl
@[simp] theorem stw_setIf (s : State) (c : Bool) (f : Fld) (v : Nat) : (s.setIf c f v).stw = s.stw := by cases c <;> rfl
@[simp] theorem tdsp_setIf (s : State) (c : Bool) (f : Fld) (v : Nat) : (s.setIf c f v).tdsp = s.tdsp := by cases c <;> rfl
@[simp] theorem seqs_setIf (s : State) (c : Bool) (f : Fld) (v : Nat) : (s.setIf c f v).seqs = s.seqs := by cases c <;> rfl
@[simp] theorem vrd_setIf (s : State) (c : Bool) (f : Fld) (v : Nat) : (s.setIf c f v).vrd = s.vrd := by cases c <;> rfl
@[simp] theorem dig_setIf (s : State) (c : Bool) (f : Fld) (v : Nat) : (s.setIf c f v).dig = s.dig := by cases c <;> rfl
@[simp] theorem sto_setIf (s : State) (c : Bool) (f : Fld) (v : Nat) : (s.setIf c f v).sto = s.sto := by cases c <;> rfl
@[simp] theorem cod_setIf (s : State) (c : Bool) (f : Fld) (v : Nat) : (s.setIf c f v).cod = s.cod := by cases c <;> rfl
@[simp] theorem potiks_setIf (s : State) (c : Bool) (f : Fld) (v : Nat) : (s.setIf c f v).potiks = s.potiks := by cases c <;> rfl
@[simp] theorem out_setIf (s : State) (c : Bool) (f : Fld) (v : Nat) : (s.setIf c f v).out = s.out := by cases c <;> rfl
@[simp] theorem fresh_setIf (s : State) (c : Bool) (f : Fld) (v : Nat) : (s.setIf c f v).fresh = s.fresh := by cases c <;> rfl
@[simp] theorem pending_setIf (s : State) (c : Bool) (f : Fld) (v : Nat) : (s.setIf c f v).pending = s.pending := by cases c <;> rfl

/-! ### Registers under updates of other fields -/

@[simp] theorem reg_with_mgt (s : State) (x : Mgt) (a : Nat) : ({ s with mgt := x } : State).reg a = s.reg a := rfl
@[simp] theorem fld_with_mgt (s : State) (x : Mgt) (f : Fld) : ({ s with mgt := x } : State).fld f = s.fld f := rfl
@[simp] theorem flag_with_mgt (s : State) (x : Mgt) (f : Fld) : ({ s with mgt := x } : State).flag f = s.flag f := rfl
@[simp] theorem reg_with_tim (s : State) (x : Tim) (a : Nat) : ({ s with tim := x } : State).reg a = s.reg a := rfl
@[simp] theorem fld_with_tim (s : State) (x : Tim) (f : Fld) : ({ s with tim := x } : State).fld f = s.fld f := rfl
@[simp] theorem flag_with_tim (s : State) (x : Tim) (f : Fld) : ({ s with tim := x } : State).flag f = s.flag f := rfl
@[simp] theorem reg_with_lnk (s : State) (x : Lnk) (a : Nat) : ({ s with lnk := x } : State).reg a = s.reg a := rfl
@[simp] theorem fld_with_lnk (s : State) (x : Lnk) (f : Fld) : ({ s with lnk := x } : State).fld f = s.fld f := rfl
@[simp] theorem flag_with_lnk (s : State) (x : Lnk) (f : Fld) : ({ s with lnk := x } : State).flag f = s.flag f := rfl
@[simp] theorem reg_with_ing (s : State) (x : Ing) (a : Nat) : ({ s with ing := x } : State).reg a = s.reg a := rfl
@[simp] theorem fld_with_ing (s : State) (x : Ing) (f : Fld) : ({ s with ing := x } : State).fld f = s.fld f := rfl
@[simp] theorem flag_with_ing (s : State) (x : Ing) (f : Fld) : ({ s with ing := x } : State).flag f = s.flag f := rfl
@[simp] theorem reg_with_aln (s : State) (x : Aln) (a : Nat) : ({ s with aln := x } : State).reg a = s.reg a := rfl
@[simp] theorem fld_with_aln (s : State) (x : Aln) (f : Fld) : ({ s with aln := x } : State).fld f = s.fld f := rfl
@[simp] theorem flag_with_aln (s : State) (x : Aln) (f : Fld) : ({ s with aln := x } : State).flag f = s.flag f := rfl
@[simp] theorem reg_with_exp (s : State) (x : Exp) (a : Nat) : ({ s with exp := x } : State).reg a = s.reg a := rfl
@[simp] theorem fld_with_exp (s : State) (x : Exp) (f : Fld) : ({ s with exp := x } : State).fld f = s.fld f := rfl
@[simp] theorem flag_with_exp (s : State) (x : Exp) (f : Fld) : ({ s with exp := x } : State).flag f = s.flag f := rfl
@[simp] theorem reg_with_trc (s : State) (x : Trc) (a : Nat) : ({ s with trc := x } : State).reg a = s.reg a := rfl
@[simp] theorem fld_with_trc (s : State) (x : Trc) (f : Fld) : ({ s with trc := x } : State).fld f = s.fld f := rfl
@[simp] theorem flag_with_trc (s : State) (x : Trc) (f : Fld) : ({ s with trc := x } : State).flag f = s.flag f := rfl
@[simp] theorem reg_with_img (s : State) (x : Option Image) (a : Nat) : ({ s with img := x } : State).reg a = s.reg a := rfl
@[simp] theorem fld_with_img (s : State) (x : Option Image) (f : Fld) : ({ s with img := x } : State).fld f = s.fld f := rfl
@[simp] theorem flag_with_img (s : State) (x : Option Image) (f : Fld) : ({ s with img := x } : State).flag f = s.flag f := rfl
@[simp] theorem reg_with_prevImg (s : State) (x : Option (Nat × Image)) (a : Nat) : ({ s with prevImg := x } : State).reg a = s.reg a := rfl
@[simp] theorem fld_with_prevImg (s : State) (x : Option (Nat × Image)) (f : Fld) : ({ s with prevImg := x } : State).fld f = s.fld f := rfl
@[simp] theorem flag_with_prevImg (s : State) (x : Option (Nat × Image)) (f : Fld) : ({ s with prevImg := x } : State).flag f = s.flag f := rfl
@[simp] theorem reg_with_fea (s : State) (x : Fea) (a : Nat) : ({ s with fea := x } : State).reg a = s.reg a := rfl
@[simp] theorem fld_with_fea (s : State) (x : Fea) (f : Fld) : ({ s with fea := x } : State).fld f = s.fld f := rfl
@[simp] theorem flag_with_fea (s : State) (x : Fea) (f : Fld) : ({ s with fea := x } : State).flag f = s.flag f := rfl
@[simp] theorem reg_with_tre (s : State) (x : Tre) (a : Nat) : ({ s with tre := x } : State).reg a = s.reg a := rfl
@[simp] theorem fld_with_tre (s : State) (x : Tre) (f : Fld) : ({ s with tre := x } : State).fld f = s.fld f := rfl
@[simp] theorem flag_with_tre (s : State) (x : Tre) (f : Fld) : ({ s with tre := x } : State).flag f = s.flag f := rfl
@[simp] theorem reg_with_tst (s : State) (x : Tst) (a : Nat) : ({ s with tst := x } : State).reg a = s.reg a := rfl
@[simp] theorem fld_with_tst (s : State) (x : Tst) (f : Fld) : ({ s with tst := x } : State).fld f = s.fld f := rfl
@[simp] theorem flag_with_tst (s : State) (x : Tst) (f : Fld) : ({ s with tst := x } : State).flag f = s.flag f := rfl
@[simp] theorem reg_with_stw (s : State) (x : Stw) (a : Nat) : ({ s with stw := x } : State).reg a = s.reg a := rfl
@[simp] theorem fld_with_stw (s : State) (x : Stw) (f : Fld) : ({ s with stw := x } : State).fld f = s.fld f := rfl
@[simp] theorem flag_with_stw (s : State) (x : Stw) (f : Fld) : ({ s with stw := x } : State).flag f = s.flag f := rfl
@[simp] theorem reg_with_tdsp (s : State) (x : Tdsp) (a : Nat) : ({ s with tdsp := x } : State).reg a = s.reg a := rfl
@[simp] theorem fld_with_tdsp (s : State) (x : Tdsp) (f : Fld) : ({ s with tdsp := x } : State).fld f = s.fld f := rfl
@[simp] theorem flag_with_tdsp (s : State) (x : Tdsp) (f : Fld) : ({ s with tdsp := x } : State).flag f = s.flag f := rfl
@[simp] theorem reg_with_seqs (s : State) (x : Tab Seq) (a : Nat) : ({ s with seqs := x } : State).reg a = s.reg a := rfl
@[simp] theorem fld_with_seqs (s : State) (x : Tab Seq) (f : Fld) : ({ s with seqs := x } : State).fld f = s.fld f := rfl
@[simp] theorem flag_with_seqs (s : State) (x : Tab Seq) (f : Fld) : ({ s with seqs := x } : State).flag f = s.flag f := rfl
@[simp] theorem reg_with_vrd (s : State) (x : Vrd) (a : Nat) : ({ s with vrd := x } : State).reg a = s.reg a := rfl
@[simp] theorem fld_with_vrd (s : State) (x : Vrd) (f : Fld) : ({ s with vrd := x } : State).fld f = s.fld f := rfl
@[simp] theorem flag_with_vrd (s : State) (x : Vrd) (f : Fld) : ({ s with vrd := x } : State).flag f = s.flag f := rfl
@[simp] theorem reg_with_dig (s : State) (x : Dig) (a : Nat) : ({ s with dig := x } : State).reg a = s.reg a := rfl
@[simp] theorem fld_with_dig (s : State) (x : Dig) (f : Fld) : ({ s with dig := x } : State).fld f = s.fld f := rfl
@[simp] theorem flag_with_dig (s : State) (x : Dig) (f : Fld) : ({ s with dig := x } : State).flag f = s.flag f := rfl
@[simp] theorem reg_with_sto (s : State) (x : Sto) (a : Nat) : ({ s with sto := x } : State).reg a = s.reg a := rfl
@[simp] theorem fld_with_sto (s : State) (x : Sto) (f : Fld) : ({ s with sto := x } : State).fld f = s.fld f := rfl
@[simp] theorem flag_with_sto (s : State) (x : Sto) (f : Fld) : ({ s with sto := x } : State).flag f = s.flag f := rfl
@[simp] theorem reg_with_cod (s : State) (x : Cod) (a : Nat) : ({ s with cod := x } : State).reg a = s.reg a := rfl
@[simp] theorem fld_with_cod (s : State) (x : Cod) (f : Fld) : ({ s with cod := x } : State).fld f = s.fld f := rfl
@[simp] theorem flag_with_cod (s : State) (x : Cod) (f : Fld) : ({ s with cod := x } : State).flag f = s.flag f := rfl
@[simp] theorem reg_with_potiks (s : State) (x : Tab Potik) (a : Nat) : ({ s with potiks := x } : State).reg a = s.reg a := rfl
@[simp] theorem fld_with_potiks (s : State) (x : Tab Potik) (f : Fld) : ({ s with potiks := x } : State).fld f = s.fld f := rfl
@[simp] theorem flag_with_potiks (s : State) (x : Tab Potik) (f : Fld) : ({ s with potiks := x } : State).flag f = s.flag f := rfl
@[simp] theorem reg_with_out (s : State) (x : List Emit) (a : Nat) : ({ s with out := x } : State).reg a = s.reg a := rfl
@[simp] theorem fld_with_out (s : State) (x : List Emit) (f : Fld) : ({ s with out := x } : State).fld f = s.fld f := rfl
@[simp] theorem flag_with_out (s : State) (x : List Emit) (f : Fld) : ({ s with out := x } : State).flag f = s.flag f := rfl
@[simp] theorem reg_with_fresh (s : State) (x : Nat) (a : Nat) : ({ s with fresh := x } : State).reg a = s.reg a := rfl
@[simp] theorem fld_with_fresh (s : State) (x : Nat) (f : Fld) : ({ s with fresh := x } : State).fld f = s.fld f := rfl
@[simp] theorem flag_with_fresh (s : State) (x : Nat) (f : Fld) : ({ s with fresh := x } : State).flag f = s.flag f := rfl
@[simp] theorem reg_with_pending (s : State) (x : List Instr) (a : Nat) : ({ s with pending := x } : State).reg a = s.reg a := rfl
@[simp] theorem fld_with_pending (s : State) (x : List Instr) (f : Fld) : ({ s with pending := x } : State).fld f = s.fld f := rfl
@[simp] theorem flag_with_pending (s : State) (x : List Instr) (f : Fld) : ({ s with pending := x } : State).flag f = s.flag f := rfl
@[simp] theorem reg_emit (s : State) (e : Emit) (a : Nat) : (s.emit e).reg a = s.reg a := rfl
@[simp] theorem fld_emit (s : State) (e : Emit) (f : Fld) : (s.emit e).fld f = s.fld f := rfl
@[simp] theorem flag_emit (s : State) (e : Emit) (f : Fld) : (s.emit e).flag f = s.flag f := rfl
@[simp] theorem reg_start (s : State)(a : Nat) : (s.start).reg a = s.reg a := rfl
@[simp] theorem fld_start (s : State)  (f : Fld) : (s.start).fld f = s.fld f := rfl
@[simp] theorem flag_start (s : State)  (f : Fld) : (s.start).flag f = s.flag f := rfl

end State
end Sys2Proof.Machine
end

