-- ==== Sys2Proof/Laws/Ops.lean ====
section
/-! SUPPORT. The operations that many commands share: each changes nothing but what messages and counts leave (`State.onlyMessages`),
said once per operation; and what the shared store reads after a write. -/

namespace Sys2Proof.Machine
namespace State

/-! ### Frames compose -/

theorem onlyMessages.refl (s : State) : s.onlyMessages s := ⟨fun _ _ => rfl, rfl⟩

theorem onlyMessages.trans {s t u : State} (h : s.onlyMessages t) (k : t.onlyMessages u) : s.onlyMessages u := by
  refine ⟨fun a ha => (k.1 a ha).trans (h.1 a ha), ?_⟩
  rw [k.2, h.2]

/-- A field outside the ledger registers reads as before. -/
theorem onlyMessages.fld {s t : State} (h : s.onlyMessages t) {f : Fld} (hf : ledger f.addr = false) : t.fld f = s.fld f := by
  simp only [State.fld, h.1 _ hf]

theorem onlyMessages.flag {s t : State} (h : s.onlyMessages t) {f : Fld} (hf : ledger f.addr = false) : t.flag f = s.flag f := by
  simp only [State.flag, h.fld hf]

theorem onlyMessages.toAnd {s t : State} (h : s.onlyMessages t) (fs : List Fld) : s.onlyMessagesAnd fs t :=
  ⟨fun _ _ hl _ => h.fld hl, h.2⟩

theorem onlyMessagesAnd.refl (s : State) (fs : List Fld) : s.onlyMessagesAnd fs s := (onlyMessages.refl s).toAnd fs

theorem onlyMessagesAnd.trans {s t u : State} {fs : List Fld} (h : s.onlyMessagesAnd fs t) (k : t.onlyMessagesAnd fs u) :
    s.onlyMessagesAnd fs u := by
  refine ⟨fun g h64 hl hg => (k.1 g h64 hl hg).trans (h.1 g h64 hl hg), ?_⟩
  rw [k.2, h.2]

/-- One of the named fields written. -/
theorem onlyMessagesAnd.setFld {s t : State} {fs : List Fld} (h : s.onlyMessagesAnd fs t) {f : Fld} (v : Nat) (hf : f ∈ fs) :
    s.onlyMessagesAnd fs (t.setFld f v) := by
  refine ⟨fun g h64 hl hg => ?_, ?_⟩
  · rw [← h.1 g h64 hl hg]
    rcases hg f hf with h1 | h1 | h1
    · exact fld_setFld_reg _ _ _ _ h1
    · exact fld_setFld_bits _ _ _ _ (Or.inl h1) h64
    · exact fld_setFld_bits _ _ _ _ (Or.inr h1) h64
  · have := h.2
    rw [this]; rfl

theorem onlyMessagesAnd.then {s t u : State} {fs : List Fld} (h : s.onlyMessagesAnd fs t) (k : t.onlyMessages u) : s.onlyMessagesAnd fs u :=
  h.trans (k.toAnd fs)

theorem onlyFields.refl (s : State) (fs : List Fld) : s.onlyFields fs s := fun _ _ _ => rfl

/-- One of the named fields written. -/
theorem onlyFields.setFld {s t : State} {fs : List Fld} (h : s.onlyFields fs t) {f : Fld} (v : Nat) (hf : f ∈ fs) :
    s.onlyFields fs (t.setFld f v) := by
  intro g h64 hg
  rw [← h g h64 hg]
  rcases hg f hf with h1 | h1 | h1
  · exact fld_setFld_reg _ _ _ _ h1
  · exact fld_setFld_bits _ _ _ _ (Or.inl h1) h64
  · exact fld_setFld_bits _ _ _ _ (Or.inr h1) h64

theorem onlyFields.trans {s t u : State} {fs : List Fld} (h : s.onlyFields fs t) (k : t.onlyFields fs u) : s.onlyFields fs u :=
  fun g h64 hg => (k g h64 hg).trans (h g h64 hg)

/-! ### Register writes in the ledger -/

theorem om_setReg (s : State) {a : Nat} (v : Word) (h : ledger a = true) : s.onlyMessages (s.setReg a v) := by
  refine ⟨fun b hb => reg_setReg_other _ _ ?_, rfl⟩
  rintro rfl; rw [h] at hb; cases hb

theorem om_setFld (s : State) {f : Fld} (v : Nat) (h : ledger f.addr = true) : s.onlyMessages (s.setFld f v) := om_setReg _ _ h

theorem om_addFld (s : State) {f : Fld} (v : Nat) (h : ledger f.addr = true) : s.onlyMessages (s.addFld f v) := om_setReg _ _ h

theorem om_incFld (s : State) {f : Fld} (h : ledger f.addr = true) : s.onlyMessages (s.incFld f) := om_setReg _ _ h

theorem om_emit (s : State) (e : Emit) : s.onlyMessages (s.emit e) := ⟨fun _ _ => rfl, rfl⟩

theorem om_exp (s : State) (x : Exp) : s.onlyMessages { s with exp := x } := ⟨fun _ _ => rfl, rfl⟩

theorem om_trc (s : State) (x : Trc) : s.onlyMessages { s with trc := x } := ⟨fun _ _ => rfl, rfl⟩

/-- A change made at every element of a list. -/
theorem om_foldl {α : Type} (f : State → α → State) (l : List α) (h : ∀ (s : State) (x : α), x ∈ l → s.onlyMessages (f s x)) (s : State) :
    s.onlyMessages (l.foldl f s) := by
  induction l generalizing s with
  | nil => exact .refl s
  | cons x l ih => exact (h s x (by simp)).trans (ih (fun s y hy => h s y (by simp [hy])) _)

theorem ledger_pend (n : Nat) : ledger (F.INT_PEND_ERR.at n).addr = true := by
  have : (48 + n * 524288) % 524288 = 48 := by omega
  simp [ledger, Fld.at, this]

theorem ledger_pmc (n k o : Nat) (hk : k < 8) (ho : o = 0x58 ∨ o = 0x98) : ledger (o + 8 * k + n * 0x80000) = true := by
  have h : (o + 8 * k + n * 0x80000) % 0x80000 = o + 8 * k := by omega
  have h1 : 0x58 ≤ o + 8 * k := by omega
  have h2 : o + 8 * k < 0xD8 := by omega
  simp only [ledger, h, decide_eq_true h1, decide_eq_true h2]
  simp

theorem ledger_route (k : Nat) : ledger (F.MGT_ROUTE_DATA_DROPS.at k).addr = true := by
  have : (5128 + k * 67108864) % 67108864 = 5128 := by omega
  simp [ledger, Fld.at, this]

/-- The registers of EXP and TRC, and the entries of their windows. -/
theorem ledger_own (o k st : Nat) (h : 0x601000 ≤ o ∧ o < 0x700000) (ho : 0x1000 ≤ o % 0x80000) (hst : st = 0x4000000) :
    ledger (o + k * st) = true := by
  subst hst
  have h1 : (o + k * 0x4000000) % 0x4000000 = o := by omega
  have h2 : (o + k * 0x4000000) % 0x80000 = o % 0x80000 := by omega
  have h3 : o / 0x80000 = 12 ∨ o / 0x80000 = 13 := by omega
  simp only [ledger, h1, h2, decide_eq_true ho]
  rcases h3 with h | h <;> simp [h]

/-! ### The shared operations -/

theorem om_offer (s : State) (n : Nat) (b : Word) : s.onlyMessages (s.offer n b) := by
  unfold offer; split
  · exact ⟨fun _ _ => rfl, rfl⟩
  · exact .refl s

theorem om_pend (s : State) (n b : Nat) : s.onlyMessages (s.pend n b) := (om_setReg _ _ (ledger_pend n)).trans (om_offer _ _ _)

theorem om_pmcAdd (s : State) (n k m : Nat) (hk : k < 8) : s.onlyMessages (s.pmcAdd n k m) := by
  have h1 : ledger (pmcField n k F.PMC_VALUE).addr = true := ledger_pmc n k _ hk (Or.inl rfl)
  have h2 : ledger (pmcField n k F.PMSEL_OVF).addr = true := ledger_pmc n k _ hk (Or.inr rfl)
  simp only [pmcAdd]
  split
  · exact om_setFld _ _ h1
  · split
    · exact ((om_setFld _ _ h1).trans (om_setFld _ _ h2)).trans (om_pend _ _ _)
    · exact (om_setFld _ _ h1).trans (om_setFld _ _ h2)

theorem om_perf (s : State) (n ev m : Nat) : s.onlyMessages (s.perf n ev m) := by
  unfold perf; split
  · exact .refl s
  · refine om_foldl _ _ (fun s k hk => ?_) s
    split
    · exact om_pmcAdd _ _ _ _ (List.mem_range.1 hk)
    · exact .refl s

theorem om_routeDrop (s : State) (a b c d : Nat) : s.onlyMessages (s.routeDrop a b c d) := by
  unfold routeDrop; split
  · exact om_incFld _ (ledger_route _)
  · exact .refl s

theorem om_setQueue (s : State) (d c : Nat) (q : EQueue) : s.onlyMessages (s.setQueue d c q) := om_exp _ _

theorem om_loseAt (s : State) (d : Nat) (rs : List Rec) : s.onlyMessages (s.loseAt d rs) := om_exp _ _

theorem om_makeRoom (d c n fuel : Nat) (s : State) : s.onlyMessages (makeRoom d c n fuel s) := by
  induction fuel generalizing s with
  | zero => exact .refl s
  | succ fuel ih =>
    simp only [makeRoom]
    split
    · exact .refl s
    · split
      · exact .refl s
      · refine .trans ?_ (ih _)
        exact ((om_setQueue _ _ _ _).trans (om_loseAt _ _ _)).trans (om_addFld _ _ (ledger_own _ d _ (by decide) (by decide) rfl))

theorem om_pushQueue (s : State) (d c : Nat) (r : Rec) : s.onlyMessages (s.pushQueue d c r) := by
  unfold pushQueue; dsimp only; split <;> exact om_setQueue _ _ _ _

theorem om_joinQueue (s : State) (d : Nat) (r : Rec) : s.onlyMessages (s.joinQueue d r) := by
  have h1 : ledger (F.EXP_DEST_CNT_HOLD_DROP.at d).addr = true := ledger_own _ d _ (by decide) (by decide) rfl
  have h2 : ledger (F.EXP_DEST_CNT_QUEUE_DROP.at d).addr = true := ledger_own _ d _ (by decide) (by decide) rfl
  unfold joinQueue; dsimp only; split
  · refine (om_makeRoom d (r.cls - 8) r.size ((s.queue d (r.cls - 8)).recs.length + 1) s).trans ?_
    split
    · exact om_pushQueue _ _ _ _
    · exact (om_loseAt _ _ _).trans (om_incFld _ h1)
  · generalize (if (r.type == 0x0B) = true then 0 else markerSize) = k
    split
    · exact om_pushQueue _ _ _ _
    · exact (om_loseAt _ _ _).trans (om_incFld _ h2)

theorem om_toExp (s : State) (n : Nat) (r : Rec) : s.onlyMessages (s.toExp n r) := by
  unfold toExp; split
  · exact .refl s
  · split
    · exact om_routeDrop _ _ _ _ _
    · split
      · exact om_incFld _ (by decide)
      · exact om_foldl _ _ (fun s d _ => om_joinQueue s d r) s

theorem om_mkRec (s : State) (n ty c src fl : Nat) (b : Bytes) : s.onlyMessages (s.mkRec n ty c src fl b).2 := om_exp _ _

theorem om_send (s : State) (n ty c src fl : Nat) (b : Bytes) : s.onlyMessages (s.send n ty c src fl b) :=
  (om_mkRec s n ty c src fl b).trans (om_toExp _ _ _)

theorem om_sendTo (s : State) (n : Nat) (dst : List Nat) (ty c src fl : Nat) (b : Bytes) : s.onlyMessages (s.sendTo n dst ty c src fl b) := by
  refine (om_mkRec s n ty c src fl b).trans ?_
  unfold sendTo; dsimp only; split
  · exact .refl _
  · split
    · exact om_emit _ _
    · exact (om_emit _ _).trans (om_toExp _ _ _)

theorem om_event (s : State) (n code subj cnt : Nat) (p : Bytes) : s.onlyMessages (s.event n code subj cnt p) := om_send _ _ _ _ _ _ _

theorem om_ctrl (s : State) (l : List CtrlReq) (n : Nat) : s.onlyMessages { s with stw := { s.stw with ctrl := l, nextTag := n } } :=
  ⟨fun _ _ => rfl, rfl⟩

theorem om_sendControl (s : State) (q : CtrlReq) : s.onlyMessages (s.sendControl q) := om_sendTo _ _ _ _ _ _ _ _

theorem om_control (s : State) (die : Nat) (body : CtrlBody) (why : CtrlFor) : s.onlyMessages (s.control die body why) := by
  unfold control; exact (om_ctrl s _ _).trans (om_sendControl _ _)

theorem om_ctrlWrite (s : State) (die : Nat) (ws : List (Nat × Nat)) (why : CtrlFor) : s.onlyMessages (s.ctrlWrite die ws why) :=
  om_control _ _ _ _

theorem om_sendBroadcast (s : State) (dst : List Nat) (b : Bytes) : s.onlyMessages (s.sendBroadcast dst b) := by
  unfold sendBroadcast; split
  · exact .refl s
  · exact om_sendTo _ _ _ _ _ _ _ _

theorem om_sendAck (s : State) (dst : List Nat) (k st fl g c h : Nat) : s.onlyMessages (s.sendAck dst k st fl g c h) := by
  unfold sendAck; split
  · exact .refl s
  · exact om_sendTo _ _ _ _ _ _ _ _

/-! ### Trace messages and triggers -/

theorem ledger_src (n : Nat) (f : Fld) (h : f.addr = F.TRC_SRC_DATA_LOST.addr) (hs : f.step = 0x4000000) : ledger (f.at n).addr = true := by
  simp only [Fld.at, h, hs]; exact ledger_own _ n _ (by decide) (by decide) rfl

theorem om_fifoLoss (s : State) (n : Nat) : s.onlyMessages (s.fifoLoss n) := by
  have h := ledger_own F.TRC_SRC_DATA_LOST.addr n _ (by decide) (by decide) rfl
  exact ((om_incFld s h).trans (om_perf _ _ _ _)).trans (om_trc _ _)

theorem om_trace (s : State) (n code : Nat) (p : Bytes) : s.onlyMessages (s.trace n code p) := by
  have h : ledger (F.TRC_SRC_DATA_NEXT_ISEQ.at n).addr = true := ledger_own _ n _ (by decide) (by decide) rfl
  unfold trace; split
  · exact .refl s
  · dsimp only
    split
    · exact (om_setFld _ _ h).trans (om_trc _ _)
    · exact (om_setFld _ _ h).trans (om_fifoLoss _ _)

theorem om_freezeTrace (s : State) : s.onlyMessages s.freezeTrace := by
  unfold freezeTrace; split
  · exact om_setFld _ _ (by decide)
  · exact .refl s

theorem om_frozenLoss (s : State) (e : TrcEntry) : s.onlyMessages (s.frozenLoss e) := (om_incFld s (by decide)).trans (om_trc _ _)

theorem om_noteEntry (s : State) (e : TrcEntry) : s.onlyMessages (s.noteEntry e) := om_trc _ _

theorem om_storeEntry (s : State) (e : TrcEntry) : s.onlyMessages (s.storeEntry e) := by
  unfold storeEntry; split
  · exact om_trc _ _
  · split
    · exact om_trc _ _
    · exact (om_freezeTrace _).trans (om_frozenLoss _ _)
  · exact om_frozenLoss _ _
  · exact .refl _

theorem om_acceptEntry (s : State) (e : TrcEntry) : s.onlyMessages (s.acceptEntry e) :=
  ((om_noteEntry _ _).trans (om_perf _ _ _ _)).trans (om_storeEntry _ _)

theorem om_boost (s : State) : s.onlyMessages s.boost := (om_setFld s 1 (by decide)).trans (om_trc _ _)

theorem om_snapRequest (s : State) (e : Nat) : s.onlyMessages (s.snapRequest e) := by
  unfold snapRequest; split
  · exact om_setFld _ _ (by decide)
  · dsimp only
    split
    · exact ((om_setFld _ _ (by decide)).trans (om_setFld _ _ (by decide))).trans (om_foldl _ _ (fun s d _ => om_ctrlWrite s d _ _) _)
    · exact (om_setFld _ _ (by decide)).trans (om_setFld _ _ (by decide))

theorem om_startCapture (s : State) (src : Nat) : s.onlyMessages (s.startCapture src) := by
  unfold startCapture; dsimp only
  refine .trans (.trans (.trans ?_ (om_setFld _ _ (by decide))) (om_setFld _ _ (by decide))) (om_boost _)
  refine .trans (.trans (.trans (.trans (om_trc s _) (om_setFld _ _ (by decide))) (om_setFld _ _ (by decide))) (om_setFld _ _ (by decide))) (om_setFld _ _ (by decide))

theorem om_crossTrigger (s : State) : s.onlyMessages s.crossTrigger := by
  unfold crossTrigger; split
  · exact om_foldl _ _ (fun s d _ => om_ctrlWrite s d _ _) s
  · exact .refl s

theorem om_snapOnTrigger (s : State) : s.onlyMessages s.snapOnTrigger := by
  unfold snapOnTrigger; split
  · exact om_snapRequest _ _
  · exact .refl s

theorem om_fireTrigger (s : State) (src isl : Nat) : s.onlyMessages (s.fireTrigger src isl) := by
  unfold fireTrigger; split
  · exact .refl s
  · split
    · exact ((om_startCapture _ _).trans (om_crossTrigger _)).trans (om_snapOnTrigger _)
    · split
      · exact om_incFld _ (by decide)
      · exact .refl s

theorem om_popEntry (s : State) (n : Nat) (l : List TrcEntry) : s.onlyMessages (s.popEntry n l) := om_trc _ _

theorem om_serveEntry (s : State) (e : TrcEntry) : s.onlyMessages (s.serveEntry e) := by
  unfold serveEntry; split
  · exact (om_acceptEntry _ _).trans (om_fireTrigger _ _ _)
  · exact om_acceptEntry _ _

theorem om_acceptEntries (fuel : Nat) (s : State) : s.onlyMessages (acceptEntries fuel s) := by
  induction fuel generalizing s with
  | zero => exact .refl s
  | succ fuel ih =>
    unfold acceptEntries; split
    · exact .refl s
    · split
      · exact .refl s
      · split
        · exact .refl s
        · exact ((om_popEntry _ _ _).trans (om_serveEntry _ _)).trans (ih _)

theorem om_drainTrace (s : State) : s.onlyMessages s.drainTrace := om_acceptEntries _ _

theorem om_trigger (s : State) (src isl : Nat) : s.onlyMessages (s.trigger src isl) := by
  unfold trigger; split
  · exact (om_drainTrace _).trans (om_fireTrigger _ _ _)
  · exact .refl s

theorem om_roleChanged (s : State) : s.onlyMessages s.roleChanged := (om_trace _ _ _ _).trans (om_trigger _ _ _)

end State
end Sys2Proof.Machine
end

