-- ==== Sys2Proof/Laws/Step.lean ====
section
/-! SUPPORT. What every command does to the queue: nothing. -/

namespace Sys2Proof.Machine

/-- Every command's answer is its effect run on the state without what it may not see (`State.run`). -/
theorem exec_run (c : Instr) : ∃ f, ∀ s : State, exec c s = s.run f := by
  unfold exec
  cases c <;> exact ⟨_, fun _ => rfl⟩

/-- Steps taken one after another. -/
theorem Runs.trans {m n : Nat} {s t u : State} (h : Runs m s t) (k : Runs n t u) : Runs (m + n) s u := by
  induction m generalizing s with
  | zero => rw [Nat.zero_add]; simp only [Runs] at h; rw [← h]; exact k
  | succ m ih =>
    obtain ⟨v, h1, h2⟩ := h
    rw [Nat.succ_add]; exact ⟨v, h1, ih h2⟩

end Sys2Proof.Machine
end

