-- ==== Sys2Proof/Tests/Slice0.lean ====
section
/-! SUPPORT. Small tests: ill-formed commands, worked examples of the spec, and for each statement with hypotheses states and operands that
meet them. -/

namespace Sys2Proof.Tests

open Sys2Proof.Machine Sys2Proof.Machine.State

/-- The machine after reset. -/
abbrev r0 : State := State.reset

/-- `s` with fields set. -/
def put (s : State) (fs : List (Fld × Nat)) : State := fs.foldl (fun s f => s.setFld f.1 f.2) s

/-- `s` running an image. -/
def img (s : State) (im : Image) : State := { s with img := some im }

/-- The machine after reset with an image, in operation (stage 5). -/
def b0 : State := img (put r0 [(F.MGT_BOOT_STAGE, 5)]) {}

/-- A frame of ING (R147): shim version, flags, fragment, source and sequence, its check, and the payload. -/
def shim (ver flags frag src seq : Nat) (payload : Bytes) : Bytes :=
  let h := le 1 ver ++ le 1 flags ++ le 2 frag ++ le 4 src ++ le 4 seq
  h ++ le 4 (crc32c h).toNat ++ payload

/-- A state whose front frame at ING is `f`. -/
def framed (f : Bytes) : State := { r0 with ing := { r0.ing with frames := [f] } }

/-- The die of slot 1 in group 0, node 0. -/
def die1 : Nat := fleetAddr 0 0 1 2047

/-- A Health record of that die without readings. -/
def health : Rec := { type := 3, cls := 1, src := die1, body := zeros 8 }

/-- Stream 0 takes its class 1 into queue 0 of 1 KiB, at full rate. -/
def ingesting : State :=
  { put (img r0 { streams := [{ sender := die1, cls := 1 }] })
      [(F.ING_QUEUE_DATA_DEPTH_KIB.at 0, 1), (F.ING_STREAM_BURST_CBS.at 0, 64), (F.ING_STREAM_BURST_PBS.at 0, 64)] with
    ing := { r0.ing with arrived := [health.bytes] } }

/-- The query service runs as program 0, and every operation is allowed. -/
def serving : State := put (img r0 { queryMask := 0xFFF }) [(F.STW_PROG_DATA_STATE.at 0, 1)]

/-- A query: operation and body. -/
def query (op : Nat) (body : Bytes) : Bytes := le 1 1 ++ le 1 op ++ zeros 2 ++ zeros 4 ++ le 4 body.length ++ body

/-- The service holds one query, through the endpoint or through mailbox 0. -/
def asked (s : State) (mbox : Bool) (op : Nat) (body : Bytes) : State :=
  { s with stw := { s.stw with queries := [{ mbox := mbox, req := query op body }] } }

/-- The next state of an outcome. -/
def after (o : Host.Outcome State Fault Refusal) : State := match o with | .next t => t | _ => r0

/-- Mailbox `m` holds request `b`, and its owner is busy with it. -/
def mailed (s : State) (m : Nat) (b : Bytes) : State :=
  (List.range ((b.length + 7) / 8)).foldl (fun s w => s.setReg (mboxAddr m false w) (BitVec.ofNat 64 (bytesAt b (8 * w) 8)))
    (put s [(F.STW_MBOX_CTRL_REQ_LEN.at m, b.length), (F.STW_MBOX_CTRL_BUSY.at m, 1)])

/-- A job request: operation, rounds, activation, deadline, and an excluded address. -/
def jobReq (op rounds act deadline : Nat) (ex : List Nat) : Bytes :=
  le 2 op ++ le 2 ex.length ++ le 2 0 ++ le 2 rounds ++ le 6 act ++ zeros 2 ++ le 6 deadline ++ zeros 2 ++ (ex.map (le 4)).flatten

/-- The job service runs as program 0 at the system master. -/
def jobbing : State :=
  put (img r0 { trays := [(nodeAddr 0 0, 1)], dies := [{ slot := 1 }] })
    [(F.STW_PROG_DATA_STATE.at 0, 1), (F.STW_PROG_DATA_SERVICE.at 0, 1), (F.MGT_ROLE_SYSTEM_MASTER, 1)]

/-- A Control response of die slot 1: tag, status, values. -/
def reply (tag status : Nat) (values : List Nat) : Rec :=
  { type := 0x0D, cls := 0, src := die1, body := [1, 0] ++ le 2 tag ++ le 1 status ++ zeros 3 ++ (values.map (le 8)).flatten }

/-- The node aggregator waits for the response to a request of die slot 1, whose Potik is being armed. -/
def waits (p : CtrlFor) (resends : Nat) : State :=
  { img r0 { dies := [{ slot := 1 }] } with
    stw := { r0.stw with ctrl := [{ tag := 5, die := 1, body := .batch [], purpose := p, resends := resends }], arming := [{ die := 1 }] } }

/-- The Potik of die slot 1. -/
def pk (p : Potik) : State := { r0 with potiks := [(1, p)] }

/-- A Potik after reset with fields set. -/
def pput (p : Potik) (fs : List (Fld × Nat)) : Potik := fs.foldl (fun p f => p.setFld f.1 f.2) p

/-- A Potik that is armed. -/
def pa : Potik := pput Potik.fresh [(F.PTK_CTRL_ARMED, 1)]

/-- A Potik in reset. -/
def pr : Potik := { Potik.fresh with inReset := true }

/-- A frame with a Control request. -/
def ctrlF (body : Bytes) : Bytes := shim 1 3 0 0 0 ({ type := 0x0C, cls := 8, src := 0, body := pad8 body } : Rec).bytes

end Sys2Proof.Tests
end

