-- ==== Sys2Proof/WellFormed.lean ====
section
/-! DEFINITION. Well-formed commands: operands within the widths and ranges that the spec gives them. A meaning is total on every operand;
these are the ones that the boundary can carry. -/

namespace Sys2Proof

open Machine

/-- A die slot of a tray (R19): 0 to 126. -/
def okDie (d : Nat) : Bool := decide (d < 127)

/-- An island code (R51): 0 to 99. -/
def okIsland (n : Nat) : Bool := decide (n < 100)

/-- A tensor core (R51): 0 to 83. -/
def okCore (c : Nat) : Bool := decide (c < 84)

/-- A port of the switch attach (R36): 0 to 3. -/
def okPort (k : Nat) : Bool := decide (k < 4)

/-- A long-haul port (R38, R380): 0 to 7. -/
def okMcs (k : Nat) : Bool := decide (k < 8)

/-- A memory port (R41): 0 to 15. -/
def okMem (k : Nat) : Bool := decide (k < 16)

/-- A time link of the list (R62): 0 to 1,023. -/
def okLink (k : Nat) : Bool := decide (k < 1024)

/-- A number of 16 bits. -/
def okWord16 (n : Nat) : Bool := decide (n < 2 ^ 16)

/-- A capture input (R82): 0 to 3. -/
def okInput (m : Nat) : Bool := decide (m < 4)

/-- A pulse output (R80): 0 to 7. -/
def okPulse (n : Nat) : Bool := decide (n < 8)

/-- A level that is aggregated (R173): 0 node, 1 group, 2 system. -/
def okLevel (l : Nat) : Bool := decide (l < 3)

/-- An epoch number (R91): 48 bits. -/
def okEpoch (e : Nat) : Bool := decide (e < 2 ^ 48)

/-- A subject class (R200): 0 to 3. -/
def okClass (c : Nat) : Bool := decide (c < 4)

/-- A sequence model (R282): 0 to 3. -/
def okModel (m : Nat) : Bool := decide (m < 4)

/-- A bank of the associative memory (R223): 0 or 1. -/
def okBank (b : Nat) : Bool := decide (b < 2)

/-- A slice of the associative memory (R223): 0 to 15. -/
def okSlice (n : Nat) : Bool := decide (n < 16)

/-- A kind of tree broadcast (R444): 2 to 5. -/
def okTreeKind (k : Nat) : Bool := decide (2 ≤ k) && decide (k < 6)

/-- A steward program (R432): 0 to 15. -/
def okProgram (p : Nat) : Bool := decide (p < 16)

/-- A mailbox (R438): 0 to 3. -/
def okMailbox (n : Nat) : Bool := decide (n < 4)

/-- A pin of the archive (R375): 0 to 3. -/
def okPin (p : Nat) : Bool := decide (p < 4)

/-- A fleet address (R19): 32 bits. -/
def okAddr (a : Nat) : Bool := decide (a < 2 ^ 32)

/-- An instance ID (R45): 5 bits. -/
def okIid (n : Nat) : Bool := decide (n < 32)

/-- A number of 8 bits. -/
def okByte (n : Nat) : Bool := decide (n < 2 ^ 8)

/-- A register value (R8): 64 bits. -/
def okWord64 (v : Nat) : Bool := decide (v < 2 ^ 64)

/-- A programmable counter (R413): 0 to 7. -/
def okCounter (k : Nat) : Bool := decide (k < 8)

/-- A switch traffic class (R36): 0 to 7. -/
def okTc (c : Nat) : Bool := decide (c < 8)

/-- A reset input (R49): 0 power-on, 1 cold, 2 warm. -/
def okInputReset (n : Nat) : Bool := decide (n < 3)

/-- Bit positions of a generation of the one-time-programmable field (R484): at most 1,536. -/
def okWritten (n : Nat) : Bool := decide (n ≤ 1536)

/-- A cap code of the gateway (R58): 6 bits. -/
def okCap (n : Nat) : Bool := decide (n < 64)

/-- An entry of the external slots (R218): 0 to 4,095. -/
def okExt (n : Nat) : Bool := decide (n < 4096)

/-- A unit or test core of a die (R19): 0 to 2,047. -/
def okUnit (u : Nat) : Bool := decide (u < 2048)

/-- A STATUS of an Acknowledgement (R445): 0 to 3. -/
def okStatus (n : Nat) : Bool := decide (n < 4)

/-- Every operand of the command is in range. -/
def Instr.wf (i : Instr) : Bool :=
  match i with
  | .equinoxTick => true
  | .ptkTick die _ _ => okDie die
  | .presenceReceive _ src epoch => okAddr src && okEpoch epoch
  | .takeover _ => true
  | .takeoverReceive _ acting epoch resendFrom => okAddr acting && okEpoch epoch && okEpoch resendFrom
  | .parentSwitch => true
  | .yield _ => true
  | .deputyLost _ => true
  | .leadLost _ => true
  | .lnkDown port => okPort port
  | .lnkUp port => okPort port
  | .frameReceive port _ etherType _ _ => okPort port && okWord16 etherType
  | .channelTransfer src dst _ _ _ _ => okIsland src && okIsland dst
  | .chunkCheck round _ _ _ _ => okWord16 round
  | .roundEnd round => okWord16 round
  | .memGrantChange _ => true
  | .memReadReturn port _ _ => okMem port
  | .memRefused port _ => okMem port
  | .busAccess _ _ _ => true
  | .accessTimeout _ _ => true
  | .registerWrite die _ _ value _ => (die.all okDie) && okWord64 value
  | .setEndpointId iid op eid => okIid iid && okByte op && okByte eid
  | .getEndpointId iid => okIid iid
  | .getEndpointUuid iid => okIid iid
  | .getMctpVersionSupport iid type => okIid iid && okByte type
  | .getMessageTypeSupport iid => okIid iid
  | .getVendorDefinedMessageSupport iid selector => okIid iid && okByte selector
  | .mctpUnsupportedType type => okByte type
  | .msiOffer => true
  | .msiAck => true
  | .intEnWrite island value => okIsland island && okWord64 value
  | .captureEdge input _ _ => okInput input
  | .captureRead input => okInput input
  | .timeLoRead _ => true
  | .timeSet _ => true
  | .mcsDown port => okMcs port
  | .mcsUp port => okMcs port
  | .mcsAlarm => true
  | .tamper written => okWritten written
  | .powerOnReset written => okWritten written
  | .coldReset written => okWritten written
  | .warmReset written => okWritten written
  | .resetRelease which _ => okInputReset which
  | .refclkLost => true
  | .refclkRestored => true
  | .powerCapRequest code => okCap code
  | .pwrCapWrite value => okWord64 value
  | .capStep => true
  | .pwrEstimateUpdate _ => true
  | .fastShed => true
  | .fastShedRelease => true
  | .syncReceive link seqId _ _ _ _ => okLink link && okWord16 seqId
  | .followUpReceive link seqId _ _ => okLink link && okWord16 seqId
  | .followUpTimeout link => okLink link
  | .delayReqReceive link seqId _ _ => okLink link && okWord16 seqId
  | .delayRespReceive link seqId _ _ => okLink link && okWord16 seqId
  | .pdelayReqReceive link seqId _ _ _ => okLink link && okWord16 seqId
  | .pdelayRespReceive link seqId _ _ _ _ => okLink link && okWord16 seqId
  | .pdelayRespFollowUpReceive link seqId _ _ => okLink link && okWord16 seqId
  | .announceReceive link domain => okLink link && okByte domain
  | .ptpDiscard => true
  | .syncInterval _ => true
  | .announceInterval => true
  | .holdoverEntry => true
  | .unqualEntry _ => true
  | .stepApply die => (die.all okDie)
  | .asymWrite link value => okLink link && okWord64 value
  | .closureReport => true
  | .loopEvaluation => true
  | .pulseEdge n => okPulse n
  | .pulseModeWrite n value _ => okPulse n && okWord64 value
  | .ptkPtpReceive die _ _ => okDie die
  | .ptkRxStamp die _ _ _ => okDie die
  | .ptkDelayReqInterval die _ _ => okDie die
  | .domainWindow die _ _ _ _ _ => okDie die
  | .sweepHandoff die _ _ => okDie die
  | .ptkCounterWrite die _ value => okDie die && okWord64 value
  | .sampleArm die _ _ _ _ _ => okDie die
  | .sampleCapture die _ _ _ _ _ _ _ _ _ => okDie die
  | .sampleAbandon die _ => okDie die
  | .sampleDrain die _ => okDie die
  | .smpRead die => okDie die
  | .healthRound die _ => okDie die
  | .healthAck die _ _ => okDie die
  | .healthAckTimeout die => okDie die
  | .activityRead die _ _ => okDie die
  | .wsBeat die => okDie die
  | .tileOffer die _ _ _ _ _ _ => okDie die
  | .tileStreamEnd die _ _ => okDie die
  | .tileSeedWrite die value => okDie die && okWord64 value
  | .csChunkEnd die _ _ _ _ _ _ => okDie die
  | .redigestRequest die value _ _ => okDie die && okWord64 value
  | .redigestAnswer die _ _ => okDie die
  | .redigestTimeout die _ => okDie die
  | .testWaitRise die core _ _ => okDie die && okUnit core
  | .testWaitFall die core _ _ => okDie die && okUnit core
  | .testDone die _ _ _ => okDie die
  | .testNoAnswer die _ _ => okDie die
  | .traceBeat die _ _ _ _ => okDie die
  | .ptkTraceTrigger die => okDie die
  | .ptkRingSent die => okDie die
  | .ptkRecordEnqueue die _ => okDie die
  | .ptkFrameStart die _ => okDie die
  | .ptkTamper die => okDie die
  | .recordFrame => true
  | .reassemblyTimeout src _ => okAddr src
  | .recordIngest _ => true
  | .registerBatch die _ => okDie die
  | .packageData die _ => okDie die
  | .controlResponse _ _ => true
  | .controlResend tag => okWord16 tag
  | .alnRecordAccept _ => true
  | .epochClose level => okLevel level
  | .reductionDone level => okLevel level
  | .coarsenRequest src _ fromEpoch => okAddr src && okEpoch fromEpoch
  | .coarsenResend level => okLevel level
  | .bypassBroadcast src partner _ actEpoch => okAddr src && okAddr partner && okEpoch actEpoch
  | .bypassRefusal src => okAddr src
  | .featurePass level epoch => okLevel level && okEpoch epoch
  | .baselineProduct cls epoch _ => okClass cls && okEpoch epoch
  | .baseDeadline cls epoch => okClass cls && okEpoch epoch
  | .modelOutputs cls epoch _ => okClass cls && okEpoch epoch
  | .modelDeadline cls epoch => okClass cls && okEpoch epoch
  | .extDataWrite entry value => okExt entry && okWord64 value
  | .treeEvaluate cls epoch _ => okClass cls && okEpoch epoch
  | .treeLookupsDone cls epoch _ _ => okClass cls && okEpoch epoch
  | .treeDeadline level epoch => okLevel level && okEpoch epoch
  | .scrubRead bank slice _ _ _ => okBank bank && okSlice slice
  | .bankRetire => true
  | .tileDispatch _ _ => true
  | .tileComplete core _ => okCore core
  | .residueMismatch core _ _ => okCore core
  | .disputeRerunDone core _ _ _ _ => okCore core
  | .weightReload core => okCore core
  | .replayDispatch => true
  | .replayEnqueue _ => true
  | .arbJobStart => true
  | .arbJobDone => true
  | .arbTimeout _ => true
  | .arbResidue _ => true
  | .modelRunStart model => okModel model
  | .modelRunEnd model _ _ => okModel model
  | .issueInstant level epoch => okLevel level && okEpoch epoch
  | .batchSigned => true
  | .sparesWrite value => okWord16 value
  | .verdictBatchReceive _ => true
  | .integrityOutcome _ => true
  | .digestReport _ => true
  | .tensorWatchReceive _ => true
  | .weightDigestReceive _ => true
  | .replicaDeadline _ _ => true
  | .focusEnd _ => true
  | .testResultReceive _ _ => true
  | .testOverdue die core _ => okDie die && okUnit core
  | .storeAccess island _ _ _ _ _ => okIsland island
  | .patrolScrub _ _ => true
  | .dictActivate => true
  | .dictDataWrite value => okWord64 value
  | .dictBankRetire => true
  | .codeBlock _ _ _ _ => true
  | .decodeBlock _ _ _ => true
  | .liveFlush _ => true
  | .archiveAppend _ => true
  | .archiveWriteDone _ => true
  | .pinExpire pin => okPin pin
  | .exportEnqueue n _ => okIsland n
  | .exportFrameStart port => okPort port
  | .bucketRefill => true
  | .heldSummaryMerge => true
  | .traceMessage island _ _ => okIsland island
  | .trcTrigWrite => true
  | .reserveFull => true
  | .postEpochsExpire => true
  | .rearm => true
  | .trcRearmWrite => true
  | .boostExpire => true
  | .snapRequest epoch => okEpoch epoch
  | .snapshotTake _ => true
  | .ptkSnapshot die _ _ _ _ _ _ => okDie die
  | .pmcFreeze => true
  | .pmcUnfreeze => true
  | .pmcClear => true
  | .pmcOverflow island counter => okIsland island && okCounter counter
  | .imageLoad value => okWord64 value
  | .stagingComplete _ => true
  | .imageVerify => true
  | .verificationDone _ _ => true
  | .commitArm value _ => okWord64 value
  | .shadowReady island => okIsland island
  | .guardInstant => true
  | .commitCancel => true
  | .programFault p => okProgram p
  | .tickOverrun p => okProgram p
  | .programRestart p => okProgram p
  | .mailboxDoorbell mailbox => okMailbox mailbox
  | .mailboxResponse mailbox _ => okMailbox mailbox
  | .readReg _ _ => true
  | .writeReg _ => true
  | .readRegion _ => true
  | .archivePin => true
  | .archiveUnpin => true
  | .extWrite => true
  | .setBudget => true
  | .packagePart act deadline => okEpoch act && okEpoch deadline
  | .trigger => true
  | .snapshot => true
  | .status => true
  | .jobStart => true
  | .jobCancel => true
  | .broadcastPart src _ _ _ act deadline part parts _ => okAddr src && okEpoch act && okEpoch deadline && okWord16 part && okWord16 parts
  | .heads _ => true
  | .broadcastRequest kind => okTreeKind kind
  | .requestReceive src kind _ _ => okAddr src && okTreeKind kind
  | .acknowledgement root kind st _ _ _ _ => okAddr root && okTreeKind kind && okStatus st
  | .finalise kind => okTreeKind kind
  | .armedCheck die => okDie die
  | .errorDetect island _ _ => okIsland island
  | .errorInterval => true
  | .winterLeave island => okIsland island
  | .hourInterval => true
  | .fence island => okIsland island
  | .unfence island => okIsland island
  | .islandReset island => okIsland island
  | .islandResetRelease island => okIsland island
  | .holdWrite island _ => okIsland island
  | .errFirstClear island => okIsland island
  | .injectArm island value => okIsland island && okWord64 value
  | .bistDone _ _ _ => true
  | .certCheck value => okWord64 value
  | .keygen value => okWord64 value
  | .keygenDone => true
  | .program value => okWord64 value
  | .programDone _ => true
  | .blockArm _ => true
  | .ptkReset die => okDie die
  | .ptkSign die => okDie die
  | .ptkSignDone die => okDie die
  | .ptkArmWrite die value => okDie die && okWord64 value
  | .presenceAcknowledgement _ epoch => okEpoch epoch
  | .lnkCreditReturn port tc => okPort port && okTc tc
  | .memCreditReturn port => okMem port
  | .counterWrap die _ _ _ _ => okDie die
  | .wsBeatArrival die _ _ _ => okDie die
  | .controlRequest die _ _ _ _ => okDie die
  | .queryRequest _ => true
  | .ptkResetRelease die _ _ _ => okDie die
  | .pulseWidthEnd n => okPulse n
  | .registerRead die _ _ _ _ => (die.all okDie)

end Sys2Proof
end

namespace Sys2Proof.Machine
/-! ### Frames: whole registers, and the edges of a command -/

/-- A field that shares no bit with a whole register lies elsewhere, or has no bits. -/
theorem Fld.apart_whole {a : Nat} {g : Fld} (h : (Fld.whole a).apart g) (h64 : g.lo + g.w ≤ 64) : g.addr ≠ a ∨ g.w = 0 := by
  rcases h with h | h | h
  · exact .inl h
  all_goals simp only [Fld.whole] at h; omega

namespace State

/-- A register that the frame names as a whole written. -/
theorem onlyMessagesAnd.setReg {s t : State} {fs : List Fld} (h : s.onlyMessagesAnd fs t) {a : Nat} (v : Word) (hf : Fld.whole a ∈ fs) :
    s.onlyMessagesAnd fs (t.setReg a v) := by
  obtain ⟨hfld, hrest⟩ := h
  refine ⟨fun g h64 hl hg => (?_ : _ = t.fld g).trans (hfld g h64 hl hg), by rw [hrest]; rfl⟩
  rcases Fld.apart_whole (hg _ hf) h64 with h | h
  · simp only [fld, reg_setReg_other _ _ h]
  · simp only [fld, getBits, h, Nat.pow_zero, Nat.mod_one]

/-- A frame between the state in which a command begins and its effect is one of the command. -/
theorem onlyMessagesAnd.ofStart {s t : State} {fs : List Fld} (h : s.start.onlyMessagesAnd fs t) :
    s.onlyMessagesAnd fs { t with pending := s.pending } := by
  obtain ⟨hfld, hrest⟩ := h
  exact ⟨hfld, by rw [hrest]; rfl⟩

/-! ### An error of class NOTICE recorded in island 0 (R458, R462) -/

/-- The registers that an error recorded in island 0 changes besides messages. -/
def errorFields : List Fld := [.whole (F.ERR_FIRST_VALID.at 0).addr, .whole (F.ERR_MERGED_COUNT.at 0).addr, F.STATUS_QUIET_LEFT_MS.at 0]

/-- The first error of island 0, its message and trigger: class 0 reaches no limit and forces no Winter state. -/
def noticeFirst (s : State) (code loc : Nat) : State :=
  let s := (s.writeFirst 0 code 0 loc false false false).pend 0 0
  (s.trace 0 4 (le 2 code ++ zeros 2 ++ le 8 (s.reg (F.ERR_FIRST_VALID.at 0).addr).toNat)).trigger 2 0

/-- A further error merged into the first. -/
def noticeMerge (s : State) (code : Nat) : State :=
  (s.incFld (F.ERR_MERGED_COUNT.at 0)).setFld (F.ERR_MERGED_LAST_DETECTOR.at 0) code

/-- The record of a notice: as the first error, or merged. -/
def noticeRecord (s : State) (code loc : Nat) : State :=
  if s.flag (F.ERR_FIRST_VALID.at 0) then s.noticeMerge code else s.noticeFirst code loc

/-- What a notice leaves in island 0 (R462, R468). -/
def noticed (s : State) (code loc : Nat) : State :=
  if s.istate 0 == 1 then (s.noticeRecord code loc).restartQuiet 0 else s.noticeRecord code loc

theorem recordError_notice (s : State) (code loc : Nat) (h : s.istate 0 ≠ 2) (hd : s.disabled 0 = false) :
    s.recordError 0 code 0 loc false = (s.perf 0 0x007 1).noticed code loc := by
  have hin : (decide (s.istate 0 = 2) || s.disabled 0) = false := by rw [hd, Bool.or_false]; exact decide_eq_false h
  have hc : s.countError 0 0 = s := rfl
  have hforces : (((s.perf 0 7 1).atLimit 0 0 || ((0 : Nat) == 3 && code != 0x10)) && (0 : Nat) != 0 && (s.perf 0 7 1).works 0) = false := rfl
  have hl : (s.perf 0 7 1).atLimit 0 0 = false := rfl
  rw [recordError, if_neg (Bool.eq_false_iff.mp hin)]
  dsimp only
  rw [hc, hforces, hl]
  cases hf : (s.perf 0 7 1).flag (F.ERR_FIRST_VALID.at 0) with
  | false => simp only [noticed, noticeRecord, noticeFirst, hf, Bool.not_false, Bool.false_and, Bool.false_eq_true, if_true, if_false]
  | true =>
    simp only [noticed, noticeRecord, noticeMerge, hf, Bool.not_true, Bool.false_and, Bool.false_eq_true, if_true, if_false]

/-- The register of the first error after it is written. -/
theorem reg_writeFirst (s : State) (n code cls loc : Nat) (inj winter limit : Bool) :
    (s.writeFirst n code cls loc inj winter limit).reg (F.ERR_FIRST_VALID.at n).addr =
      BitVec.ofNat 64 (code % 2 ^ 16 + 2 ^ 16 + b2n inj * 2 ^ 17 + b2n winter * 2 ^ 18 + b2n limit * 2 ^ 19 + cls % 4 * 2 ^ 20 +
        loc % 2 ^ 40 * 2 ^ 24) := by
  unfold writeFirst
  rw [reg_setFld_other _ _ _ (by simp [Fld.at]), reg_setReg_same]

theorem errorFields_first : Fld.whole (F.ERR_FIRST_VALID.at 0).addr ∈ errorFields := by simp [errorFields]
theorem errorFields_merged : Fld.whole (F.ERR_MERGED_COUNT.at 0).addr ∈ errorFields := by simp [errorFields]
theorem errorFields_quiet : F.STATUS_QUIET_LEFT_MS.at 0 ∈ errorFields := by simp [errorFields]

/-- What follows the write of the first error is messages. -/
theorem om_noticeFirst (s : State) (code loc : Nat) :
    (s.writeFirst 0 code 0 loc false false false).onlyMessages (s.noticeFirst code loc) :=
  ((om_pend _ _ _).trans (om_trace _ _ _ _)).trans (om_trigger _ _ _)

theorem noticeFirst_frame (s : State) (code loc : Nat) : s.onlyMessagesAnd errorFields (s.noticeFirst code loc) :=
  .then (((onlyMessagesAnd.refl s _).setReg _ errorFields_first).setReg _ errorFields_merged) (om_noticeFirst s code loc)

theorem noticeMerge_frame (s : State) (code : Nat) : s.onlyMessagesAnd errorFields (s.noticeMerge code) :=
  ((onlyMessagesAnd.refl s _).setReg _ errorFields_merged).setReg _ errorFields_merged

theorem noticeRecord_frame (s : State) (code loc : Nat) : s.onlyMessagesAnd errorFields (s.noticeRecord code loc) := by
  unfold noticeRecord
  split
  · exact noticeMerge_frame s code
  · exact noticeFirst_frame s code loc

theorem noticed_frame (s : State) (code loc : Nat) : s.onlyMessagesAnd errorFields (s.noticed code loc) := by
  unfold noticed
  split
  · exact (noticeRecord_frame s code loc).setFld _ errorFields_quiet
  · exact noticeRecord_frame s code loc

/-- A register other than STATUS reads as the record of the error leaves it. -/
theorem reg_noticed (s : State) (code loc : Nat) {a : Nat} (ha : a ≠ 0x10) : (s.noticed code loc).reg a = (s.noticeRecord code loc).reg a := by
  unfold noticed
  split
  · exact reg_setFld_other _ (F.STATUS_QUIET_LEFT_MS.at 0) _ ha
  · rfl

/-- With no first error held, the record holds this one. -/
theorem reg_noticed_first (s : State) (code loc : Nat) (h : s.flag (F.ERR_FIRST_VALID.at 0) = false) :
    (s.noticed code loc).reg 0x18 = BitVec.ofNat 64 (code % 2 ^ 16 + 2 ^ 16 + loc % 2 ^ 40 * 2 ^ 24) := by
  rw [reg_noticed _ _ _ (by decide), noticeRecord, h, if_neg (by decide), (om_noticeFirst s code loc).1 _ (by decide)]
  exact reg_writeFirst s 0 code 0 loc false false false

/-- With one held, the merge count has risen, and the last detector is this one's. -/
theorem noticed_merged (s : State) (code loc : Nat) (h : s.flag (F.ERR_FIRST_VALID.at 0) = true) :
    (s.noticed code loc).fld (F.ERR_MERGED_LAST_DETECTOR.at 0) = code % 2 ^ 16 ∧
    (s.noticed code loc).fld (F.ERR_MERGED_COUNT.at 0) = min (2 ^ 16 - 1) (s.fld (F.ERR_MERGED_COUNT.at 0) + 1) := by
  have hr : (s.noticed code loc).reg 0x20 = (s.noticeMerge code).reg 0x20 := by
    rw [reg_noticed _ _ _ (by decide), noticeRecord, h, if_pos rfl]
  have hf : ∀ g : Fld, g.addr = 0x20 → (s.noticed code loc).fld g = (s.noticeMerge code).fld g := fun g hg => by
    simp only [fld, hg, hr]
  rw [hf _ rfl, hf _ rfl]
  constructor
  · exact fld_setFld_same _ _ _ (by decide)
  · have h1 := fld_setFld_bits (s.incFld (F.ERR_MERGED_COUNT.at 0)) (F.ERR_MERGED_LAST_DETECTOR.at 0) (F.ERR_MERGED_COUNT.at 0) code
      (.inl (by decide)) (by decide)
    have h2 : (s.incFld (F.ERR_MERGED_COUNT.at 0)).fld (F.ERR_MERGED_COUNT.at 0) = _ := fld_setFld_same s _ _ (by decide)
    exact h1.trans (h2.trans (Nat.mod_eq_of_lt (by simp only [Fld.at]; omega)))

/-! ### A bus error (R9, R43) -/

theorem raise_busError (s : State) : s.raise 0 6 0 = s.recordError 0 6 0 0 false := rfl

/-- A bus error changes nothing but the error record, the quiet period of island 0, and messages. -/
theorem busError_frame (s : State) : s.onlyMessagesAnd errorFields s.busError := by
  refine .then ?_ (om_emit _ _)
  rw [raise_busError]
  by_cases h : s.istate 0 = 2
  · simp only [recordError, h, decide_true, Bool.true_or, if_true]; exact .refl s _
  cases hd : s.disabled 0
  · rw [recordError_notice s 6 0 h hd]; exact .trans ((om_perf s 0 7 1).toAnd _) (noticed_frame _ _ _)
  · simp only [recordError, hd, Bool.or_true, if_true]; exact .refl s _

/-- The registers of a bus error's record, outside island reset. -/
theorem reg_busError (s : State) (h : s.istate 0 ≠ 2) (hd : s.disabled 0 = false) (a : Nat) :
    s.busError.reg a = ((s.perf 0 7 1).noticed 6 0).reg a := by
  simp only [busError, reg_emit, raise_busError, recordError_notice s 6 0 h hd]

/-- With no first error held: BUS_ERROR is the first, of class 0 and without a flag. -/
theorem busError_first (s : State) (h : s.istate 0 ≠ 2) (hd : s.disabled 0 = false) (hv : s.flag (F.ERR_FIRST_VALID.at 0) = false) :
    s.busError.reg 0x18 = 0x10006 := by
  have hp : (s.perf 0 7 1).flag (F.ERR_FIRST_VALID.at 0) = false := ((om_perf s 0 7 1).flag (by decide)).trans hv
  rw [reg_busError s h hd, reg_noticed_first _ _ _ hp]
  rfl

/-- With one held: the merge count rises, and the last detector is BUS_ERROR. -/
theorem busError_merged (s : State) (h : s.istate 0 ≠ 2) (hd : s.disabled 0 = false) (hv : s.flag (F.ERR_FIRST_VALID.at 0) = true) :
    s.busError.fld (F.ERR_MERGED_LAST_DETECTOR.at 0) = 6 ∧
    s.busError.fld (F.ERR_MERGED_COUNT.at 0) = min (2 ^ 16 - 1) (s.fld (F.ERR_MERGED_COUNT.at 0) + 1) := by
  have hp := om_perf s 0 7 1
  obtain ⟨hlast, hcount⟩ := noticed_merged (s.perf 0 7 1) 6 0 ((hp.flag (by decide)).trans hv)
  rw [hp.fld (f := F.ERR_MERGED_COUNT.at 0) (by decide)] at hcount
  simp only [fld, reg_busError s h hd] at hlast hcount ⊢
  exact ⟨hlast, hcount⟩

/-- A misaligned access, and one that times out, are a bus error. -/
theorem exec_busError (s : State) (addr bytes : Nat) (w : Bool) (c : Instr)
    (h : c = .accessTimeout addr w ∨ (c = .busAccess addr bytes w ∧ badAccess addr bytes = true)) :
    exec c s = .next { s.start.busError with pending := s.pending } := by
  rcases h with rfl | ⟨rfl, hbad⟩
  · rfl
  · have : exec (.busAccess addr bytes w) s = .next { s.start.busAccess addr bytes with pending := s.pending } := rfl
    rw [this, busAccess, if_pos hbad]

end State

/-- Settles O5: the access is a bus error, whose record is that of a notice (class 0 forces no Winter state) in island 0. -/
theorem misalignedAccessRecordsAnError : Obligations.MisalignedAccessRecordsAnError := by
  refine ⟨fun s addr bytes w c hc => ⟨_, State.exec_busError s addr bytes w c hc, ?_, fun h hd hv => ?_, fun h hd hv => ?_, ?_⟩,
    fun s addr bytes w hgood => ?_⟩
  · simp [State.busError]
  · have hr : s.start.busError.reg 0x18 = 0x10006 := State.busError_first s.start h hd hv
    have hf : ∀ g : Fld, g.addr = 0x18 → s.start.busError.fld g = getBits 0x10006 g.lo g.w :=
      fun g hg => by simp only [State.fld, hg, hr]
    simp only [State.flag, State.fld_with_pending, hf (F.ERR_FIRST_VALID.at 0) rfl, hf (F.ERR_FIRST_DETECTOR.at 0) rfl, hf (F.ERR_FIRST_CLASS.at 0) rfl,
      hf (F.ERR_FIRST_INJECTED.at 0) rfl, hf (F.ERR_FIRST_WINTER.at 0) rfl, hf (F.ERR_FIRST_LIMIT.at 0) rfl]
    decide
  · exact State.busError_merged s.start h hd hv
  · exact (State.busError_frame s.start).ofStart
  · have : exec (.busAccess addr bytes w) s = .next { s.start.busAccess addr bytes with pending := s.pending } := rfl
    rw [this, State.busAccess, hgood]
    rfl

end Sys2Proof.Machine

namespace Sys2Proof.Machine
namespace State

/-! ### Start-up's registers and data, and what keeps them -/

/-- STATUS of every island, and MGT's registers BOOT, BIST0, BIST1 and OTP. -/
def startUpReg (a : Nat) : Bool := a % 0x80000 == 0x10 || (decide (0x1600 ≤ a) && decide (a ≤ 0x1618))

/-- The data that start-up and resets speak of: all of MGT's but its messages and the staged image, the image, the Potik units, the armed dies. -/
def lasting (s : State) : State :=
  { mgt := { s.mgt with msiWait := [], msiReq := false, stagedLen := 0, verified := none, aim := 0, deferrals := 0, fixed := false }
    img := s.img, potiks := s.potiks, stw := { armed := s.stw.armed } }

/-- Start-up's registers and data are in `t` as in `s`. -/
def keepsStartUp (s t : State) : Prop := (∀ a, startUpReg a = true → t.reg a = s.reg a) ∧ t.lasting = s.lasting

theorem keepsStartUp.refl (s : State) : s.keepsStartUp s := ⟨fun _ _ => rfl, rfl⟩

theorem keepsStartUp.trans {s t u : State} (h : s.keepsStartUp t) (k : t.keepsStartUp u) : s.keepsStartUp u :=
  ⟨fun a ha => (k.1 a ha).trans (h.1 a ha), k.2.trans h.2⟩

theorem keepsStartUp.reg {s t : State} (h : s.keepsStartUp t) {a : Nat} (ha : startUpReg a = true) : t.reg a = s.reg a := h.1 a ha

theorem keepsStartUp.fld {s t : State} (h : s.keepsStartUp t) {f : Fld} (hf : startUpReg f.addr = true) : t.fld f = s.fld f := by
  simp only [State.fld, h.reg hf]

theorem keepsStartUp.flag {s t : State} (h : s.keepsStartUp t) {f : Fld} (hf : startUpReg f.addr = true) : t.flag f = s.flag f := by
  simp only [State.flag, h.fld hf]

theorem keepsStartUp.setReg {s t : State} (h : s.keepsStartUp t) {a : Nat} (v : Word) (ha : startUpReg a = false) :
    s.keepsStartUp (t.setReg a v) :=
  ⟨fun b hb => (reg_setReg_other _ _ (by rintro rfl; simp [ha] at hb)).trans (h.1 b hb), h.2⟩

theorem keepsStartUp.setFld {s t : State} (h : s.keepsStartUp t) {f : Fld} (v : Nat) (hf : startUpReg f.addr = false) :
    s.keepsStartUp (t.setFld f v) := h.setReg _ hf

theorem keepsStartUp.foldl {α : Type} {s t : State} (h : s.keepsStartUp t) (f : State → α → State) (l : List α)
    (hf : ∀ (u : State) (x : α), x ∈ l → u.keepsStartUp (f u x)) : s.keepsStartUp (l.foldl f t) :=
  List.foldlRecOn l f (motive := s.keepsStartUp) h (fun u hu x hx => hu.trans (hf u x hx))

/-- None of start-up's registers is in the ledger. -/
theorem ledger_of_startUpReg {a : Nat} (h : startUpReg a = true) : ledger a = false := by
  simp only [startUpReg, Bool.or_eq_true, beq_iff_eq, Bool.and_eq_true, decide_eq_true_eq] at h
  simp only [ledger, Bool.or_eq_false_iff, Bool.and_eq_false_iff, beq_eq_false_iff_ne, decide_eq_false_iff_not]
  omega

/-- Messages and counts keep what start-up speaks of. -/
theorem onlyMessages.startUp {s t : State} (h : s.onlyMessages t) : s.keepsStartUp t :=
  ⟨fun a ha => h.1 a (ledger_of_startUpReg ha), by rw [h.2]; rfl⟩

/-- Copies of a register that lie whole islands apart, at another offset than STATUS, are none of start-up's. -/
theorem startUpReg_at (f : Fld) (n : Nat) (hs : f.step % 0x80000 = 0) (ho : f.addr % 0x80000 ≠ 0x10) (hlow : 0x1618 < f.addr) :
    startUpReg (f.at n).addr = false := by
  have hm : (f.addr + n * f.step) % 0x80000 = f.addr % 0x80000 := by
    obtain ⟨k, hk⟩ := Nat.dvd_of_mod_eq_zero hs
    rw [hk, Nat.mul_left_comm, Nat.add_mul_mod_self_left]
  have hge : f.addr ≤ f.addr + n * f.step := Nat.le_add_right _ _
  have hhigh : ¬ f.addr + n * f.step ≤ 0x1618 := by omega
  simp [startUpReg, Fld.at, hm, ho, hhigh]

/-- The registers below MGT's start-up, of every island, are none of them but STATUS. -/
theorem startUpReg_common (o n : Nat) (h : o < 0x1600) (ho : o ≠ 0x10) : startUpReg (o + n * 0x80000) = false := by
  simp only [startUpReg, Bool.or_eq_false_iff, beq_eq_false_iff_ne, Bool.and_eq_false_iff, decide_eq_false_iff_not]
  omega

theorem startUpReg_status (n : Nat) : startUpReg (F.STATUS_STATE.at n).addr = true := by
  have : (16 + n * 524288) % 524288 = 16 := by omega
  simp [startUpReg, Fld.at, this]

/-- An offer changes the messages that wait, and nothing else. -/
theorem offer_frame (s : State) (n : Nat) (before : Word) :
    s.offer n before = { s with mgt := { s.mgt with msiWait := (s.offer n before).mgt.msiWait } } := by
  unfold offer
  split <;> rfl

/-- A cause made pending changes _INT_PEND and the messages that wait, and nothing else. -/
theorem pend_frame (s : State) (n b : Nat) :
    s.pend n b = { s with regs := (s.setReg (F.INT_PEND_ERR.at n).addr (s.reg (F.INT_PEND_ERR.at n).addr ||| BitVec.ofNat 64 (2 ^ b))).regs,
                          mgt := { s.mgt with msiWait := (s.pend n b).mgt.msiWait } } :=
  offer_frame (s.setReg _ _) n _

/-! ### Programming stopped (R488) -/

/-- The one-time-programmable field after programming stops: `n` bit positions of the copy in progress stand. -/
def otpStopped (s : State) (n : Nat) : Tab OtpArea :=
  match s.mgt.otpProg with | some (g, c) => s.mgt.otp.put (fun _ => {}) g (otpWritten c n) | none => s.mgt.otp

/-- Programming stopped changes the field, OTP's state and reason, and island 0's messages. -/
theorem otpStop_frame (s : State) (n : Nat) :
    (∀ a, a ≠ 0x1618 → ledger a = false → (s.otpStop n).reg a = s.reg a) ∧
    s.otpStop n = { s with regs := (s.otpStop n).regs,
                           mgt := { s.mgt with otpProg := none, otp := s.otpStopped n, msiWait := (s.otpStop n).mgt.msiWait } } := by
  cases h : s.mgt.otpProg with
  | none =>
    have he : s.otpStop n = s := by simp only [otpStop, h]
    have ho : s.otpStopped n = s.mgt.otp := by simp only [otpStopped, h]
    rw [he, ho, ← h]
    exact ⟨fun _ _ _ => rfl, rfl⟩
  | some p =>
    have ho : s.otpStopped n = s.mgt.otp.put (fun _ => {}) p.1 (otpWritten p.2 n) := by simp only [otpStopped, h]
    have he : s.otpStop n = ((({ s with mgt := { s.mgt with otpProg := none, otp := s.otpStopped n } } : State).setFld
        F.MGT_OTP_PROG_STATE 3).setFld F.MGT_OTP_PROG_REASON 9).pend 0 11 := by simp only [otpStop, h, ho]
    rw [he]
    refine ⟨fun a ha hl => ((om_pend _ _ _).1 a hl).trans ?_, by rw [pend_frame]; rfl⟩
    rw [reg_setFld_other _ _ _ ha, reg_setFld_other _ _ _ ha]
    rfl

end State
end Sys2Proof.Machine

namespace Sys2Proof.Machine
namespace State

/-! ### Power-on and cold reset (R475) -/

/-- The fields in which a power-on or cold reset shows the input pins. -/
def pinFields : List Fld := [F.MGT_BOUNDARY_LNK_UP, F.MGT_BOUNDARY_MCS_UP, F.MGT_BOUNDARY_MEM_GRANT, F.MGT_PWR_STATUS_FAST_HOLD]

/-- A field of a register that programming does not touch reads as before when it stops. -/
theorem fld_otpStop (s : State) (n : Nat) {f : Fld} (hf : f.addr ≠ 0x1618) (hl : ledger f.addr = false) : (s.otpStop n).fld f = s.fld f := by
  simp only [fld, (otpStop_frame s n).1 _ hf hl]

/-- What a power-on or cold reset keeps: the one-time-programmable field, the reset inputs, the Potik units, the waiting commands. -/
def coldBase (s : State) : State :=
  { mgt := { otp := s.mgt.otp, por := s.mgt.por, cold := s.mgt.cold, warm := s.mgt.warm }
    potiks := s.potiks, fresh := s.fresh, pending := s.pending }

/-- The pins' fields and the reset cause, written to the base. -/
theorem coldClear_eq (s : State) (n cause : Nat) :
    s.coldClear n cause = ((((((s.otpStop n).coldBase).setFld F.MGT_BOUNDARY_LNK_UP (s.fld F.MGT_BOUNDARY_LNK_UP)).setFld F.MGT_BOUNDARY_MCS_UP
      (s.fld F.MGT_BOUNDARY_MCS_UP)).setFld F.MGT_BOUNDARY_MEM_GRANT (s.fld F.MGT_BOUNDARY_MEM_GRANT)).setFld F.MGT_PWR_STATUS_FAST_HOLD
      (s.fld F.MGT_PWR_STATUS_FAST_HOLD)).setFld F.MGT_BOOT_RESET_CAUSE cause := by
  have hf : ∀ f ∈ pinFields, (s.otpStop n).fld f = s.fld f := fun f hf => by
    simp only [pinFields, List.mem_cons, List.not_mem_nil, or_false] at hf
    rcases hf with rfl | rfl | rfl | rfl <;> exact fld_otpStop s n (by decide) (by decide)
  rw [← hf _ (by simp [pinFields]), ← hf _ (by simp [pinFields]), ← hf _ (by simp [pinFields]), ← hf _ (by simp [pinFields])]
  rfl

/-- Every register is at its reset value but the pins' fields and the reset cause. -/
theorem coldClear_onlyFields (s : State) (n cause : Nat) : State.reset.onlyFields (pinFields ++ [F.MGT_BOOT_RESET_CAUSE]) (s.coldClear n cause) := by
  have hbase : State.reset.onlyFields (pinFields ++ [F.MGT_BOOT_RESET_CAUSE]) (s.otpStop n).coldBase := fun _ _ _ => rfl
  rw [coldClear_eq]
  exact ((((hbase.setFld _ (by simp [pinFields])).setFld _ (by simp [pinFields])).setFld _ (by simp [pinFields])).setFld _
    (by simp [pinFields])).setFld _ (by simp [pinFields])

/-- The pins' fields show the pins as before. -/
theorem coldClear_pins (s : State) (n cause : Nat) : ∀ f ∈ pinFields, (s.coldClear n cause).fld f = s.fld f := by
  rw [coldClear_eq]
  intro f hf
  have hlt := fld_lt s f
  simp only [pinFields, List.mem_cons, List.not_mem_nil, or_false] at hf
  rcases hf with rfl | rfl | rfl | rfl
  · rw [fld_setFld_bits _ _ _ _ (by decide) (by decide), fld_setFld_reg _ _ _ _ (by decide), fld_setFld_bits _ _ _ _ (by decide) (by decide),
      fld_setFld_bits _ _ _ _ (by decide) (by decide), fld_setFld_same _ _ _ (by decide), Nat.mod_eq_of_lt hlt]
  · rw [fld_setFld_reg _ _ _ _ (by decide), fld_setFld_reg _ _ _ _ (by decide), fld_setFld_bits _ _ _ _ (by decide) (by decide),
      fld_setFld_same _ _ _ (by decide), Nat.mod_eq_of_lt hlt]
  · rw [fld_setFld_reg _ _ _ _ (by decide), fld_setFld_reg _ _ _ _ (by decide), fld_setFld_same _ _ _ (by decide), Nat.mod_eq_of_lt hlt]
  · rw [fld_setFld_reg _ _ _ _ (by decide), fld_setFld_same _ _ _ (by decide), Nat.mod_eq_of_lt hlt]

theorem coldClear_cause (s : State) (n cause : Nat) (h : cause < 4) : (s.coldClear n cause).fld F.MGT_BOOT_RESET_CAUSE = cause := by
  rw [coldClear_eq, fld_setFld_same _ _ _ (by decide)]
  exact Nat.mod_eq_of_lt h

/-- All but the registers is what the base holds. -/
theorem coldClear_rest (s : State) (n cause : Nat) :
    s.coldClear n cause = { (s.otpStop n).coldBase with regs := (s.coldClear n cause).regs } := by
  generalize hr : (s.coldClear n cause).regs = r
  rw [coldClear_eq] at hr ⊢
  rw [← hr]
  rfl

/-- What a power-on or cold reset that is not absorbed leaves (R475): the first clause of the statement of resets. -/
def coldLeft (s : State) (w cause : Nat) (t : State) : Prop :=
  t.mgt = { ({} : Mgt) with
    por := s.mgt.por || cause == 0, cold := s.mgt.cold || cause == 1, warm := s.mgt.warm,
    otp := match s.mgt.otpProg with | some (g, b) => s.mgt.otp.put (fun _ => {}) g (otpWritten b w) | none => s.mgt.otp } ∧
  t = { ({} : State) with regs := t.regs, mgt := t.mgt, potiks := s.potiks, fresh := s.fresh, pending := s.pending } ∧
  t.fld F.MGT_BOOT_RESET_CAUSE = cause ∧ State.reset.onlyFields (pinFields ++ [F.MGT_BOOT_RESET_CAUSE]) t ∧ ∀ f ∈ pinFields, t.fld f = s.fld f

theorem coldLeft_withPending {s t : State} {w cause : Nat} (h : s.start.coldLeft w cause t) : s.coldLeft w cause { t with pending := s.pending } := by
  obtain ⟨hmgt, hrest, hcause, hregs, hpins⟩ := h
  exact ⟨hmgt, by rw [hrest]; rfl, hcause, hregs, hpins⟩

/-- With its input asserted, the reset clears the block. -/
theorem coldClear_left {s u : State} (w cause : Nat) (hcause : cause < 4)
    (hu : u = { s with mgt := { s.mgt with por := s.mgt.por || cause == 0, cold := s.mgt.cold || cause == 1 } }) :
    s.coldLeft w cause (u.coldClear w cause) := by
  have hstop : u.coldClear w cause = { (u.otpStop w).coldBase with regs := (u.coldClear w cause).regs } := coldClear_rest u w cause
  have hbase : (u.otpStop w).coldBase =
      { mgt := { por := u.mgt.por, cold := u.mgt.cold, warm := u.mgt.warm, otp := u.otpStopped w }
        potiks := u.potiks, fresh := u.fresh, pending := u.pending } := by rw [(otpStop_frame u w).2]; rfl
  have hpins : ∀ f ∈ pinFields, (u.coldClear w cause).fld f = s.fld f := fun f hf => (coldClear_pins u w cause f hf).trans (by rw [hu]; rfl)
  rw [hbase] at hstop
  refine ⟨?_, ?_, coldClear_cause u w cause hcause, coldClear_onlyFields u w cause, hpins⟩
  · rw [hstop, hu]; rfl
  · rw [hstop, hu]

theorem exec_powerOnReset (s : State) (w : Nat) : exec (.powerOnReset w) s = .next { s.start.resetAssert 0 w with pending := s.pending } := rfl
theorem exec_coldReset (s : State) (w : Nat) : exec (.coldReset w) s = .next { s.start.resetAssert 1 w with pending := s.pending } := rfl
theorem exec_warmReset (s : State) (w : Nat) : exec (.warmReset w) s = .next { s.start.resetAssert 2 w with pending := s.pending } := rfl

/-- A power-on reset, or a cold reset while neither is asserted. -/
theorem completes_coldLeft (s : State) (w cause : Nat) (c : Instr) (h : c = .powerOnReset w ∧ s.mgt.por = false ∧ cause = 0 ∨
    c = .coldReset w ∧ s.mgt.por = false ∧ s.mgt.cold = false ∧ cause = 1) : Completes c s (s.coldLeft w cause) := by
  rcases h with ⟨rfl, hpor, rfl⟩ | ⟨rfl, hpor, hcold, rfl⟩
  · have he : s.start.resetAssert 0 w = ({ s.start with mgt := { s.mgt with por := true } } : State).coldClear w 0 := by
      simp [resetAssert, hpor]
    refine ⟨_, exec_powerOnReset s w, coldLeft_withPending ?_⟩
    rw [he]
    exact coldClear_left w 0 (by decide) (by simp)
  · have he : s.start.resetAssert 1 w = ({ s.start with mgt := { s.mgt with cold := true } } : State).coldClear w 1 := by
      simp [resetAssert, hpor, hcold]
    refine ⟨_, exec_coldReset s w, coldLeft_withPending ?_⟩
    rw [he]
    exact coldClear_left w 1 (by decide) (by simp)

/-! ### Resets absorbed (R49) -/

theorem powerOnReset_absorbed (s : State) (w : Nat) (h : s.mgt.por = true) : exec (.powerOnReset w) s = .next { s with out := [] } := by
  have he : s.start.resetAssert 0 w = s.start := by simp [resetAssert, h]
  rw [exec_powerOnReset, he]
  rfl

theorem coldReset_absorbed (s : State) (w : Nat) (h : s.mgt.por = true ∨ s.mgt.cold = true) :
    exec (.coldReset w) s = .next { s with out := [], mgt := { s.mgt with cold := true } } := by
  have he : s.start.resetAssert 1 w = { s.start with mgt := { s.mgt with cold := true } } := by
    rcases h with h | h <;> simp [resetAssert, h]
  rw [exec_coldReset, he]
  rfl

theorem warmReset_absorbed (s : State) (w : Nat) (h : s.inReset = true) :
    exec (.warmReset w) s = .next { s with out := [], mgt := { s.mgt with warm := true } } := by
  have he : s.start.resetAssert 2 w = { s.start with mgt := { s.mgt with warm := true } } := if_pos h
  rw [exec_warmReset, he]
  rfl

end State
end Sys2Proof.Machine

namespace Sys2Proof.Machine

theorem ofLe_lt (bs : Bytes) : ofLe bs < 256 ^ bs.length := by
  induction bs with
  | nil => simp [ofLe]
  | cons b bs ih =>
    have hb : b.toNat < 256 := b.isLt
    simp only [ofLe, List.length_cons, Nat.pow_succ]
    omega

/-- `n` bytes spell a number of `n` bytes. -/
theorem bytesAt_lt (bs : Bytes) (i n : Nat) : bytesAt bs i n < 256 ^ n :=
  Nat.lt_of_lt_of_le (ofLe_lt _) (Nat.pow_le_pow_right (by decide) (List.length_take_le _ _))

theorem b2n_lt (b : Bool) : b2n b < 2 := by cases b <;> decide

namespace State

/-- One-bit fields written with a Bool read as it. -/
theorem flag_setFld_b2n (s : State) (f : Fld) (b : Bool) (h : f.lo + f.w ≤ 64) (hw : f.w = 1) : (s.setFld f (b2n b)).flag f = b := by
  rw [flag, fld_setFld_same _ _ _ h, hw]
  cases b <;> rfl

/-- Registers that no write of a list of field writes touches read as before. -/
theorem reg_foldl_setFld {α : Type} (f : α → Fld) (v : α → Nat) (l : List α) (s : State) {a : Nat} (h : ∀ x ∈ l, a ≠ (f x).addr) :
    (l.foldl (fun s x => s.setFld (f x) (v x)) s).reg a = s.reg a :=
  List.foldlRecOn l _ (motive := fun t : State => t.reg a = s.reg a) rfl
    (fun _ ht x hx => (reg_setFld_other _ _ _ (h x hx)).trans ht)

/-- All but the registers stays under a list of field writes. -/
theorem rest_foldl_setFld {α : Type} (f : α → Fld) (v : α → Nat) (l : List α) (s : State) :
    l.foldl (fun s x => s.setFld (f x) (v x)) s = { s with regs := (l.foldl (fun s x => s.setFld (f x) (v x)) s).regs } :=
  List.foldlRecOn l _ (motive := fun t : State => t = { s with regs := t.regs }) rfl (fun _ ht _ _ => by rw [ht]; rfl)

/-! ### Stage OTP (R485) -/

/-- A start-up that fails writes BOOT alone. -/
theorem reg_bootFail (s : State) (r : Nat) {a : Nat} (ha : a ≠ 0x1600) : (s.bootFail r).reg a = s.reg a := by
  unfold bootFail
  rw [reg_setFld_other _ _ _ ha, reg_setFld_other _ _ _ ha]
  rfl

/-- A start-up that fails is in stage FAILED, and shows its reason. -/
theorem bootFail_stage (s : State) (r : Nat) (hr : r < 16) :
    (s.bootFail r).fld F.MGT_BOOT_STAGE = 7 ∧ (s.bootFail r).fld F.MGT_BOOT_FAIL_REASON = r := by
  unfold bootFail
  rw [fld_setFld_bits _ _ _ _ (by decide) (by decide), fld_setFld_same _ _ _ (by decide), fld_setFld_same _ _ _ (by decide)]
  exact ⟨rfl, Nat.mod_eq_of_lt hr⟩

/-- Showing the field's status writes OTP alone. -/
theorem reg_otpShow (s : State) {a : Nat} (ha : a ≠ 0x1618) : s.otpShow.reg a = s.reg a := by
  unfold otpShow
  rw [reg_setFld_other _ _ _ ha, reg_setFld_other _ _ _ ha, reg_setFld_other _ _ _ ha]

/-- The generation selected in stage OTP, shown: its number, mask and identifier, and the cores that the mask disables. -/
def otpTaken (s : State) (g : Nat) : State :=
  let c := otpUsed g (s.otpArea g)
  let m := otpEnable c
  let s := ((s.setFld F.MGT_OTP_GEN_IN_USE g).setFld F.MGT_OTP_MASK_ENABLE m).setFld F.MGT_OTP_MASK1_ENABLE (m / 2 ^ 64)
  let s := s.setFld F.MGT_EUI64_EUI64 (bytesAt (otpBytes c) 16 8)
  let s := (List.range 84).foldl (fun s k => s.setFld (F.STATUS_DISABLED.at (16 + k)) (b2n (!bit m k))) s
  s.setFld F.MGT_BOOT_STAGE 1

theorem stageOtp_none (s : State) (h : s.otpSelected = none) : s.stageOtp = s.otpShow.bootFail 1 := by
  have : s.otpShow.otpSelected = none := h
  simp only [stageOtp, this]

theorem stageOtp_some (s : State) (g : Nat) (h : s.otpSelected = some g) : s.stageOtp = s.otpShow.otpTaken g := by
  have : s.otpShow.otpSelected = some g := h
  simp only [stageOtp, this, otpTaken]

theorem otpSelected_lt (s : State) (g : Nat) (h : s.otpSelected = some g) : g < 4 := by
  have := List.mem_of_find?_eq_some h
  simp at this
  omega

/-- Registers below MGT's start-up stay. -/
theorem reg_otpTaken (s : State) (g : Nat) {a : Nat} (h : a < 0x1600) : (s.otpTaken g).reg a = s.reg a := by
  unfold otpTaken
  dsimp only
  rw [reg_setFld_other _ _ _ (by simp only; omega), reg_foldl_setFld _ _ _ _ (fun k _ => by simp only [Fld.at]; omega)]
  iterate 4 rw [reg_setFld_other _ _ _ (by simp only; omega)]

/-- Start-up goes on to stage BIST. -/
theorem otpTaken_stage (s : State) (g : Nat) : (s.otpTaken g).fld F.MGT_BOOT_STAGE = 1 := by
  unfold otpTaken
  exact fld_setFld_same _ _ _ (by decide)

/-- The cores' STATUS registers are none of MGT's. -/
theorem reg_foldl_disabled (s : State) (v : Nat → Nat) {a : Nat} (h : a % 0x80000 ≠ 0x10) :
    ((List.range 84).foldl (fun s k => s.setFld (F.STATUS_DISABLED.at (16 + k)) (v k)) s).reg a = s.reg a :=
  reg_foldl_setFld (fun k => F.STATUS_DISABLED.at (16 + k)) v _ _ (fun k _ => by simp only [Fld.at]; omega)

theorem otpTaken_gen (s : State) (g : Nat) (h : g < 4) : (s.otpTaken g).fld F.MGT_OTP_GEN_IN_USE = g := by
  have hr : (s.otpTaken g).reg 0x1618 = (s.setFld F.MGT_OTP_GEN_IN_USE g).reg 0x1618 := by
    unfold otpTaken
    dsimp only
    rw [reg_setFld_other _ _ _ (by decide), reg_foldl_disabled _ _ (by decide)]
    iterate 3 rw [reg_setFld_other _ _ _ (by decide)]
  rw [fld, hr]
  exact (fld_setFld_same s F.MGT_OTP_GEN_IN_USE g (by decide)).trans (Nat.mod_eq_of_lt h)

theorem otpTaken_eui64 (s : State) (g : Nat) :
    (s.otpTaken g).fld F.MGT_EUI64_EUI64 = bytesAt (otpBytes (otpUsed g (s.otpArea g))) 16 8 := by
  unfold otpTaken
  dsimp only
  rw [fld_setFld_reg _ _ _ _ (by decide), fld, reg_foldl_disabled _ _ (by decide)]
  exact (fld_setFld_same _ F.MGT_EUI64_EUI64 _ (by decide)).trans (Nat.mod_eq_of_lt (bytesAt_lt _ 16 8))

/-- The last write of core `k`'s bit is the one read. -/
theorem flag_foldl_disabled (l : List Nat) (v : Nat → Bool) (s : State) {k : Nat} (h : k ∈ l) :
    (l.foldl (fun s k => s.setFld (F.STATUS_DISABLED.at (16 + k)) (b2n (v k))) s).disabled (16 + k) = v k := by
  induction l generalizing s with
  | nil => cases h
  | cons x l ih =>
    by_cases hk : k ∈ l
    · exact ih _ hk
    · obtain rfl : k = x := by simpa [hk] using h
      have hrest : ∀ y ∈ l, (F.STATUS_DISABLED.at (16 + k)).addr ≠ (F.STATUS_DISABLED.at (16 + y)).addr := fun y hy he => hk (by
        have : y = k := by simp only [Fld.at] at he; omega
        exact this ▸ hy)
      rw [List.foldl_cons, disabled, flag, fld, reg_foldl_setFld (fun k => F.STATUS_DISABLED.at (16 + k)) _ l _ hrest]
      exact flag_setFld_b2n s (F.STATUS_DISABLED.at (16 + k)) (v k) (by simp [Fld.at]) rfl

theorem otpTaken_disabled (s : State) (g k : Nat) (h : k < 84) :
    (s.otpTaken g).disabled (16 + k) = !bit (otpEnable (otpUsed g (s.otpArea g))) k := by
  have hr : (F.STATUS_DISABLED.at (16 + k)).addr ≠ 0x1600 := by simp only [Fld.at]; omega
  unfold otpTaken
  dsimp only
  rw [disabled, flag, fld_setFld_reg _ _ _ _ hr]
  exact flag_foldl_disabled _ (fun k => !bit (otpEnable (otpUsed g (s.otpArea g))) k) _ (List.mem_range.2 h)

/-- Stage OTP leaves island 0's causes as they were, and of MGT's data all but a held certificate check. -/
theorem stageOtp_keeps (s : State) :
    s.stageOtp.reg 0x30 = s.reg 0x30 ∧ { s.stageOtp.mgt with certHeld := false } = { s.mgt with certHeld := false } := by
  cases h : s.otpSelected with
  | none =>
    rw [stageOtp_none s h]
    exact ⟨(reg_bootFail _ _ (by decide)).trans (reg_otpShow s (by decide)), rfl⟩
  | some g =>
    rw [stageOtp_some s g h]
    refine ⟨(reg_otpTaken _ g (by decide)).trans (reg_otpShow s (by decide)), ?_⟩
    have : (s.otpShow.otpTaken g).mgt = s.mgt := by
      unfold otpTaken
      dsimp only
      rw [mgt_setFld, rest_foldl_setFld (fun k => F.STATUS_DISABLED.at (16 + k))]
      rfl
    rw [this]

/-! ### RESET_RELEASE (R49, R478) -/

/-- MGT's data with the reset input `which` released. -/
def releasedInput (m : Mgt) (which : Nat) : Mgt :=
  match which with | 0 => { m with por := false } | 1 => { m with cold := false } | _ => { m with warm := false }

/-- The last input released at `now`, before start-up resumes: a sticky bit raises island 0's interrupt (R59). -/
def releasedLast (s : State) (m : Mgt) (now : Int) : State :=
  let s : State := { s with mgt := { m with released := some now } }
  if s.stickyBits then s.pend 0 8 else s

/-- Start-up resumes in the stage at which the reset has left it. -/
def resumeStage (s : State) : State :=
  match s.fld F.MGT_BOOT_STAGE with
  | 0 => s.stageOtp
  | 2 => if s.flag F.MGT_ID_CTRL_CERT_OK then s.setFld F.MGT_BOOT_STAGE 3 else s
  | _ => s

theorem exec_resetRelease (s : State) (which : Nat) (now : Int) :
    exec (.resetRelease which now) s = .next { s.start.resetRelease which now with pending := s.pending } := rfl

theorem resetRelease_stays (s : State) (which : Nat) (now : Int) (m : Mgt) (hm : m = releasedInput s.mgt which)
    (h : (m.por || m.cold || m.warm) = true ∨ s.inReset = false ∧ s.fld F.MGT_BOOT_STAGE ≠ 0) :
    s.resetRelease which now = { s with mgt := m } := by
  subst hm
  have hc : (({ s with mgt := releasedInput s.mgt which } : State).inReset || (!s.inReset && s.fld F.MGT_BOOT_STAGE != 0)) = true := by
    rcases h with h | ⟨h1, h2⟩
    · simp only [inReset, h, Bool.true_or]
    · simp [h1, h2]
  exact if_pos hc

theorem resetRelease_resumes (s : State) (which : Nat) (now : Int) (m : Mgt) (hm : m = releasedInput s.mgt which)
    (h : (m.por || m.cold || m.warm) = false) (hs : s.inReset = true ∨ s.fld F.MGT_BOOT_STAGE = 0) :
    s.resetRelease which now = (s.releasedLast m now).resumeStage := by
  subst hm
  have hc : (({ s with mgt := releasedInput s.mgt which } : State).inReset || (!s.inReset && s.fld F.MGT_BOOT_STAGE != 0)) = false := by
    have h1 : ({ s with mgt := releasedInput s.mgt which } : State).inReset = false := h
    rcases hs with hs | hs <;> simp [h1, hs]
  exact if_neg (Bool.eq_false_iff.mp hc)

/-- The release keeps every register but island 0's causes, and sets MGT's data. -/
theorem releasedLast_reg (s : State) (m : Mgt) (now : Int) {a : Nat} (ha : a ≠ 0x30) : (s.releasedLast m now).reg a = s.reg a := by
  unfold releasedLast
  dsimp only
  split
  · rw [pend_frame]; exact reg_setReg_other _ _ ha
  · rfl

theorem releasedLast_mgt (s : State) (m : Mgt) (now : Int) :
    { (s.releasedLast m now).mgt with msiWait := [] } = { m with released := some now, msiWait := [] } := by
  unfold releasedLast
  dsimp only
  split
  · rw [pend_frame]
  · rfl

/-- A sticky bit has raised cause 8 of island 0. -/
theorem releasedLast_sticky (s : State) (m : Mgt) (now : Int) (h : s.stickyBits = true) :
    getBits ((s.releasedLast m now).reg 0x30) 8 1 = 1 := by
  have he : s.releasedLast m now = ({ s with mgt := { m with released := some now } } : State).pend 0 8 := if_pos h
  have hr : (s.releasedLast m now).reg 0x30 = s.reg 0x30 ||| BitVec.ofNat 64 (2 ^ 8) := by
    rw [he, pend_frame]; exact reg_setReg_same _ _ _
  have hb : (getBits ((s.releasedLast m now).reg 0x30) 8 1).testBit 0 = true := by
    rw [hr, testBit_getBits]; simp
  have hlt := getBits_lt ((s.releasedLast m now).reg 0x30) 8 1
  rw [Nat.testBit_zero, decide_eq_true_eq] at hb
  omega

theorem resumeStage_otp (s : State) (h : s.fld F.MGT_BOOT_STAGE = 0) : s.resumeStage = s.stageOtp := by
  rw [resumeStage, h]
  rfl

/-- After the key is known, a certificate that was checked leads to stage IMAGE. -/
theorem resumeStage_identity (s : State) (h : s.fld F.MGT_BOOT_STAGE = 2) :
    s.resumeStage = if s.flag F.MGT_ID_CTRL_CERT_OK then s.setFld F.MGT_BOOT_STAGE 3 else s := by
  rw [resumeStage, h]
  rfl

theorem resumeStage_other (s : State) (h0 : s.fld F.MGT_BOOT_STAGE ≠ 0) (h2 : s.fld F.MGT_BOOT_STAGE ≠ 2) : s.resumeStage = s := by
  unfold resumeStage
  split
  · contradiction
  · contradiction
  · rfl

/-- Start-up resumed leaves island 0's causes as they were, and of MGT's data all but a held certificate check. -/
theorem resumeStage_keeps (s : State) :
    s.resumeStage.reg 0x30 = s.reg 0x30 ∧ { s.resumeStage.mgt with certHeld := false } = { s.mgt with certHeld := false } := by
  by_cases h0 : s.fld F.MGT_BOOT_STAGE = 0
  · rw [resumeStage_otp s h0]; exact stageOtp_keeps s
  by_cases h2 : s.fld F.MGT_BOOT_STAGE = 2
  · rw [resumeStage_identity s h2]
    split
    · exact ⟨reg_setFld_other _ _ _ (by decide), rfl⟩
    · exact ⟨rfl, rfl⟩
  · rw [resumeStage_other s h0 h2]
    exact ⟨rfl, rfl⟩

/-- What the last release leaves (R478, R485), between `s` and `t`: the clause of the statement of resets. -/
def resumed (s : State) (now : Int) (t : State) : Prop :=
  t.mgt.released = some now ∧ t.inReset = false ∧
  (s.fld F.MGT_BOOT_STAGE = 0 → s.otpSelected = none → t.fld F.MGT_BOOT_STAGE = 7 ∧ t.fld F.MGT_BOOT_FAIL_REASON = 1) ∧
  (∀ g, s.fld F.MGT_BOOT_STAGE = 0 → s.otpSelected = some g → t.fld F.MGT_BOOT_STAGE = 1 ∧ t.fld F.MGT_OTP_GEN_IN_USE = g ∧
    t.fld F.MGT_EUI64_EUI64 = bytesAt (otpBytes (otpUsed g (s.otpArea g))) 16 8 ∧
    ∀ k < 84, t.disabled (16 + k) = !bit (otpEnable (otpUsed g (s.otpArea g))) k) ∧
  (s.fld F.MGT_BOOT_STAGE = 2 → t.fld F.MGT_BOOT_STAGE = if s.flag F.MGT_ID_CTRL_CERT_OK then 3 else 2) ∧
  (s.fld F.MGT_BOOT_STAGE ≠ 0 → s.fld F.MGT_BOOT_STAGE ≠ 2 → t.fld F.MGT_BOOT_STAGE = s.fld F.MGT_BOOT_STAGE) ∧
  (s.stickyBits = true → getBits (t.reg (F.INT_PEND_ERR.at 0).addr) 8 1 = 1)

theorem resumed_withPending {s t : State} {now : Int} (h : s.start.resumed now t) : s.resumed now { t with pending := s.pending } := h

/-- Start-up resumed in a state `u` that differs from `s` in island 0's causes and in MGT's data, its field being the same. -/
theorem resumed_resumeStage {s u : State} {now : Int} (hfld : ∀ f : Fld, f.addr ≠ 0x30 → u.fld f = s.fld f)
    (hotp : u.mgt.otp = s.mgt.otp) (hrel : u.mgt.released = some now) (hin : u.inReset = false)
    (hsticky : s.stickyBits = true → getBits (u.reg 0x30) 8 1 = 1) : s.resumed now u.resumeStage := by
  have harea : ∀ g, u.otpArea g = s.otpArea g := fun g => by rw [otpArea, otpArea, hotp]
  have hsel : u.otpSelected = s.otpSelected := by simp only [otpSelected, harea]
  have hstage := hfld F.MGT_BOOT_STAGE (by decide)
  have hcert : u.flag F.MGT_ID_CTRL_CERT_OK = s.flag F.MGT_ID_CTRL_CERT_OK := by rw [flag, flag, hfld _ (by decide)]
  obtain ⟨hpend, hkeeps⟩ := resumeStage_keeps u
  refine ⟨(congrArg Mgt.released hkeeps).trans hrel, ?_, fun hst hg => ?_, fun g hst hg => ?_, fun hst => ?_,
    fun hn0 hn2 => ?_, fun hb => (congrArg (fun v => getBits v 8 1) hpend).trans (hsticky hb)⟩
  · exact (congrArg (fun m : Mgt => m.por || m.cold || m.warm) hkeeps).trans hin
  · rw [resumeStage_otp u (hstage.trans hst), stageOtp_none u (hsel.trans hg)]
    exact bootFail_stage u.otpShow 1 (by decide)
  · rw [resumeStage_otp u (hstage.trans hst), stageOtp_some u g (hsel.trans hg), ← harea g]
    exact ⟨otpTaken_stage _ g, otpTaken_gen _ g (otpSelected_lt u g (hsel.trans hg)), otpTaken_eui64 u.otpShow g, otpTaken_disabled u.otpShow g⟩
  · rw [resumeStage_identity u (hstage.trans hst), hcert]
    split
    · exact fld_setFld_same _ _ _ (by decide)
    · exact hstage.trans hst
  · rw [resumeStage_other u (by rwa [hstage]) (by rwa [hstage])]
    exact hstage

theorem resumed_resetRelease (s : State) (which : Nat) (now : Int) (m : Mgt) (hm : m = releasedInput s.mgt which)
    (h : (m.por || m.cold || m.warm) = false) (hs : s.inReset = true ∨ s.fld F.MGT_BOOT_STAGE = 0) :
    s.resumed now (s.resetRelease which now) := by
  have hmgt := releasedLast_mgt s m now
  have hotp : m.otp = s.mgt.otp := by subst hm; unfold releasedInput; split <;> rfl
  rw [resetRelease_resumes s which now m hm h hs]
  exact resumed_resumeStage (fun f hf => by simp only [fld, releasedLast_reg s m now hf]) ((congrArg Mgt.otp hmgt).trans hotp)
    (congrArg Mgt.released hmgt) ((congrArg (fun m : Mgt => m.por || m.cold || m.warm) hmgt).trans h) (releasedLast_sticky s m now)

theorem completes_resetRelease (s : State) (which : Nat) (now : Int) (m : Mgt) (hm : m = releasedInput s.mgt which)
    (h : (m.por || m.cold || m.warm) = false) (hs : s.inReset = true ∨ s.fld F.MGT_BOOT_STAGE = 0) :
    Completes (.resetRelease which now) s (s.resumed now) :=
  ⟨_, exec_resetRelease s which now, resumed_withPending (resumed_resetRelease s.start which now m hm h hs)⟩

theorem exec_resetRelease_stays (s : State) (which : Nat) (now : Int) (m : Mgt) (hm : m = releasedInput s.mgt which)
    (h : (m.por || m.cold || m.warm) = true ∨ s.inReset = false ∧ s.fld F.MGT_BOOT_STAGE ≠ 0) :
    exec (.resetRelease which now) s = .next { s with out := [], mgt := m } := by
  rw [exec_resetRelease, resetRelease_stays s.start which now m hm h]
  rfl

end State
end Sys2Proof.Machine

namespace Sys2Proof.Machine

/-- A sum of powers of two from `2 ^ k` on is a multiple of it. -/
theorem two_pow_dvd_sum_pow {k : Nat} {l : List Nat} (h : ∀ x ∈ l, k ≤ x) : 2 ^ k ∣ (l.map (fun n => 2 ^ n)).sum := by
  induction l with
  | nil => exact Nat.dvd_zero _
  | cons x l ih =>
    rw [List.map_cons, List.sum_cons]
    exact Nat.dvd_add (Nat.pow_dvd_pow 2 (h x (List.mem_cons_self ..))) (ih (fun y hy => h y (List.mem_cons_of_mem _ hy)))

/-- A power of two added to a multiple of the next one adds its bit. -/
theorem testBit_pow_add {x r : Nat} (h : 2 ^ (x + 1) ∣ r) (i : Nat) : (2 ^ x + r).testBit i = (decide (x = i) || r.testBit i) := by
  obtain ⟨q, rfl⟩ := h
  have hx : 2 ^ x < 2 ^ (x + 1) := Nat.pow_lt_pow_right (by decide) (Nat.lt_succ_self x)
  rw [Nat.add_comm, Nat.testBit_two_pow_mul_add q hx, Nat.testBit_two_pow, Nat.testBit_two_pow_mul]
  by_cases hi : i < x + 1
  · rw [if_pos hi, decide_eq_false (Nat.not_le.2 hi), Bool.false_and, Bool.or_false]
  · rw [if_neg hi, decide_eq_false (by omega : ¬ x = i), decide_eq_true (Nat.not_lt.1 hi), Bool.true_and, Bool.false_or]

/-- The sum of ascending powers of two has exactly their bits. -/
theorem bit_sum_pow {l : List Nat} (h : l.Pairwise (· < ·)) (i : Nat) : bit ((l.map (fun n => 2 ^ n)).sum) i = l.contains i := by
  induction l with
  | nil => exact Nat.zero_testBit i
  | cons x l ih =>
    obtain ⟨hx, hl⟩ := List.pairwise_cons.1 h
    have hbit : bit ((l.map (fun n => 2 ^ n)).sum) i = ((l.map (fun n => 2 ^ n)).sum).testBit i := rfl
    rw [bit, List.map_cons, List.sum_cons, testBit_pow_add (two_pow_dvd_sum_pow hx), ← hbit, ih hl, List.contains_cons]
    by_cases hi : x = i
    · rw [decide_eq_true hi, hi, beq_self_eq_true]
    · rw [decide_eq_false hi, beq_false_of_ne (Ne.symm hi)]

theorem bit_mod_pow (v w i : Nat) (h : i < w) : bit (v % 2 ^ w) i = bit v i := by simp [bit, Nat.testBit_mod_two_pow, h]

namespace State

/-! ### Tiles of the tensor cores keep what start-up speaks of -/

theorem keepsStartUp.tile {s t : State} (h : s.keepsStartUp t) {f : Fld} (c v : Nat) (ha : f.addr = 0x801000) (hs : f.step = 0x80000) :
    s.keepsStartUp (t.setFld (f.at c) v) :=
  h.setFld v (startUpReg_at f c (by rw [hs]) (by rw [ha]; decide) (by rw [ha]; decide))

theorem showTile_keeps (s : State) (c : Nat) : s.keepsStartUp (s.showTile c) ∧ (s.showTile c).sto = s.sto ∧ (s.showTile c).stw = s.stw := by
  have h := keepsStartUp.refl s
  unfold showTile
  split
  · exact ⟨(((h.tile c _ rfl rfl).tile c _ rfl rfl).tile c _ rfl rfl).tile c _ rfl rfl, rfl, rfl⟩
  · exact ⟨((((h.tile c _ rfl rfl).tile c _ rfl rfl).tile c _ rfl rfl).tile c _ rfl rfl).tile c _ rfl rfl, rfl, rfl⟩

theorem setJobs_keeps (s : State) (c : Nat) (l : List CoreJob) : s.keepsStartUp (s.setJobs c l) ∧ (s.setJobs c l).sto = s.sto := by
  obtain ⟨hkeeps, hsto, -⟩ := showTile_keeps ({ s with tdsp := _ } : State) c
  exact ⟨hkeeps, hsto⟩

theorem giveFrom_keeps (s : State) (c : Nat) (j : CoreJob) : s.keepsStartUp (s.giveFrom c j) ∧ (s.giveFrom c j).sto = s.sto := by
  unfold giveFrom give
  split
  · exact setJobs_keeps _ _ _
  · split
    · exact ⟨(om_emit _ _).startUp, rfl⟩
    · exact ⟨.refl s, rfl⟩

theorem reissue_keeps (s : State) (c : Nat) : s.keepsStartUp (s.reissue c) ∧ (s.reissue c).sto = s.sto := by
  unfold reissue
  refine List.foldlRecOn _ _ (motive := fun t : State => s.keepsStartUp t ∧ t.sto = s.sto) (setJobs_keeps s c []) (fun t ⟨hk, hs⟩ j _ => ?_)
  obtain ⟨hk', hs'⟩ := giveFrom_keeps t (c + 1) j
  exact ⟨hk.trans hk', hs'.trans hs⟩

/-! ### Cores fenced by BIST (R479) -/

/-- What fencing cores leaves of what BIST has found: MGT's registers of start-up and its data, DISABLED of every core, the store; a core
that is fenced stays so. -/
def fencesOnly (s t : State) : Prop :=
  (∀ a, 0x1600 ≤ a → a ≤ 0x1618 → t.reg a = s.reg a) ∧ (∀ m, t.disabled m = s.disabled m) ∧
  (∀ m, s.flag (F.STATUS_FENCED.at m) = true → t.flag (F.STATUS_FENCED.at m) = true) ∧ t.lasting = s.lasting ∧ t.sto = s.sto

theorem fencesOnly.refl (s : State) : s.fencesOnly s := ⟨fun _ _ _ => rfl, fun _ => rfl, fun _ h => h, rfl, rfl⟩

theorem fencesOnly.trans {s t u : State} (h : s.fencesOnly t) (k : t.fencesOnly u) : s.fencesOnly u := by
  obtain ⟨hr, hd, hf, hl, hs⟩ := h
  obtain ⟨kr, kd, kf, kl, ks⟩ := k
  exact ⟨fun a h1 h2 => (kr a h1 h2).trans (hr a h1 h2), fun m => (kd m).trans (hd m), fun m h => kf m (hf m h), kl.trans hl, ks.trans hs⟩

theorem keepsStartUp.fencesOnly {s t : State} (h : s.keepsStartUp t) (hs : t.sto = s.sto) : s.fencesOnly t :=
  ⟨fun a h1 h2 => h.reg (by simp [startUpReg, h1, h2]), fun m => h.flag (startUpReg_status m),
    fun m hm => (h.flag (f := F.STATUS_FENCED.at m) (startUpReg_status m)).trans hm, h.2, hs⟩

theorem addr_status_ne (n a : Nat) (h1 : 0x1600 ≤ a) (h2 : a ≤ 0x1618) : a ≠ 0x10 + n * 0x80000 := by omega

/-- A field of STATUS other than DISABLED and FENCED written. -/
theorem fencesOnly_setFld_status (s : State) (n v : Nat) {f : Fld} (ha : f.addr = 0x10 + n * 0x80000)
    (hf : (f.lo + f.w ≤ 2 ∨ 5 ≤ f.lo) ∧ f.lo + f.w ≤ 64) : s.fencesOnly (s.setFld f v) := by
  have hbits : ∀ m, (s.setFld f v).flag (F.STATUS_DISABLED.at m) = s.flag (F.STATUS_DISABLED.at m) ∧
      (s.setFld f v).flag (F.STATUS_FENCED.at m) = s.flag (F.STATUS_FENCED.at m) := fun m => by
    simp only [flag]
    rw [fld_setFld_bits s f (F.STATUS_DISABLED.at m) v (by simp only [Fld.at]; omega) (by simp [Fld.at]),
      fld_setFld_bits s f (F.STATUS_FENCED.at m) v (by simp only [Fld.at]; omega) (by simp [Fld.at])]
    exact ⟨rfl, rfl⟩
  exact ⟨fun a h1 h2 => reg_setFld_other _ _ _ (by rw [ha]; exact addr_status_ne n a h1 h2), fun m => (hbits m).1,
    fun m h => (hbits m).2.trans h, rfl, rfl⟩

/-- FENCED set. -/
theorem fencesOnly_setFenced (s : State) (n : Nat) : s.fencesOnly (s.setFld (F.STATUS_FENCED.at n) 1) := by
  refine ⟨fun a h1 h2 => reg_setFld_other _ _ _ (addr_status_ne n a h1 h2), fun m => ?_, fun m h => ?_, rfl, rfl⟩
  · simp only [disabled, flag]
    rw [fld_setFld_bits _ _ _ _ (by simp [Fld.at]) (by simp [Fld.at])]
  · by_cases hm : m = n
    · subst hm
      exact flag_setFld_b2n s (F.STATUS_FENCED.at m) true (by simp [Fld.at]) rfl
    · simp only [flag] at h ⊢
      rwa [fld_setFld_reg _ _ _ _ (by simp only [Fld.at]; omega)]

/-- Winter state of core `c` gives its tiles to other cores. -/
theorem winterWork_core (s : State) (c : Nat) : s.winterWork (16 + c) = s.reissue c := by
  have hcase : s.winterWork (c + 16) = if 16 ≤ c + 16 then s.reissue (c + 16 - 16) else s := rfl
  rw [Nat.add_comm, hcase, if_pos (Nat.le_add_left 16 c), Nat.add_sub_cancel]

/-- A core enters Winter state: STATE and QUIET_LEFT_MS of its STATUS, messages, and its tiles given to other cores. -/
theorem fencesOnly_enterWinter (s : State) (n : Nat) (h : 16 ≤ n) : s.fencesOnly (s.enterWinter n) := by
  have hwork : ∀ t : State, t.winterWork n = t.reissue (n - 16) := fun t => by
    obtain ⟨c, rfl⟩ := Nat.exists_eq_add_of_le h
    rw [winterWork_core, Nat.add_sub_cancel_left]
  have hmsg : ∀ {t u : State}, t.onlyMessages u → t.fencesOnly u := fun hm => hm.startUp.fencesOnly (by rw [hm.2])
  have hre := fun t : State => (reissue_keeps t (n - 16)).1.fencesOnly (reissue_keeps t (n - 16)).2
  unfold enterWinter
  dsimp only
  rw [hwork]
  refine .trans (.trans ?_ (hmsg (om_trigger _ _ _))) (hre _)
  refine .trans (.trans ?_ (hmsg (om_pend _ _ _))) (hmsg (om_trace _ _ _ _))
  exact .trans (fencesOnly_setFld_status s n 1 rfl (by simp [Fld.at])) (fencesOnly_setFld_status _ n _ rfl (by simp [Fld.at]))

theorem fencesOnly_fence (s : State) (n : Nat) (h : 16 ≤ n) : s.fencesOnly (s.fence n) := by
  have hctrl : ∀ t : State, t.fencesOnly (t.setFld (F.CTRL_FENCE.at n) 1) := fun t =>
    ((keepsStartUp.refl t).setFld _ (startUpReg_common 8 n (by decide) (by decide))).fencesOnly rfl
  unfold fence
  split
  · exact .refl s
  · dsimp only
    split
    · exact ((fencesOnly_setFenced s n).trans (hctrl _)).trans (fencesOnly_enterWinter _ n h)
    · exact (fencesOnly_setFenced s n).trans (hctrl _)

/-- A core that is not disabled is fenced by it. -/
theorem fence_fenced (s : State) (n : Nat) (h : 16 ≤ n) (hd : s.disabled n = false) : (s.fence n).flag (F.STATUS_FENCED.at n) = true := by
  have h0 : (s.setFld (F.STATUS_FENCED.at n) 1).flag (F.STATUS_FENCED.at n) = true :=
    flag_setFld_b2n s (F.STATUS_FENCED.at n) true (by simp [Fld.at]) rfl
  have h1 : ((s.setFld (F.STATUS_FENCED.at n) 1).setFld (F.CTRL_FENCE.at n) 1).flag (F.STATUS_FENCED.at n) = true := by
    simp only [flag] at h0 ⊢
    rwa [fld_setFld_reg _ _ _ _ (by simp only [Fld.at]; omega)]
  have hc : (decide (n = 0) || s.disabled n) = false := by simp [hd]; omega
  rw [fence, if_neg (Bool.eq_false_iff.mp hc)]
  dsimp only
  split
  · exact (fencesOnly_enterWinter _ n h).2.2.1 n h1
  · exact h1

theorem fencesOnly_foldl (l : List Nat) (hl : ∀ n ∈ l, 16 ≤ n) (s : State) : s.fencesOnly (l.foldl fence s) :=
  List.foldlRecOn l _ (motive := s.fencesOnly) (.refl s) (fun t ht n hn => ht.trans (fencesOnly_fence t n (hl n hn)))

/-- Every core of the list that is not disabled is fenced. -/
theorem foldl_fence_fenced (l : List Nat) (hl : ∀ n ∈ l, 16 ≤ n) (s : State) {n : Nat} (hn : n ∈ l) (hd : s.disabled n = false) :
    (l.foldl fence s).flag (F.STATUS_FENCED.at n) = true := by
  induction l generalizing s with
  | nil => cases hn
  | cons x l ih =>
    have hx := fencesOnly_fence s x (hl x (by simp))
    have hl' : ∀ n ∈ l, 16 ≤ n := fun n h => hl n (by simp [h])
    rcases List.mem_cons.1 hn with rfl | hn
    · exact (fencesOnly_foldl l hl' _).2.2.1 n (fence_fenced s n (hl n (by simp)) hd)
    · exact ih hl' _ hn ((hx.2.1 n).trans hd)

end State
end Sys2Proof.Machine

namespace Sys2Proof.Machine
namespace State

/-! ### Stage IDENTITY (R480) -/

/-- An identity buffer's words lie in one window. -/
theorem reg_setIdBuf (s : State) (b : Nat) (bs : Bytes) {a : Nat} (h : a % 0x4000000 ≠ 0x1640) : (s.setIdBuf b bs).reg a = s.reg a :=
  List.foldlRecOn _ _ (motive := fun t : State => t.reg a = s.reg a) rfl
    (fun _ ht w _ => (reg_setReg_other _ _ (by simp only [entryAddr]; omega)).trans ht)

theorem rest_setIdBuf (s : State) (b : Nat) (bs : Bytes) : s.setIdBuf b bs = { s with regs := (s.setIdBuf b bs).regs } :=
  List.foldlRecOn _ _ (motive := fun t : State => t = { s with regs := t.regs }) rfl (fun _ ht _ _ => by rw [ht]; rfl)

/-- The registers that start-up writes from stage IDENTITY on: BOOT, ID_CTRL, the identity buffers, and VRD's STATUS. -/
def identityReg (a : Nat) : Bool := a == 0x1600 || a == 0x1648 || a == 0x381000 || a % 0x4000000 == 0x1640

theorem not_identityReg {a : Nat} (h : identityReg a = false) : a ≠ 0x1600 ∧ a ≠ 0x1648 ∧ a ≠ 0x381000 ∧ a % 0x4000000 ≠ 0x1640 := by
  simpa [identityReg, and_assoc] using h

/-- Every other register, and the store, as before. -/
def identityOnly (s t : State) : Prop := (∀ a, identityReg a = false → t.reg a = s.reg a) ∧ t.sto = s.sto

theorem identityOnly.refl (s : State) : s.identityOnly s := ⟨fun _ _ => rfl, rfl⟩

theorem identityOnly.setFld {s t : State} (h : s.identityOnly t) {f : Fld} (v : Nat) (hf : identityReg f.addr = true) :
    s.identityOnly (t.setFld f v) :=
  ⟨fun a ha => (reg_setFld_other _ _ _ (by rintro rfl; simp [hf] at ha)).trans (h.1 a ha), h.2⟩

theorem identityOnly.bootFail {s t : State} (h : s.identityOnly t) (r : Nat) : s.identityOnly (t.bootFail r) :=
  ⟨fun a ha => (reg_bootFail _ _ (not_identityReg ha).1).trans (h.1 a ha), h.2⟩

theorem identityOnly.certRun {s t : State} (h : s.identityOnly t) : s.identityOnly t.certRun := by
  have h0 : s.identityOnly { t with mgt := { t.mgt with certHeld := false } } := h
  unfold State.certRun
  dsimp only
  split
  · have h1 := (h0.setFld (f := F.MGT_ID_CTRL_CERT_OK) 1 rfl).setFld (f := F.MGT_ID_CTRL_CERT_BAD) 0 rfl
    split
    · exact h1.setFld _ rfl
    · exact h1
  · exact (h0.setFld _ rfl).setFld _ rfl

/-- The key unwrapped in stage IDENTITY, its public part shown. -/
def keyTaken (s : State) (key : Bytes) : State :=
  let s := s.setFld F.MGT_BOOT_STAGE 2
  let s := { s with mgt := { s.mgt with key := some key } }
  ((s.setIdBuf 2 key).setFld F.MGT_ID_CTRL_KEY_ERASED 0).setFld F.VRD_STATUS_KEY_LOST 0

theorem keyTaken_mgt (s : State) (key : Bytes) : (s.keyTaken key).mgt = { s.mgt with key := some key } := by
  unfold keyTaken
  dsimp only
  rw [mgt_setFld, mgt_setFld, rest_setIdBuf]
  rfl

theorem identityOnly_keyTaken (s : State) (key : Bytes) : s.identityOnly (s.keyTaken key) := by
  have h0 : s.identityOnly { s.setFld F.MGT_BOOT_STAGE 2 with mgt := { s.mgt with key := some key } } :=
    (identityOnly.refl s).setFld _ rfl
  unfold keyTaken
  dsimp only
  refine .setFld (.setFld ⟨fun a ha => (reg_setIdBuf _ _ _ (not_identityReg ha).2.2.2).trans (h0.1 a ha), ?_⟩ _ rfl) _ rfl
  rw [rest_setIdBuf]
  rfl

theorem keyTaken_shown (s : State) (key : Bytes) :
    (s.keyTaken key).fld F.MGT_BOOT_STAGE = 2 ∧ (s.keyTaken key).flag F.MGT_ID_CTRL_KEY_ERASED = false := by
  unfold keyTaken
  dsimp only
  constructor
  · rw [fld_setFld_reg _ _ _ _ (by decide), fld_setFld_reg _ _ _ _ (by decide), fld, reg_setIdBuf _ _ _ (by decide)]
    exact fld_setFld_same s F.MGT_BOOT_STAGE 2 (by decide)
  · rw [flag, fld_setFld_reg _ _ _ _ (by decide), fld_setFld_same _ _ _ (by decide)]
    rfl

theorem stageIdentity_tamper (s : State) : s.stageIdentity true = (s.setFld F.MGT_BOOT_STAGE 2).bootFail 4 := rfl

theorem otpInUse_setStage (s : State) (v : Nat) : (s.setFld F.MGT_BOOT_STAGE v).otpInUse = s.otpInUse := by
  unfold otpInUse
  rw [fld_setFld_reg _ _ _ _ (by decide)]
  rfl

theorem stageIdentity_noKey (s : State) (h : Config.unwrapKey ((s.otpInUse.drop 24).take 56) = none) :
    s.stageIdentity false = (s.setFld F.MGT_BOOT_STAGE 2).bootFail 3 := by
  simp only [stageIdentity, otpInUse_setStage, h, Bool.false_eq_true, if_false]

theorem stageIdentity_key (s : State) (key : Bytes) (h : Config.unwrapKey ((s.otpInUse.drop 24).take 56) = some key) :
    s.stageIdentity false = if (s.keyTaken key).mgt.certHeld then (s.keyTaken key).certRun else s.keyTaken key := by
  simp only [stageIdentity, otpInUse_setStage, h, Bool.false_eq_true, if_false]
  rfl

theorem identityOnly_stageIdentity (s : State) (tamper : Bool) : s.identityOnly (s.stageIdentity tamper) := by
  have h2 : s.identityOnly (s.setFld F.MGT_BOOT_STAGE 2) := (identityOnly.refl s).setFld _ rfl
  cases tamper with
  | true => exact h2.bootFail 4
  | false =>
    cases h : Config.unwrapKey ((s.otpInUse.drop 24).take 56) with
    | none => rw [stageIdentity_noKey s h]; exact h2.bootFail 3
    | some key =>
      rw [stageIdentity_key s key h]
      split
      · exact (identityOnly_keyTaken s key).certRun
      · exact identityOnly_keyTaken s key

/-! ### BIST_DONE (R479) -/

/-- The islands that failed and are not disabled, ascending. -/
def bistBad (s : State) (failed : List Nat) : List Nat := (List.range 100).filter (fun n => failed.contains n && !s.disabled n)

/-- The poison bits that BIST leaves: those of the failing words. -/
def bistPoison (words : List Nat) : Tab Bool := words.eraseDups.foldl (fun t w => Tab.put no t w true) []

/-- What BIST has found, shown, before cores are fenced. -/
def bistShown (s : State) (failed words : List Nat) : State :=
  let s' := s.setFld F.MGT_BIST0_FAILED (((s.bistBad failed).filter (fun n => n < 64)).map (fun n => 2 ^ n)).sum
  let s' := s'.setFld F.MGT_BIST1_FAILED (((s.bistBad failed).filter (fun n => 64 ≤ n)).map (fun n => 2 ^ (n - 64))).sum
  ({ s' with sto := { s'.sto with poison := bistPoison words } }).addFld F.STO_ECC_UE (bistPoison words).length

/-- The failed cores fenced. -/
def bistFenced (s : State) (failed words : List Nat) : State :=
  ((s.bistBad failed).filter (fun n => 16 ≤ n)).foldl fence (s.bistShown failed words)

theorem bistDone_ignored (s : State) (failed words : List Nat) (low : Bool) (h : s.fld F.MGT_BOOT_STAGE ≠ 1 ∨ s.inReset = true) :
    s.bistDone failed words low = s := by
  have hc : (decide (s.fld F.MGT_BOOT_STAGE ≠ 1) || s.inReset) = true := by rcases h with h | h <;> simp [h]
  exact if_pos hc

theorem bistDone_eq (s : State) (failed words : List Nat) (low : Bool) (hst : s.fld F.MGT_BOOT_STAGE = 1) (hr : s.inReset = false) :
    s.bistDone failed words low = if (s.bistBad failed).any (fun n => decide (n < 16)) then (s.bistFenced failed words).bootFail 2
      else (s.bistFenced failed words).stageIdentity low := by
  have hc : (decide (s.fld F.MGT_BOOT_STAGE ≠ 1) || s.inReset) = false := by simp [hst, hr]
  rw [bistDone, if_neg (Bool.eq_false_iff.mp hc)]
  rfl

theorem mem_bistBad (s : State) (failed : List Nat) (n : Nat) : n ∈ s.bistBad failed ↔ n < 100 ∧ n ∈ failed ∧ s.disabled n = false := by
  simp [bistBad]

theorem bistBad_sorted (s : State) (failed : List Nat) : (s.bistBad failed).Pairwise (· < ·) :=
  List.pairwise_lt_range.filter _

theorem bistBad_contains (s : State) (failed : List Nat) {n : Nat} (h : n < 100) :
    (s.bistBad failed).contains n = (failed.contains n && !s.disabled n) := by
  rw [Bool.eq_iff_iff, List.contains_iff_mem, mem_bistBad]
  simp [h]

/-- What BIST has found changes no register but BIST0, BIST1 and ECC. -/
theorem reg_bistShown (s : State) (failed words : List Nat) {a : Nat} (h0 : a ≠ 0x1608) (h1 : a ≠ 0x1610) (h2 : a ≠ 0x401008) :
    (s.bistShown failed words).reg a = s.reg a := by
  unfold bistShown
  dsimp only
  rw [addFld, reg_setFld_other _ _ _ h2, reg_with_sto, reg_setFld_other _ _ _ h1, reg_setFld_other _ _ _ h0]

theorem bistShown_bist0 (s : State) (failed words : List Nat) : (s.bistShown failed words).fld F.MGT_BIST0_FAILED =
    (((s.bistBad failed).filter (fun n => n < 64)).map (fun n => 2 ^ n)).sum % 2 ^ 64 := by
  unfold bistShown
  dsimp only
  rw [addFld, fld_setFld_reg _ _ _ _ (by decide), fld_with_sto, fld_setFld_reg _ _ _ _ (by decide)]
  exact fld_setFld_same _ _ _ (by decide)

theorem bistShown_bist1 (s : State) (failed words : List Nat) : (s.bistShown failed words).fld F.MGT_BIST1_FAILED =
    (((s.bistBad failed).filter (fun n => 64 ≤ n)).map (fun n => 2 ^ (n - 64))).sum % 2 ^ 36 := by
  unfold bistShown
  dsimp only
  rw [addFld, fld_setFld_reg _ _ _ _ (by decide), fld_with_sto]
  exact fld_setFld_same _ _ _ (by decide)

/-- The islands from 64 on, numbered from 0, are ascending too. -/
theorem pairwise_lt_high {l : List Nat} (h : l.Pairwise (· < ·)) : ((l.filter (fun n => 64 ≤ n)).map (fun n => n - 64)).Pairwise (· < ·) := by
  refine List.pairwise_map.2 ((h.filter _).imp_of_mem ?_)
  intro a b ha hb hab
  simp only [List.mem_filter, decide_eq_true_eq] at ha hb
  omega

/-- BIST0 and BIST1 show the failed cores. -/
theorem bistShown_failed (s : State) (failed words : List Nat) {n : Nat} (h16 : 16 ≤ n) (h100 : n < 100) :
    (s.bistShown failed words).bistFailed n = (failed.contains n && !s.disabled n) := by
  rw [← bistBad_contains s failed h100, bistFailed, decide_eq_true h16, Bool.true_and, bistShown_bist0, bistShown_bist1]
  have hsorted := bistBad_sorted s failed
  split
  · case _ h =>
    rw [bit_mod_pow _ _ _ h, bit_sum_pow (hsorted.filter _), Bool.eq_iff_iff]
    simp [h]
  · case _ h =>
    have hmap : ((s.bistBad failed).filter (fun n => 64 ≤ n)).map (fun n => 2 ^ (n - 64)) =
        (((s.bistBad failed).filter (fun n => 64 ≤ n)).map (fun n => n - 64)).map (fun n => 2 ^ n) := by simp
    rw [bit_mod_pow _ _ _ (by omega), hmap, bit_sum_pow (pairwise_lt_high hsorted), Bool.eq_iff_iff, List.contains_iff_mem, List.contains_iff_mem]
    simp only [List.mem_map, List.mem_filter, decide_eq_true_eq]
    constructor
    · rintro ⟨m, ⟨hm, h64⟩, he⟩
      obtain rfl : m = n := by omega
      exact hm
    · exact fun hn => ⟨n, ⟨hn, by omega⟩, rfl⟩

/-- A word is poisoned if BIST found it failing. -/
theorem get_bistPoison (words : List Nat) (w : Nat) : (bistPoison words).get no w = words.contains w := by
  have hfold : ∀ (l : List Nat) (t : Tab Bool), (l.foldl (fun t w => Tab.put no t w true) t).get no w = (l.contains w || t.get no w) := by
    intro l
    induction l with
    | nil => intro t; simp
    | cons x l ih =>
      intro t
      rw [List.foldl_cons, ih, Tab.get_put, List.contains_cons]
      by_cases h : w = x
      · simp [h]
      · simp [h, beq_false_of_ne h]
  rw [bistPoison, hfold, Bool.eq_iff_iff]
  simp [Tab.get]

/-- What a BIST that acts leaves (R479), between `s` and `t`: the clause of the statement of resets. -/
def bistLeft (s : State) (failed words : List Nat) (low : Bool) (t : State) : Prop :=
  (∀ n, 16 ≤ n → n < 100 → t.bistFailed n = (failed.contains n && !s.disabled n)) ∧
  (∀ n, 16 ≤ n → n < 100 → n ∈ failed → s.disabled n = false → t.flag (F.STATUS_FENCED.at n) = true) ∧
  (∀ w, t.sto.poison.get no w = words.contains w) ∧
  ((∃ n < 16, n ∈ failed ∧ s.disabled n = false) → t.fld F.MGT_BOOT_STAGE = 7 ∧ t.fld F.MGT_BOOT_FAIL_REASON = 2) ∧
  ((∀ n < 16, n ∈ failed → s.disabled n = true) → low = true → t.fld F.MGT_BOOT_STAGE = 7 ∧ t.fld F.MGT_BOOT_FAIL_REASON = 4) ∧
  ((∀ n < 16, n ∈ failed → s.disabled n = true) → low = false → Config.unwrapKey ((s.otpInUse.drop 24).take 56) = none →
    t.fld F.MGT_BOOT_STAGE = 7 ∧ t.fld F.MGT_BOOT_FAIL_REASON = 3) ∧
  (∀ key, (∀ n < 16, n ∈ failed → s.disabled n = true) → low = false → Config.unwrapKey ((s.otpInUse.drop 24).take 56) = some key →
    s.mgt.certHeld = false → t.fld F.MGT_BOOT_STAGE = 2 ∧ t.mgt.key = some key ∧ t.flag F.MGT_ID_CTRL_KEY_ERASED = false)

theorem bistLeft_withPending {s t : State} {failed words : List Nat} {low : Bool} (h : s.start.bistLeft failed words low t) :
    s.bistLeft failed words low { t with pending := s.pending } := h

theorem fencesOnly_bistFenced (s : State) (failed words : List Nat) : (s.bistShown failed words).fencesOnly (s.bistFenced failed words) :=
  fencesOnly_foldl _ (fun n hn => by simpa using (List.mem_filter.1 hn).2) _

/-- What is fenced stays fenced, and what BIST shows stays shown, in whatever stage start-up goes on. -/
theorem bistLeft_of_identityOnly {s t : State} {failed words : List Nat} (h : (s.bistFenced failed words).identityOnly t) :
    (∀ n, 16 ≤ n → n < 100 → t.bistFailed n = (failed.contains n && !s.disabled n)) ∧
    (∀ n, 16 ≤ n → n < 100 → n ∈ failed → s.disabled n = false → t.flag (F.STATUS_FENCED.at n) = true) ∧
    (∀ w, t.sto.poison.get no w = words.contains w) := by
  obtain ⟨hreg, hsto⟩ := h
  obtain ⟨fregs, -, -, -, fsto⟩ := fencesOnly_bistFenced s failed words
  refine ⟨fun n h16 h100 => ?_, fun n h16 h100 hn hd => ?_, fun w => ?_⟩
  · rw [← bistShown_failed s failed words h16 h100]
    simp only [bistFailed, fld]
    rw [hreg 0x1608 rfl, hreg 0x1610 rfl, fregs 0x1608 (by decide) (by decide), fregs 0x1610 (by decide) (by decide)]
  · have hid : identityReg (F.STATUS_FENCED.at n).addr = false := by simp [identityReg, Fld.at]; omega
    have hd' : (s.bistShown failed words).disabled n = false := by
      rw [← hd]; simp only [disabled, flag, fld]
      rw [reg_bistShown] <;> simp only [Fld.at] <;> omega
    have hf := foldl_fence_fenced ((s.bistBad failed).filter (fun n => 16 ≤ n)) (fun n hn => by simpa using (List.mem_filter.1 hn).2)
      (s.bistShown failed words) (List.mem_filter.2 ⟨(mem_bistBad s failed n).2 ⟨h100, hn, hd⟩, by simpa using h16⟩) hd'
    simp only [flag, fld] at hf ⊢
    rw [hreg _ hid]
    exact hf
  · rw [hsto, fsto]
    exact get_bistPoison words w

/-- Some island below the cores failed, or none did. -/
theorem bistBad_any (s : State) (failed : List Nat) :
    (s.bistBad failed).any (fun n => decide (n < 16)) = true ↔ ∃ n < 16, n ∈ failed ∧ s.disabled n = false := by
  simp only [List.any_eq_true, mem_bistBad, decide_eq_true_eq]
  exact ⟨fun ⟨n, ⟨_, h⟩, h16⟩ => ⟨n, h16, h⟩, fun ⟨n, h16, h⟩ => ⟨n, ⟨by omega, h⟩, h16⟩⟩

/-- The generation in use and a held check are those before BIST. -/
theorem bistFenced_keeps (s : State) (failed words : List Nat) :
    (s.bistFenced failed words).otpInUse = s.otpInUse ∧ (s.bistFenced failed words).mgt.certHeld = s.mgt.certHeld := by
  obtain ⟨fregs, -, -, fl, -⟩ := fencesOnly_bistFenced s failed words
  have hmgt : (s.bistFenced failed words).lasting.mgt = s.lasting.mgt := congrArg State.mgt fl
  have hotp : (s.bistFenced failed words).mgt.otp = s.mgt.otp := (congrArg Mgt.otp hmgt :)
  have hgen : (s.bistFenced failed words).fld F.MGT_OTP_GEN_IN_USE = s.fld F.MGT_OTP_GEN_IN_USE := by
    simp only [fld]
    rw [fregs 0x1618 (by decide) (by decide), reg_bistShown s failed words (by decide) (by decide) (by decide)]
  exact ⟨by simp only [otpInUse, otpArea, hotp, hgen], (congrArg Mgt.certHeld hmgt :)⟩

theorem bistLeft_bistDone (s : State) (failed words : List Nat) (low : Bool) (hst : s.fld F.MGT_BOOT_STAGE = 1) (hr : s.inReset = false) :
    s.bistLeft failed words low (s.bistDone failed words low) := by
  have he := bistDone_eq s failed words low hst hr
  obtain ⟨hotp, hheld⟩ := bistFenced_keeps s failed words
  by_cases hbad : ∃ n < 16, n ∈ failed ∧ s.disabled n = false
  · have hno : ¬ ∀ n < 16, n ∈ failed → s.disabled n = true := fun h => by
      obtain ⟨n, h16, hn, hd⟩ := hbad
      exact absurd (h n h16 hn) (by simp [hd])
    rw [he, if_pos ((bistBad_any s failed).2 hbad)]
    obtain ⟨h1, h2, h3⟩ := bistLeft_of_identityOnly ((identityOnly.refl (s.bistFenced failed words)).bootFail 2)
    exact ⟨h1, h2, h3, fun _ => bootFail_stage _ 2 (by decide), fun h => absurd h hno, fun h => absurd h hno, fun _ h => absurd h hno⟩
  · rw [he, if_neg (fun h => hbad ((bistBad_any s failed).1 h))]
    obtain ⟨h1, h2, h3⟩ := bistLeft_of_identityOnly (identityOnly_stageIdentity (s.bistFenced failed words) low)
    refine ⟨h1, h2, h3, fun h => absurd h hbad, fun _ hlow => ?_, fun _ hlow hkey => ?_, fun key _ hlow hkey hcert => ?_⟩
    · rw [hlow, stageIdentity_tamper]
      exact bootFail_stage _ 4 (by decide)
    · rw [← hotp] at hkey
      rw [hlow, stageIdentity_noKey _ hkey]
      exact bootFail_stage _ 3 (by decide)
    · rw [← hotp] at hkey
      have hheld' : ((s.bistFenced failed words).keyTaken key).mgt.certHeld = false := by rw [keyTaken_mgt]; exact hheld.trans hcert
      rw [hlow, stageIdentity_key _ key hkey, hheld', if_neg (by decide)]
      obtain ⟨hstage, herased⟩ := keyTaken_shown (s.bistFenced failed words) key
      exact ⟨hstage, by rw [keyTaken_mgt], herased⟩

theorem exec_bistDone (s : State) (failed words : List Nat) (low : Bool) :
    exec (.bistDone failed words low) s = .next { s.start.bistDone failed words low with pending := s.pending } := rfl

theorem completes_bistDone (s : State) (failed words : List Nat) (low : Bool) (hst : s.fld F.MGT_BOOT_STAGE = 1) (hr : s.inReset = false) :
    Completes (.bistDone failed words low) s (s.bistLeft failed words low) :=
  ⟨_, exec_bistDone s failed words low, bistLeft_withPending (bistLeft_bistDone s.start failed words low hst hr)⟩

theorem exec_bistDone_ignored (s : State) (failed words : List Nat) (low : Bool) (h : s.fld F.MGT_BOOT_STAGE ≠ 1 ∨ s.inReset = true) :
    exec (.bistDone failed words low) s = .next { s with out := [] } := by
  rw [exec_bistDone, bistDone_ignored s.start failed words low h]
  rfl

end State
end Sys2Proof.Machine

namespace Sys2Proof.Machine

theorem eq_or_eq_of_mem_pair {x a b : Nat} (h : x ∈ [a, b]) : x = a ∨ x = b := (List.mem_cons.1 h).imp_right List.mem_singleton.1

namespace State

/-! ### The work of the islands keeps what start-up speaks of (R476, R502) -/

theorem keepsStartUp_incFld {s t : State} (h : s.keepsStartUp t) {f : Fld} (hf : startUpReg f.addr = false) : s.keepsStartUp (t.incFld f) :=
  h.setReg _ hf

theorem keepsStartUp.withTdsp {s t : State} (h : s.keepsStartUp t) (x : Tdsp) : s.keepsStartUp { t with tdsp := x } := h

theorem timReset_keeps (s : State) : s.keepsStartUp s.timReset := by
  have h : ∀ (t : State) (v : Servo) (o : Int), t.keepsStartUp (t.setServo v o) := fun t v o => by
    unfold setServo
    dsimp only
    split
    · exact .refl t
    · exact (om_trace ({ t with tim := { t.tim with servo := v } } : State) _ _ _).startUp
  exact h ({ s with tim := _ } : State) _ _

theorem abandonTx_keeps (s : State) (port : Nat) : s.keepsStartUp (s.abandonTx port) := by
  unfold abandonTx
  split
  · exact .refl s
  · exact (((om_exp s _).trans (om_loseAt _ _ _)).trans (om_incFld _ (by decide))).startUp

theorem ingReset_keeps (s : State) : s.keepsStartUp s.ingReset := (keepsStartUp.refl s).setFld _ (by decide)

theorem setEpochs_keeps (s : State) (l : List AEpoch) : s.keepsStartUp (s.setEpochs l) :=
  ((keepsStartUp.refl s).setFld _ (by decide)).setFld _ (by decide)

theorem alnReset_keeps (s : State) : s.keepsStartUp s.alnReset := by
  refine (keepsStartUp.refl s).foldl _ _ (fun t level _ => ?_)
  dsimp only
  split
  · exact .refl t
  · exact setEpochs_keeps t _

theorem feaReset_keeps (s : State) : s.keepsStartUp s.feaReset := .refl s

theorem setFlight_keeps (s : State) (l : List (Nat × Nat × Nat × Nat)) : s.keepsStartUp (s.setFlight l) := by
  have h0 : s.keepsStartUp { s with tre := { s.tre with flight := l } } := .refl s
  refine h0.foldl _ _ (fun t b hb => (keepsStartUp.refl t).setFld _ ?_)
  rcases eq_or_eq_of_mem_pair hb with rfl | rfl <;> decide

theorem treReload_keeps (s : State) : s.keepsStartUp s.treReload := setFlight_keeps s []

theorem stagingFails_keeps (s : State) : s.keepsStartUp s.stagingFails := by
  unfold stagingFails
  split
  · exact (keepsStartUp.refl s).setFld _ (by decide)
  · exact .refl s

theorem inflight_keeps (s : State) (tgen serial : Nat) (up : Bool) : s.keepsStartUp (s.inflight tgen serial up) := by
  unfold inflight
  split
  · exact .refl s
  · case _ b hb =>
    have ha : startUpReg (bankField b F.COD_BANK0_INFLIGHT).addr = false := by
      rcases eq_or_eq_of_mem_pair (List.mem_of_find?_eq_some hb) with rfl | rfl <;> decide
    dsimp only
    split
    · exact keepsStartUp_incFld (.refl s) ha
    · exact (keepsStartUp.refl s).setFld _ ha

theorem undoArchives_keeps (s : State) (p : Arch → Bool) : s.keepsStartUp (s.undoArchives p) :=
  (keepsStartUp.refl s).foldl _ _ (fun t _ _ => inflight_keeps t _ _ _)

theorem codDiscard_keeps (s : State) : s.keepsStartUp s.codDiscard :=
  ((keepsStartUp.refl s).setFld _ (by decide)).trans (undoArchives_keeps _ _)

theorem copiesFail_keeps (s : State) : s.keepsStartUp s.copiesFail := undoArchives_keeps ({ s with sto := _ } : State) _

theorem discardExport_keeps (s : State) : s.keepsStartUp s.discardExport :=
  (keepsStartUp.refl s).foldl _ _ (fun t _ _ => (om_loseAt t _ _).startUp)

theorem traceReset_keeps (s : State) : s.keepsStartUp s.traceReset := by
  have h0 : s.keepsStartUp { s with trc := { s.trc with fifos := [], lostFlag := [], rearmDue := false } } := .refl s
  unfold traceReset
  dsimp only
  split
  · refine .setFld (.setFld (.setFld (.setFld (.setFld (.setFld ?_ _ ?_) _ ?_) _ ?_) _ ?_) _ ?_) _ ?_
    · exact h0
    all_goals decide
  · exact h0

theorem stopPrograms_keeps (s : State) : s.keepsStartUp s.stopPrograms := by
  refine .setFld ((keepsStartUp.refl s).foldl _ _ (fun t p _ => ?_)) _ (by decide)
  split
  · exact (keepsStartUp.refl t).setFld _ (startUpReg_at _ p (by decide) (by decide) (by decide))
  · exact .refl t

/-! ### The sequence models' runs (R297, R298) -/

theorem setSeq_keeps (s : State) (m : Nat) (q : Seq) : s.keepsStartUp (s.setSeq m q) := by
  have h0 : s.keepsStartUp { s with seqs := s.seqs.put (fun _ => {}) m q } := .refl s
  have h1 := (h0.setFld (f := F.STW_MDL_STATUS_RUNNING.at m) (b2n q.running.isSome) (startUpReg_at _ m (by decide) (by decide) (by decide))).setFld
    (f := F.STW_MDL_STATUS_WAITING.at m) (min 2 q.waiting.length) (startUpReg_at _ m (by decide) (by decide) (by decide))
  unfold setSeq
  dsimp only
  split
  · exact h1.setFld _ (startUpReg_at _ m (by decide) (by decide) (by decide))
  · exact h1

theorem showArb_keeps (s : State) : s.keepsStartUp s.showArb := by
  have h := ((keepsStartUp.refl s).setFld (f := F.ARB_STATUS_QUEUED) s.tdsp.arbQ.length (by decide)).setFld (f := F.ARB_STATUS_BUSY)
    (b2n s.tdsp.arb.isSome) (by decide)
  unfold showArb
  dsimp only
  split
  · exact h.setFld _ (by decide)
  · exact h

theorem dropRun_keeps (s : State) (m e : Nat) : s.keepsStartUp (s.dropRun m e) := by
  unfold dropRun
  dsimp only
  refine .trans ?_ (showArb_keeps _)
  refine .setFld ?_ _ (by decide)
  refine .foldl ?_ _ _ (fun t c _ => (keepsStartUp.refl t).tile c 0 rfl rfl)
  refine .withTdsp (.foldl (.refl s) _ _ (fun t c _ => ?_)) _
  split
  · exact (setJobs_keeps t c _).1
  · exact .refl t

theorem showWindow_keeps (s : State) (m n : Nat) (c : ModelCfg) : s.keepsStartUp (s.showWindow m n c) := by
  unfold showWindow
  split
  · exact .refl s
  · have h := fun v : Nat => (keepsStartUp.refl s).setFld (f := F.STW_MDL_WIN_VALID_SLOTS.at m) v (startUpReg_at _ m (by decide) (by decide) (by decide))
    dsimp only
    split
    · exact h _
    · exact (h _).setFld _ (startUpReg_at _ m (by decide) (by decide) (by decide))

theorem writeHeader_keeps (s : State) (m n e : Nat) (c : ModelCfg) (v : Bool) (l : List Bool) : s.keepsStartUp (s.writeHeader m n e c v l) := by
  unfold writeHeader
  split
  · exact .refl s
  · exact showWindow_keeps (s.storeWrite _ _ _) m n c

theorem abandonRun_keeps (s : State) (m : Nat) : s.keepsStartUp (s.abandonRun m) := by
  unfold abandonRun
  dsimp only
  split
  · exact .refl s
  · have h : ∀ (q : Seq) (e : Nat) (p : Bytes), s.keepsStartUp ((((s.setSeq m q).dropRun m e).incFld (F.STW_MDL_CNT_ABANDONED.at m)).trace 14 6 p) :=
      fun q e p => .trans (keepsStartUp_incFld (.trans (setSeq_keeps s m q) (dropRun_keeps _ m e))
        (startUpReg_at _ m (by decide) (by decide) (by decide))) (om_trace _ _ _ _).startUp
    split
    · exact (h _ _ _).trans (writeHeader_keeps _ _ _ _ _ _ _)
    · exact h _ _ _

theorem abandonAll_keeps (s : State) : s.keepsStartUp s.abandonAll := by
  refine (keepsStartUp.refl s).foldl _ _ (fun t m _ => ?_)
  have h := (abandonRun_keeps t m).setFld (f := F.STW_MDL_CNT_ABANDONED.at m)
    (min (2 ^ 16 - 1) ((t.abandonRun m).fld (F.STW_MDL_CNT_ABANDONED.at m) + (t.seq m).waiting.length))
    (startUpReg_at _ m (by decide) (by decide) (by decide))
  have h' := fun l : List Nat => h.foldl (fun s e => s.trace 14 6 (epochCut e)) l (fun u e _ => (om_trace u 14 6 _).startUp)
  dsimp only
  split
  · exact h' _
  · exact (h' _).trans (setSeq_keeps _ _ _)

/-! ### The work that a warm reset drops -/

/-- The islands whose work a warm reset clears as their own reset does. -/
def warmIslands : List Nat := [1, 2, 3, 4, 5, 6, 8, 9, 12, 13, 14]

theorem clearWork_keeps (s : State) (n : Nat) (h : n ∈ warmIslands) : s.keepsStartUp (s.clearWork n) := by
  simp only [warmIslands, List.mem_cons, List.not_mem_nil, or_false] at h
  rcases h with rfl | rfl | rfl | rfl | rfl | rfl | rfl | rfl | rfl | rfl | rfl
  · exact timReset_keeps s
  · exact (keepsStartUp.refl s).foldl _ _ (fun t port _ => abandonTx_keeps t port)
  · exact ingReset_keeps s
  · exact alnReset_keeps s
  · exact feaReset_keeps s
  · exact treReload_keeps s
  · exact (stagingFails_keeps s).trans (copiesFail_keeps _)
  · exact codDiscard_keeps s
  · exact discardExport_keeps s
  · exact traceReset_keeps s
  · exact (abandonAll_keeps s).trans (stopPrograms_keeps _)

end State
end Sys2Proof.Machine

namespace Sys2Proof.Machine
namespace State

/-! ### The steward's, the tensor cores' and the image's work (R431, R476) -/

/-- Start-up's registers and data, and the steward's state, are in `t` as in `s`. -/
def keepsSteward (s t : State) : Prop := s.keepsStartUp t ∧ t.stw = s.stw

theorem keepsSteward.refl (s : State) : s.keepsSteward s := ⟨.refl s, rfl⟩

theorem keepsSteward.trans {s t u : State} (h : s.keepsSteward t) (k : t.keepsSteward u) : s.keepsSteward u := ⟨h.1.trans k.1, k.2.trans h.2⟩

theorem keepsSteward.setReg {s t : State} (h : s.keepsSteward t) {a : Nat} (v : Word) (ha : startUpReg a = false) :
    s.keepsSteward (t.setReg a v) := ⟨h.1.setReg v ha, h.2⟩

theorem keepsSteward.setFld {s t : State} (h : s.keepsSteward t) {f : Fld} (v : Nat) (hf : startUpReg f.addr = false) :
    s.keepsSteward (t.setFld f v) := h.setReg _ hf

theorem keepsSteward.foldl {α : Type} {s t : State} (h : s.keepsSteward t) (f : State → α → State) (l : List α)
    (hf : ∀ (u : State) (x : α), x ∈ l → u.keepsSteward (f u x)) : s.keepsSteward (l.foldl f t) :=
  List.foldlRecOn l f (motive := s.keepsSteward) h (fun u hu x hx => hu.trans (hf u x hx))

/-- The broadcasts that are not held whole, their parts cleared. -/
def warmBcasts (s : State) : State :=
  (s.stw.bcasts.filter (fun e => !e.2.holds)).foldl (fun s e =>
    (s.setFld (F.STW_BCAST_DATA_PARTS.at e.1) 0).setFld (F.STW_BCAST_DATA_PARTS_HELD.at e.1) 0) s

/-- The mailboxes free, and no response in them. -/
def warmMailboxes (s : State) : State :=
  (List.range 4).foldl (fun s m => (s.setFld (F.STW_MBOX_CTRL_BUSY.at m) 0).setFld (F.STW_MBOX_CTRL_RESP_LEN.at m) 0) s

/-- The steward's work in flight dropped from `s`, with the broadcasts `bs` kept. -/
def stewardDropped (s : State) (bs : Tab Bcast) : State :=
  { s with stw := { s.stw with ctrl := [], arming := [], queries := [], pkgParts := [], digests := [], bcasts := bs } }

theorem warmSteward_eq (s : State) : s.warmSteward =
    (s.warmBcasts.stewardDropped (s.stw.bcasts.each (fun _ => {}) (fun b => if b.holds then b else {}))).warmMailboxes := rfl

theorem warmBcasts_keeps (s : State) : s.keepsSteward s.warmBcasts :=
  (keepsSteward.refl s).foldl _ _ (fun t e _ =>
    ((keepsSteward.refl t).setFld _ (startUpReg_at _ e.1 (by decide) (by decide) (by decide))).setFld _
      (startUpReg_at _ e.1 (by decide) (by decide) (by decide)))

theorem warmMailboxes_keeps (s : State) : s.keepsSteward s.warmMailboxes :=
  (keepsSteward.refl s).foldl _ _ (fun t m _ =>
    ((keepsSteward.refl t).setFld _ (startUpReg_at _ m (by decide) (by decide) (by decide))).setFld _
      (startUpReg_at _ m (by decide) (by decide) (by decide)))

theorem stewardDropped_keeps (s : State) (bs : Tab Bcast) : s.keepsStartUp (s.stewardDropped bs) := .refl s

/-- A warm reset drops Control requests and queries. -/
theorem warmSteward_keeps (s : State) : s.keepsStartUp s.warmSteward ∧ s.warmSteward.stw.ctrl = [] ∧ s.warmSteward.stw.queries = [] := by
  rw [warmSteward_eq]
  generalize s.stw.bcasts.each (fun _ => {}) (fun b => if b.holds then b else {}) = bs
  obtain ⟨hk, hs⟩ := warmMailboxes_keeps (s.warmBcasts.stewardDropped bs)
  rw [hs]
  exact ⟨((warmBcasts_keeps s).1.trans (stewardDropped_keeps _ bs)).trans hk, rfl, rfl⟩

theorem warmTensor_keeps (s : State) : s.keepsSteward s.warmTensor := by
  unfold warmTensor
  refine .setReg (.setFld (.foldl (?_ : s.keepsSteward _) _ _ (fun t c _ => ?_)) _ (by decide)) _ (by decide)
  · exact .refl s
  · obtain ⟨hk, -, hs⟩ := showTile_keeps t c
    exact ⟨hk.tile c 0 rfl rfl, hs⟩

theorem clearShadows_keeps (s : State) : s.keepsSteward s.clearShadows :=
  ((keepsSteward.refl s).setFld _ (by decide)).setFld _ (by decide)

theorem warmImage_keeps (s : State) : s.keepsSteward s.warmImage := by
  have h : ∀ (t : State) (m : Mgt) (v : Nat), ({ t with mgt := m } : State).lasting = t.lasting → t.keepsSteward
      ((({ t with mgt := m } : State).setFld F.MGT_IMG_COMMIT_ARM 0).setFld F.MGT_IMG_STATUS_STATE v).clearShadows := fun t m v hm => by
    have h0 : t.keepsSteward { t with mgt := m } := ⟨⟨fun _ _ => rfl, hm⟩, rfl⟩
    exact ((h0.setFld _ (by decide)).setFld _ (by decide)).trans (clearShadows_keeps _)
  unfold warmImage
  dsimp only
  refine .trans (?_ : s.keepsSteward _) (h _ _ _ rfl)
  split
  · exact (keepsSteward.refl s).setFld _ (by decide)
  · exact .refl s

/-- What a warm reset clears of ING, TIM, TRC and VRD besides their work in an island reset. -/
def warmQueues (s : State) : State :=
  let s := { s with ing := { s.ing with queues := [], tallies := [], heard := [] } }
  let s := { s with tim := { s.tim with open_ := false, stepped := false, silent := 0 } }
  let s := { s with trc := { s.trc with snap := [], snapExported := 0 } }
  (s.setFld F.TRC_SNAP_BUSY 0).setFld F.VRD_STATUS_SIGNING 0

theorem warmQueues_keeps (s : State) : s.keepsStartUp s.warmQueues := by
  have h : ∀ (i : Ing) (t : Tim) (r : Trc), s.keepsStartUp ((({ s with ing := i, tim := t, trc := r } : State).setFld F.TRC_SNAP_BUSY 0).setFld
      F.VRD_STATUS_SIGNING 0) := fun i t r =>
    .setFld (.setFld (⟨fun _ _ => rfl, rfl⟩ : s.keepsStartUp { s with ing := i, tim := t, trc := r }) _ (by decide)) _ (by decide)
  exact h _ _ _

theorem warmWork_eq (s : State) : s.warmWork =
    (warmIslands.foldl clearWork { s with vrd := { s.vrd with batches := [], signFailed := false }, dig := {} }).warmQueues.warmSteward.warmTensor := rfl

/-- A warm reset drops the islands' work, and with it Control requests and queries. -/
theorem warmWork_keeps (s : State) : s.keepsStartUp s.warmWork ∧ s.warmWork.stw.ctrl = [] ∧ s.warmWork.stw.queries = [] := by
  have h0 : s.keepsStartUp { s with vrd := { s.vrd with batches := [], signFailed := false }, dig := {} } := .refl s
  have h1 := (h0.foldl clearWork warmIslands (fun t n hn => clearWork_keeps t n hn)).trans (warmQueues_keeps _)
  rw [warmWork_eq]
  generalize (warmIslands.foldl clearWork { s with vrd := { s.vrd with batches := [], signFailed := false }, dig := {} }).warmQueues = u at h1 ⊢
  obtain ⟨hk, hctrl, hqueries⟩ := warmSteward_keeps u
  obtain ⟨hk', hstw⟩ := warmTensor_keeps u.warmSteward
  rw [hstw]
  exact ⟨(h1.trans hk).trans hk', hctrl, hqueries⟩

/-! ### The islands' fault state after a warm reset (R473, R476, R479) -/

theorem dropMsi_keeps (s : State) (n : Nat) : s.keepsSteward (s.dropMsi n) := .refl s

theorem clearFaultRegs_keeps (s : State) (n : Nat) : s.keepsSteward (s.clearFaultRegs n) := by
  have hpmc : ∀ (t : State) (k : Nat), k < 8 → t.keepsSteward ((t.setReg (pmcField n k F.PMC_VALUE).addr 0).setFld (pmcField n k F.PMSEL_OVF) 0) :=
    fun t k hk => ((keepsSteward.refl t).setReg _ (startUpReg_common (0x58 + 8 * k) n (by omega) (by omega))).setFld _
      (startUpReg_common (0x98 + 8 * k) n (by omega) (by omega))
  unfold clearFaultRegs
  dsimp only
  refine .setReg (.setReg (.setReg (.setReg (.foldl (dropMsi_keeps s n) _ _ (fun t k hk => hpmc t k (List.mem_range.1 hk))) _ ?_) _ ?_) _ ?_) _ ?_
  all_goals exact startUpReg_common _ n (by decide) (by decide)

/-- Island `n` is in Winter state after a warm reset: LATCHED, without the reference clock, or a core that failed BIST. -/
def warmHeld (s : State) (n : Nat) : Bool := s.bistFailed n || s.flag (F.STATUS_LATCHED.at n) || (n != 0 && s.mgt.refclkLost)

/-- What clearing the islands' fault state keeps: MGT's registers of start-up and its data, LATCHED of every island, the steward's state. -/
def faultsOnly (s t : State) : Prop :=
  (∀ a, 0x1600 ≤ a → a ≤ 0x1618 → t.reg a = s.reg a) ∧ (∀ m, t.flag (F.STATUS_LATCHED.at m) = s.flag (F.STATUS_LATCHED.at m)) ∧
  t.lasting = s.lasting ∧ t.stw = s.stw

theorem faultsOnly.refl (s : State) : s.faultsOnly s := ⟨fun _ _ _ => rfl, fun _ => rfl, rfl, rfl⟩

theorem faultsOnly.trans {s t u : State} (h : s.faultsOnly t) (k : t.faultsOnly u) : s.faultsOnly u := by
  obtain ⟨hr, hf, hl, hs⟩ := h
  obtain ⟨kr, kf, kl, ks⟩ := k
  exact ⟨fun a h1 h2 => (kr a h1 h2).trans (hr a h1 h2), fun m => (kf m).trans (hf m), kl.trans hl, ks.trans hs⟩

theorem keepsSteward.faultsOnly {s t : State} (h : s.keepsSteward t) : s.faultsOnly t :=
  ⟨fun a h1 h2 => h.1.reg (by simp [startUpReg, h1, h2]), fun m => h.1.flag (startUpReg_status m), h.1.2, h.2⟩

/-- A field of STATUS other than LATCHED written. -/
theorem faultsOnly_setFld_status (s : State) (n v : Nat) {f : Fld} (ha : f.addr = 0x10 + n * 0x80000)
    (hf : f.lo + f.w ≤ 3 ∨ 4 ≤ f.lo) : s.faultsOnly (s.setFld f v) := by
  refine ⟨fun a h1 h2 => reg_setFld_other _ _ _ (by rw [ha]; exact addr_status_ne n a h1 h2), fun m => ?_, rfl, rfl⟩
  simp only [flag]
  rw [fld_setFld_bits s f (F.STATUS_LATCHED.at m) v (by simp only [Fld.at]; omega) (by simp [Fld.at])]

/-- What holds an island is not what a warm reset clears. -/
theorem faultsOnly.warmHeld {s t : State} (h : s.faultsOnly t) (m : Nat) : t.warmHeld m = s.warmHeld m := by
  obtain ⟨hr, hf, hl, -⟩ := h
  have hmgt : t.lasting.mgt = s.lasting.mgt := congrArg State.mgt hl
  have href : t.mgt.refclkLost = s.mgt.refclkLost := (congrArg Mgt.refclkLost hmgt :)
  simp only [State.warmHeld, bistFailed, fld, hf m, href]
  rw [hr 0x1608 (by decide) (by decide), hr 0x1610 (by decide) (by decide)]

/-- The state of island `n` before its STATE is written: fences, resets and the quiet period of the past are gone. -/
def warmUnfenced (s : State) (n : Nat) : State :=
  (((s.setFld (F.STATUS_FENCED.at n) (b2n (s.bistFailed n))).setFld (F.CTRL_FENCE.at n) (b2n (s.bistFailed n))).setFld
    (F.CTRL_ISLAND_RESET.at n) 0).setFld (F.STATUS_QUIET_LEFT_MS.at n) 0

theorem faultsOnly_warmUnfenced (s : State) (n : Nat) : s.faultsOnly (s.warmUnfenced n) := by
  have hctrl : ∀ (t : State) (f : Fld) (v : Nat), f.addr = 0x8 + n * 0x80000 → t.faultsOnly (t.setFld f v) := fun t f v hf =>
    ((keepsSteward.refl t).setFld v (by rw [hf]; exact startUpReg_common 8 n (by decide) (by decide))).faultsOnly
  exact (((faultsOnly_setFld_status s n _ rfl (by simp [Fld.at])).trans (hctrl _ _ _ rfl)).trans (hctrl _ _ _ rfl)).trans
    (faultsOnly_setFld_status _ n _ rfl (by simp [Fld.at]))

theorem warmFault_eq (s : State) (n : Nat) :
    s.warmFault n = ((s.warmUnfenced n).setFld (F.STATUS_STATE.at n) (b2n (s.warmHeld n))).clearFaultRegs n := by
  have h := (faultsOnly_warmUnfenced s n)
  have hl := h.2.1 n
  have hmgt : (s.warmUnfenced n).mgt = s.mgt := rfl
  rw [State.warmHeld, ← hl, ← hmgt]
  rfl

theorem faultsOnly_warmFault (s : State) (n : Nat) : s.faultsOnly (s.warmFault n) := by
  rw [warmFault_eq]
  exact ((faultsOnly_warmUnfenced s n).trans (faultsOnly_setFld_status _ n _ rfl (by simp [Fld.at]))).trans (clearFaultRegs_keeps _ n).faultsOnly

theorem istate_warmFault (s : State) (n : Nat) : (s.warmFault n).istate n = b2n (s.warmHeld n) := by
  rw [warmFault_eq, istate, (clearFaultRegs_keeps _ n).1.fld (startUpReg_status n), fld_setFld_same _ _ _ (by simp [Fld.at])]
  exact Nat.mod_eq_of_lt (Nat.lt_trans (b2n_lt _) (show 2 < 2 ^ 2 by decide))

/-- Other islands' STATE stays. -/
theorem istate_warmFault_other (s : State) {n m : Nat} (h : m ≠ n) : (s.warmFault n).istate m = s.istate m := by
  have ha : (F.STATUS_STATE.at m).addr ≠ 0x10 + n * 0x80000 := by simp only [Fld.at]; omega
  have hc : ∀ k, k = 8 → (F.STATUS_STATE.at m).addr ≠ k + n * 0x80000 := fun k hk => by simp only [Fld.at]; omega
  rw [warmFault_eq, istate, (clearFaultRegs_keeps _ n).1.fld (startUpReg_status m), fld_setFld_reg _ _ _ _ ha, warmUnfenced,
    fld_setFld_reg _ _ _ _ ha, fld_setFld_reg _ _ _ _ (hc 8 rfl), fld_setFld_reg _ _ _ _ (hc 8 rfl), fld_setFld_reg _ _ _ _ ha]
  rfl

theorem faultsOnly_foldl (l : List Nat) (s : State) : s.faultsOnly (l.foldl warmFault s) :=
  List.foldlRecOn l _ (motive := s.faultsOnly) (.refl s) (fun t ht n _ => ht.trans (faultsOnly_warmFault t n))

/-- Every island of the list is in the state its faults demand. -/
theorem istate_foldl_warmFault (l : List Nat) (s : State) {n : Nat} (h : n ∈ l) : (l.foldl warmFault s).istate n = b2n (s.warmHeld n) := by
  induction l generalizing s with
  | nil => cases h
  | cons x l ih =>
    rw [List.foldl_cons]
    by_cases hn : n ∈ l
    · rw [ih _ hn, (faultsOnly_warmFault s x).warmHeld n]
    · obtain rfl : n = x := by simpa [hn] using h
      have hrest : ∀ t : State, (l.foldl warmFault t).istate n = t.istate n := fun t =>
        List.foldlRecOn l _ (motive := fun u : State => u.istate n = t.istate n) rfl
          (fun u hu m hm => (istate_warmFault_other u (by rintro rfl; exact hn hm)).trans hu)
      rw [hrest, istate_warmFault]

end State
end Sys2Proof.Machine

namespace Sys2Proof.Machine
namespace State

/-! ### Registers that a warm reset returns to their reset values (R13) -/

/-- A word whose bits under the mask `m` are those of `b`. -/
def maskedWith (v m b : Word) : Word := (v &&& ~~~m) ||| (b &&& m)

theorem maskedWith_zero (v b : Word) : maskedWith v 0 b = v := by
  have h : ~~~(0 : Word) = BitVec.allOnes 64 := by decide
  rw [maskedWith, h, BitVec.and_allOnes]
  simp

theorem maskedWith_self (b m : Word) : maskedWith b m b = b := by
  ext i hi
  simp [maskedWith]
  cases b[i] <;> cases m[i] <;> simp

/-- Every entry of a table rewritten from its last to its first: a key listed reads as its first entry rewritten, others as before. -/
theorem get_foldr_put (g : Nat → Word → Word) (l t : Tab Word) (a : Nat) :
    (l.foldr (fun e t => Tab.put blockReset t e.1 (g e.1 e.2)) t).get blockReset a =
      if a ∈ l.map Prod.fst then g a (l.get blockReset a) else t.get blockReset a := by
  induction l with
  | nil => simp
  | cons e l ih =>
    obtain ⟨i, v⟩ := e
    rw [List.foldr_cons, Tab.get_put]
    by_cases h : a = i
    · simp [h, Tab.get]
    · rw [if_neg h, ih]
      simp [h, Tab.get, Ne.symm h]

theorem get_of_not_mem (l : Tab Word) (a : Nat) (h : a ∉ l.map Prod.fst) : l.get blockReset a = blockReset a := by
  induction l with
  | nil => rfl
  | cons e l ih =>
    obtain ⟨i, v⟩ := e
    simp only [List.map_cons, List.mem_cons, not_or] at h
    rw [Tab.get, if_neg (Ne.symm h.1), ih h.2]

/-- Every register's W1C, W1S and RC fields are at their reset values, its other fields as before. -/
theorem reg_warmRegs (s : State) (a : Nat) : s.warmRegs.reg a = maskedWith (s.reg a) (warmMask a) (blockReset a) := by
  have h := get_foldr_put (fun a v => maskedWith v (warmMask a) (blockReset a)) s.regs s.regs a
  refine Eq.trans h ?_
  split
  · rfl
  · case _ hn => rw [reg, get_of_not_mem _ _ hn, maskedWith_self]

theorem reg_warmRegs_kept (s : State) {a : Nat} (h : warmMask a = 0) : s.warmRegs.reg a = s.reg a := by
  rw [reg_warmRegs, h, maskedWith_zero]

theorem warmMask_boot : warmMask 0x1600 = 0 := by decide

theorem warmMask_status {n : Nat} (h : n < 100) : warmMask (0x10 + n * 0x80000) = 0 := by
  have h1 : (0x10 + n * 0x80000) % 0x4000000 = 0x10 + n * 0x80000 := by omega
  have h2 : (0x10 + n * 0x80000) / 0x80000 = n := by omega
  have h3 : (0x10 + n * 0x80000) % 0x80000 = 0x10 := by omega
  have hrow : islandRow n 0x10 = findRow commonRows 0x10 := by simp [islandRow, h]
  have hn : ¬ (0x10 + n * 0x80000 = 0x1210 ∨ 0x10 + n * 0x80000 = 0x1648) := by omega
  unfold warmMask
  simp only [h1, h2, h3, hrow]
  rw [if_neg hn]
  rfl

/-! ### WARM_RESET (R476, R478) -/

theorem dropPending_rest (s : State) :
    s.dropPending = { s with regs := s.dropPending.regs, mgt := { s.mgt with pendingKey := none, keygen := false } } := by
  unfold dropPending
  dsimp only
  rw [rest_setIdBuf]
  rfl

theorem reg_dropPending (s : State) {a : Nat} (h : a ≠ 0x1648) (hb : a % 0x4000000 ≠ 0x1640) : s.dropPending.reg a = s.reg a := by
  unfold dropPending
  dsimp only
  rw [reg_setIdBuf _ _ _ hb, reg_setFld_other _ _ _ h]
  rfl

/-- MGT's data as a warm reset changes it before the islands' work. -/
def warmMgt (m : Mgt) : Mgt :=
  { m with warm := true, ready := false, estSum := 0, estCount := 0, ceCount := [], ueCount := [], certHeld := false }

/-- Programming stopped, and the keys that wait dropped. -/
def warmKeys (s : State) (w : Nat) : State := ({ s.otpStop w with mgt := warmMgt (s.otpStop w).mgt } : State).dropPending

/-- The stage at which start-up resumes, the cause and the count shown. -/
def warmBoot (s : State) : State :=
  ((s.setFld F.MGT_BOOT_STAGE (warmStage (s.fld F.MGT_BOOT_STAGE))).setFld F.MGT_BOOT_RESET_CAUSE 2).incFld F.MGT_BOOT_WARM_COUNT

/-- What the islands are left with. -/
def warmIsles (s : State) : State := (List.range 100).foldl warmFault s.warmWork.warmImage

/-- Interrupt messages withdrawn, fields at their reset values, nothing sent. -/
def warmEnd (s : State) : State :=
  { ({ s with mgt := { s.mgt with msiWait := [], msiReq := false } } : State).warmRegs with out := [] }

theorem warmReset_eq (s : State) (w : Nat) : s.warmReset w = (s.warmKeys w).warmBoot.warmIsles.warmEnd := by
  simp only [warmReset, warmEnd, warmIsles, warmBoot, warmKeys, warmMgt]

theorem warmKeys_rest (s : State) (w : Nat) : (s.warmKeys w).img = s.img ∧ (s.warmKeys w).potiks = s.potiks ∧ (s.warmKeys w).stw = s.stw ∧
    { (s.warmKeys w).mgt with msiWait := [] } = { warmMgt { s.mgt with otp := s.otpStopped w, otpProg := none } with
      msiWait := [], pendingKey := none, keygen := false } := by
  unfold warmKeys
  rw [dropPending_rest, (otpStop_frame s w).2]
  exact ⟨rfl, rfl, rfl, rfl⟩

theorem reg_warmKeys (s : State) (w : Nat) {a : Nat} (h : startUpReg a = true) (hotp : a ≠ 0x1618) : (s.warmKeys w).reg a = s.reg a := by
  have hne : a ≠ 0x1648 ∧ a % 0x4000000 ≠ 0x1640 := by
    simp only [startUpReg, Bool.or_eq_true, beq_iff_eq, Bool.and_eq_true, decide_eq_true_eq] at h
    omega
  unfold warmKeys
  rw [reg_dropPending _ hne.1 hne.2, reg_with_mgt, (otpStop_frame s w).1 a hotp (ledger_of_startUpReg h)]

theorem warmStage_lt {st : Nat} (h : st < 8) : warmStage st < 8 := by
  unfold warmStage
  split <;> omega

/-- BOOT shows the stage, the cause and the count of a warm reset. -/
theorem warmBoot_shown (s : State) : s.warmBoot.fld F.MGT_BOOT_RESET_CAUSE = 2 ∧
    s.warmBoot.fld F.MGT_BOOT_WARM_COUNT = min 65535 (s.fld F.MGT_BOOT_WARM_COUNT + 1) ∧
    s.warmBoot.fld F.MGT_BOOT_STAGE = warmStage (s.fld F.MGT_BOOT_STAGE) := by
  unfold warmBoot incFld addFld
  refine ⟨?_, ?_, ?_⟩
  · rw [fld_setFld_bits _ _ _ _ (by decide) (by decide), fld_setFld_same _ _ _ (by decide)]
    rfl
  · rw [fld_setFld_same _ _ _ (by decide), fld_setFld_bits _ _ _ _ (by decide) (by decide), fld_setFld_bits _ _ _ _ (by decide) (by decide)]
    exact Nat.mod_eq_of_lt (by simp only; omega)
  · rw [fld_setFld_bits _ _ _ _ (by decide) (by decide), fld_setFld_bits _ _ _ _ (by decide) (by decide), fld_setFld_same _ _ _ (by decide)]
    exact Nat.mod_eq_of_lt (warmStage_lt (fld_lt s F.MGT_BOOT_STAGE))

theorem reg_warmBoot (s : State) {a : Nat} (h : a ≠ 0x1600) : s.warmBoot.reg a = s.reg a := by
  unfold warmBoot incFld addFld
  rw [reg_setFld_other _ _ _ h, reg_setFld_other _ _ _ h, reg_setFld_other _ _ _ h]

theorem lasting_warmBoot (s : State) : s.warmBoot.lasting = s.lasting := by
  unfold warmBoot
  rfl

/-- The islands' work and fault state leave BOOT, and MGT's data, as they were. -/
theorem warmIsles_keeps (s : State) :
    s.warmIsles.reg 0x1600 = s.reg 0x1600 ∧ s.warmIsles.lasting = s.lasting ∧ s.warmIsles.stw.ctrl = [] ∧ s.warmIsles.stw.queries = [] ∧
    ∀ n < 100, s.warmIsles.istate n = b2n (s.warmHeld n) := by
  obtain ⟨hwork, hctrl, hqueries⟩ := warmWork_keeps s
  obtain ⟨himg, himgStw⟩ := warmImage_keeps s.warmWork
  have hboth := hwork.trans himg
  obtain ⟨hreg, -, hlast, hstw⟩ := faultsOnly_foldl (List.range 100) s.warmWork.warmImage
  have hheld : ∀ n, s.warmWork.warmImage.warmHeld n = s.warmHeld n := fun n => by
    have hmgt : s.warmWork.warmImage.lasting.mgt = s.lasting.mgt := congrArg State.mgt hboth.2
    have href : s.warmWork.warmImage.mgt.refclkLost = s.mgt.refclkLost := (congrArg Mgt.refclkLost hmgt :)
    rw [warmHeld, warmHeld, href, hboth.flag (f := F.STATUS_LATCHED.at n) (startUpReg_status n), bistFailed, bistFailed,
      hboth.fld (f := F.MGT_BIST0_FAILED) (by decide), hboth.fld (f := F.MGT_BIST1_FAILED) (by decide)]
  refine ⟨(hreg _ (by decide) (by decide)).trans (hboth.reg (by decide)), hlast.trans hboth.2, ?_, ?_, fun n hn => ?_⟩
  · rw [warmIsles, hstw, himgStw, hctrl]
  · rw [warmIsles, hstw, himgStw, hqueries]
  · rw [warmIsles, istate_foldl_warmFault _ _ (List.mem_range.2 hn), hheld]

end State
end Sys2Proof.Machine

namespace Sys2Proof.Machine
namespace State

/-- What a warm reset that is not absorbed leaves (R476, R478), between `s` and `t`: the clause of the statement of resets. -/
def warmLeft (s t : State) : Prop :=
  t.mgt.warm = true ∧ t.mgt.ready = false ∧ t.mgt.key = s.mgt.key ∧ t.mgt.pendingKey = none ∧ t.mgt.msiWait = [] ∧ t.img = s.img ∧
  t.potiks = s.potiks ∧ t.out = [] ∧ t.stw.ctrl = [] ∧ t.stw.queries = [] ∧ t.stw.armed = s.stw.armed ∧
  t.fld F.MGT_BOOT_RESET_CAUSE = 2 ∧ t.fld F.MGT_BOOT_WARM_COUNT = min 65535 (s.fld F.MGT_BOOT_WARM_COUNT + 1) ∧
  t.fld F.MGT_BOOT_STAGE = warmStage (s.fld F.MGT_BOOT_STAGE) ∧
  (∀ n < 100, t.istate n = (if s.bistFailed n = true ∨ s.flag (F.STATUS_LATCHED.at n) = true ∨ (n ≠ 0 ∧ s.mgt.refclkLost = true) then 1 else 0))

theorem warmLeft_withPending {s t : State} (h : s.start.warmLeft t) : s.warmLeft { t with pending := s.pending } := h

/-- The islands' work done with, the end of the reset takes nothing more away. -/
theorem warmLeft_warmEnd {s u : State} (hmgt : u.mgt.warm = true ∧ u.mgt.ready = false ∧ u.mgt.key = s.mgt.key ∧ u.mgt.pendingKey = none)
    (hkept : u.img = s.img ∧ u.potiks = s.potiks ∧ u.stw.armed = s.stw.armed) (hstw : u.stw.ctrl = [] ∧ u.stw.queries = [])
    (hboot : u.fld F.MGT_BOOT_RESET_CAUSE = 2 ∧ u.fld F.MGT_BOOT_WARM_COUNT = min 65535 (s.fld F.MGT_BOOT_WARM_COUNT + 1) ∧
      u.fld F.MGT_BOOT_STAGE = warmStage (s.fld F.MGT_BOOT_STAGE))
    (hstate : ∀ n < 100, u.istate n = b2n (s.warmHeld n)) : s.warmLeft u.warmEnd := by
  have hreg : ∀ f : Fld, warmMask f.addr = 0 → u.warmEnd.fld f = u.fld f := fun f hf => by
    have h := reg_warmRegs_kept ({ u with mgt := { u.mgt with msiWait := [], msiReq := false } } : State) hf
    simp only [fld]
    exact congrArg (fun v => getBits v f.lo f.w) h
  obtain ⟨hwarm, hready, hkey, hpending⟩ := hmgt
  obtain ⟨himg, hpotiks, harmed⟩ := hkept
  obtain ⟨hcause, hcount, hstage⟩ := hboot
  refine ⟨hwarm, hready, hkey, hpending, rfl, himg, hpotiks, rfl, hstw.1, hstw.2, harmed, (hreg _ warmMask_boot).trans hcause,
    (hreg _ warmMask_boot).trans hcount, (hreg _ warmMask_boot).trans hstage, fun n hn => ?_⟩
  refine ((hreg (F.STATUS_STATE.at n) (warmMask_status hn)).trans (hstate n hn)).trans ?_
  simp [warmHeld, b2n, or_assoc]

theorem warmHeld_warmBoot (s : State) (w n : Nat) : (s.warmKeys w).warmBoot.warmHeld n = s.warmHeld n := by
  have hreg : ∀ a, startUpReg a = true → a ≠ 0x1618 → a ≠ 0x1600 → (s.warmKeys w).warmBoot.reg a = s.reg a := fun a h h1 h2 =>
    (reg_warmBoot _ h2).trans (reg_warmKeys s w h h1)
  obtain ⟨-, -, -, hmgt⟩ := warmKeys_rest s w
  have href : (s.warmKeys w).warmBoot.mgt.refclkLost = s.mgt.refclkLost := (congrArg Mgt.refclkLost hmgt :)
  simp only [warmHeld, bistFailed, flag, fld, href]
  rw [hreg 0x1608 (by decide) (by decide) (by decide), hreg 0x1610 (by decide) (by decide) (by decide),
    hreg (F.STATUS_LATCHED.at n).addr (startUpReg_status n) (by simp only [Fld.at]; omega) (by simp only [Fld.at]; omega)]

/-- MGT's data, the image, the Potik units and the armed dies are those that stopping the keys has left. -/
theorem lasting_warmIsles {s u : State} {w : Nat} (hlast : u.lasting = (s.warmKeys w).lasting) :
    (u.mgt.warm = true ∧ u.mgt.ready = false ∧ u.mgt.key = s.mgt.key ∧ u.mgt.pendingKey = none) ∧
    u.img = s.img ∧ u.potiks = s.potiks ∧ u.stw.armed = s.stw.armed := by
  obtain ⟨himg, hpotiks, hstw, hmgt⟩ := warmKeys_rest s w
  generalize s.warmKeys w = k at hlast himg hpotiks hstw hmgt
  have hlm : u.lasting.mgt = k.lasting.mgt := congrArg State.mgt hlast
  refine ⟨⟨?_, ?_, ?_, ?_⟩, ?_, ?_, ?_⟩
  · exact (congrArg Mgt.warm hlm :).trans (congrArg Mgt.warm hmgt :)
  · exact (congrArg Mgt.ready hlm :).trans (congrArg Mgt.ready hmgt :)
  · exact (congrArg Mgt.key hlm :).trans (congrArg Mgt.key hmgt :)
  · exact (congrArg Mgt.pendingKey hlm :).trans (congrArg Mgt.pendingKey hmgt :)
  · exact (congrArg State.img hlast :).trans himg
  · exact (congrArg State.potiks hlast :).trans hpotiks
  · exact (congrArg (fun t : State => t.stw.armed) hlast :).trans (congrArg Stw.armed hstw :)

theorem warmLeft_warmReset (s : State) (w : Nat) : s.warmLeft (s.warmReset w) := by
  obtain ⟨hboot, hlast, hctrl, hqueries, hstate⟩ := warmIsles_keeps (s.warmKeys w).warmBoot
  obtain ⟨hcause, hcount, hstage⟩ := warmBoot_shown (s.warmKeys w)
  have hreg : (s.warmKeys w).reg 0x1600 = s.reg 0x1600 := reg_warmKeys s w (by decide) (by decide)
  have hfld : ∀ f : Fld, f.addr = 0x1600 → (s.warmKeys w).warmBoot.warmIsles.fld f = (s.warmKeys w).warmBoot.fld f ∧ (s.warmKeys w).fld f = s.fld f :=
    fun f hf => by simp only [fld, hf, hboot, hreg, and_self]
  obtain ⟨hmgt, hkept⟩ := lasting_warmIsles (hlast.trans (lasting_warmBoot (s.warmKeys w)))
  rw [(hfld F.MGT_BOOT_WARM_COUNT rfl).2] at hcount
  rw [(hfld F.MGT_BOOT_STAGE rfl).2] at hstage
  rw [warmReset_eq]
  exact warmLeft_warmEnd hmgt hkept ⟨hctrl, hqueries⟩ ⟨(hfld _ rfl).1.trans hcause, (hfld _ rfl).1.trans hcount, (hfld _ rfl).1.trans hstage⟩
    (fun n hn => (hstate n hn).trans (congrArg b2n (warmHeld_warmBoot s w n)))

theorem completes_warmReset (s : State) (w : Nat) (h : s.inReset = false) : Completes (.warmReset w) s s.warmLeft := by
  have he : s.start.resetAssert 2 w = s.start.warmReset w := if_neg (Bool.eq_false_iff.mp h)
  refine ⟨_, exec_warmReset s w, ?_⟩
  rw [he]
  exact warmLeft_withPending (warmLeft_warmReset s.start w)

end State

/-- Settles O40, clause by clause: each command's effect is that of its lemma (`coldLeft`, `warmLeft`, `resumed`, `bistLeft`). -/
theorem resetsAndStartUp : Obligations.ResetsAndStartUp := by
  refine ⟨fun s w cause c h => ?_, State.powerOnReset_absorbed, State.coldReset_absorbed, State.warmReset_absorbed, State.completes_warmReset,
    fun s which now m hm => ⟨State.exec_resetRelease_stays s which now m hm, State.completes_resetRelease s which now m hm⟩,
    State.completes_bistDone, State.exec_bistDone_ignored⟩
  exact State.completes_coldLeft s w cause c h

end Sys2Proof.Machine

namespace Sys2Proof.Machine
namespace State

/-! ### What records on their way out leave as it was (R378, R379) -/

/-- Between `s` and `t` lie nothing but EXP's queues and registers of the islands' own, none of the common block of any island. -/
def expOnly (s t : State) : Prop := (∀ a, a % 0x80000 < 0x1000 → t.reg a = s.reg a) ∧ t = { s with regs := t.regs, exp := t.exp }

theorem expOnly.refl (s : State) : s.expOnly s := ⟨fun _ _ => rfl, rfl⟩

theorem expOnly.trans {s t u : State} (h : s.expOnly t) (k : t.expOnly u) : s.expOnly u := by
  refine ⟨fun a ha => (k.1 a ha).trans (h.1 a ha), ?_⟩
  rw [k.2, h.2]

theorem expOnly.out {s t : State} (h : s.expOnly t) : t.out = s.out := by rw [h.2]

theorem expOnly.stw {s t : State} (h : s.expOnly t) : t.stw = s.stw := by rw [h.2]

theorem expOnly_setFld (s : State) {f : Fld} (v : Nat) (h : 0x1000 ≤ f.addr % 0x80000) : s.expOnly (s.setFld f v) :=
  ⟨fun a ha => reg_setFld_other _ _ _ (by rintro rfl; omega), rfl⟩

theorem expOnly_foldl {α : Type} (f : State → α → State) (l : List α) (h : ∀ (s : State) (x : α), s.expOnly (f s x)) (s : State) :
    s.expOnly (l.foldl f s) :=
  List.foldlRecOn l f (motive := s.expOnly) (.refl s) (fun _ hu _ _ => hu.trans (h _ _))

theorem expOnly_exp (s : State) (x : Exp) : s.expOnly { s with exp := x } := ⟨fun _ _ => rfl, rfl⟩

/-- Copies of a register at an offset beyond the common block, whole windows apart. -/
theorem beyondCommon_at (f : Fld) (d : Nat) (hs : f.step = 0x4000000) (ho : 0x1000 ≤ f.addr % 0x80000) : 0x1000 ≤ (f.at d).addr % 0x80000 := by
  have : (f.addr + d * 0x4000000) % 0x80000 = f.addr % 0x80000 := by omega
  simpa only [Fld.at, hs, this] using ho

theorem expOnly_routeDrop (s : State) (a b c d : Nat) : s.expOnly (s.routeDrop a b c d) := by
  unfold routeDrop
  split
  · exact expOnly_setFld _ _ (beyondCommon_at _ _ rfl (by decide))
  · exact .refl s

theorem expOnly_makeRoom (d c n fuel : Nat) (s : State) : s.expOnly (makeRoom d c n fuel s) := by
  induction fuel generalizing s with
  | zero => exact .refl s
  | succ fuel ih =>
    simp only [makeRoom]
    split
    · exact .refl s
    · split
      · exact .refl s
      · exact (((expOnly_exp _ _).trans (expOnly_exp _ _)).trans (expOnly_setFld _ _ (beyondCommon_at _ _ rfl (by decide)))).trans (ih _)

theorem expOnly_pushQueue (s : State) (d c : Nat) (r : Rec) : s.expOnly (s.pushQueue d c r) := by
  unfold pushQueue
  dsimp only
  split <;> exact expOnly_exp _ _

theorem expOnly_joinQueue (s : State) (d : Nat) (r : Rec) : s.expOnly (s.joinQueue d r) := by
  have lost : ∀ (u : State) (f : Fld), f.step = 0x4000000 → 0x1000 ≤ f.addr % 0x80000 → u.expOnly ((u.loseAt d [r]).incFld (f.at d)) :=
    fun u f hs ho => (expOnly_exp _ _).trans (expOnly_setFld _ _ (beyondCommon_at f d hs ho))
  unfold joinQueue
  dsimp only
  split
  · refine (expOnly_makeRoom d (r.cls - 8) r.size ((s.queue d (r.cls - 8)).recs.length + 1) s).trans ?_
    split
    · exact expOnly_pushQueue _ _ _ _
    · exact lost _ F.EXP_DEST_CNT_HOLD_DROP rfl (by decide)
  · generalize (if (r.type == 0x0B) = true then 0 else markerSize) = k
    split
    · exact expOnly_pushQueue _ _ _ _
    · exact lost _ F.EXP_DEST_CNT_QUEUE_DROP rfl (by decide)

theorem expOnly_toExp (s : State) (n : Nat) (r : Rec) : s.expOnly (s.toExp n r) := by
  unfold toExp
  split
  · exact .refl s
  · split
    · exact expOnly_routeDrop _ _ _ _ _
    · split
      · exact expOnly_setFld _ _ (by decide)
      · exact expOnly_foldl _ _ (fun s d => expOnly_joinQueue s d r) s

theorem expOnly_send (s : State) (n ty c src fl : Nat) (b : Bytes) : s.expOnly (s.send n ty c src fl b) :=
  (expOnly_exp _ _).trans (expOnly_toExp _ _ _)

/-- Between `s` and `t` nothing but EXP, what is sent, and registers of the islands' own: a directed record. -/
theorem sendTo_expOnly (s : State) (n : Nat) (dst : List Nat) (ty c src fl : Nat) (b : Bytes) :
    ∃ o, ({ s with out := o } : State).expOnly (s.sendTo n dst ty c src fl b) := by
  unfold sendTo
  dsimp only
  split
  · exact ⟨s.out, expOnly_exp _ _⟩
  · split
    · exact ⟨_, expOnly_exp ({ s with out := s.out ++ _ } : State) _⟩
    · exact ⟨_, (expOnly_exp ({ s with out := s.out ++ _ } : State) _).trans (expOnly_toExp _ _ _)⟩

/-- A directed record is sent at once, unless the block is silent. -/
theorem out_sendTo (s : State) (n : Nat) (dst : List Nat) (ty c src fl : Nat) (b : Bytes) (h : s.silent = false) :
    (s.sendTo n dst ty c src fl b).out = s.out ++ [.directed dst (s.mkRec n ty c src fl b).1] := by
  have hs : (s.mkRec n ty c src fl b).2.silent = false := h
  unfold sendTo
  dsimp only
  rw [if_neg (Bool.eq_false_iff.mp hs)]
  split
  · rfl
  · exact (expOnly_toExp _ _ _).out

end State
end Sys2Proof.Machine

namespace Sys2Proof.Machine
namespace State

/-! ### Causes once pending stay pending (R47) -/

/-- Every interrupt cause pending in `s` is pending in `t`. -/
def pendingStays (s t : State) : Prop :=
  ∀ n b, (s.reg (F.INT_PEND_ERR.at n).addr).getLsbD b = true → (t.reg (F.INT_PEND_ERR.at n).addr).getLsbD b = true

theorem pendingStays.refl (s : State) : s.pendingStays s := fun _ _ h => h

theorem pendingStays.trans {s t u : State} (h : s.pendingStays t) (k : t.pendingStays u) : s.pendingStays u := fun n b hb => k n b (h n b hb)

theorem expOnly.pendingStays {s t : State} (h : s.expOnly t) : s.pendingStays t := fun n b hb => by
  rw [h.1 _ (by simp only [Fld.at]; omega)]
  exact hb

theorem pendingStays_setReg (s : State) {a : Nat} (v : Word) (h : a % 0x80000 ≠ 0x30) : s.pendingStays (s.setReg a v) := fun n b hb => by
  rw [reg_setReg_other _ _ (by simp only [Fld.at]; omega)]
  exact hb

theorem pendingStays_setFld (s : State) {f : Fld} (v : Nat) (h : f.addr % 0x80000 ≠ 0x30) : s.pendingStays (s.setFld f v) :=
  pendingStays_setReg s _ h

theorem pendingStays_foldl {α : Type} (f : State → α → State) (l : List α) (h : ∀ (s : State) (x : α), x ∈ l → s.pendingStays (f s x))
    (s : State) : s.pendingStays (l.foldl f s) :=
  List.foldlRecOn l f (motive := s.pendingStays) (.refl s) (fun _ hu x hx => hu.trans (h _ x hx))

/-- The register of causes after one becomes pending: that bit besides those it had. -/
theorem reg_pend_same (s : State) (n b : Nat) :
    (s.pend n b).reg (F.INT_PEND_ERR.at n).addr = s.reg (F.INT_PEND_ERR.at n).addr ||| BitVec.ofNat 64 (2 ^ b) := by
  rw [pend_frame]
  exact reg_setReg_same _ _ _

theorem reg_pend_other (s : State) (n b : Nat) {a : Nat} (h : a ≠ (F.INT_PEND_ERR.at n).addr) : (s.pend n b).reg a = s.reg a := by
  rw [pend_frame]
  exact reg_setReg_other _ _ h

theorem pendingStays_pend (s : State) (n b : Nat) : s.pendingStays (s.pend n b) := fun m i h => by
  by_cases e : m = n
  · rw [e, reg_pend_same, BitVec.getLsbD_or, ← e, h, Bool.true_or]
  · rw [reg_pend_other _ _ _ (by simp only [Fld.at]; omega)]
    exact h

theorem pendingStays_pmcAdd (s : State) (n k m : Nat) (hk : k < 8) : s.pendingStays (s.pmcAdd n k m) := by
  have h : ∀ o, o = 0x58 ∨ o = 0x98 → (o + 8 * k + n * 0x80000) % 0x80000 ≠ 0x30 := fun o ho => by omega
  have hv := pendingStays_setFld s (f := pmcField n k F.PMC_VALUE) ((s.fld (pmcField n k F.PMC_VALUE) + m) % 2 ^ 48) (h _ (.inl rfl))
  have ho := hv.trans (pendingStays_setFld _ (f := pmcField n k F.PMSEL_OVF) 1 (h _ (.inr rfl)))
  simp only [pmcAdd]
  split
  · exact hv
  · split
    · exact ho.trans (pendingStays_pend _ _ _)
    · exact ho

theorem pendingStays_perf (s : State) (n ev m : Nat) : s.pendingStays (s.perf n ev m) := by
  unfold perf
  split
  · exact .refl s
  · refine pendingStays_foldl _ _ (fun s k hk => ?_) s
    split
    · exact pendingStays_pmcAdd _ _ _ _ (List.mem_range.1 hk)
    · exact .refl s

/-- A Control request put among those that wait for a response (R164). -/
def withRequest (s : State) (q : CtrlReq) : State :=
  { s with stw := { s.stw with ctrl := s.stw.ctrl ++ [q], nextTag := (s.stw.nextTag + 1) % 2 ^ 16 } }

theorem control_eq (s : State) (die : Nat) (body : CtrlBody) (why : CtrlFor) :
    s.control die body why = (s.withRequest { tag := s.stw.nextTag, die := die, body := body, purpose := why }).sendControl
      { tag := s.stw.nextTag, die := die, body := body, purpose := why } := rfl

theorem pendingStays_sendControl (s : State) (q : CtrlReq) : s.pendingStays (s.sendControl q) := by
  obtain ⟨o, h⟩ := sendTo_expOnly s 14 [s.dieAddr q.die] 0x0C 8 s.myNode 0 (q.body.bytes q.tag)
  exact h.pendingStays

theorem pendingStays_ctrlWrite (s : State) (die : Nat) (ws : List (Nat × Nat)) (why : CtrlFor) : s.pendingStays (s.ctrlWrite die ws why) := by
  rw [ctrlWrite, control_eq]
  exact pendingStays_sendControl (s.withRequest _) _

/-! ### Trace messages and triggers keep pending causes -/

theorem pendingStays_trace (s : State) (n code : Nat) (p : Bytes) : s.pendingStays (s.trace n code p) := by
  have hseq : (F.TRC_SRC_DATA_NEXT_ISEQ.at n).addr % 0x80000 ≠ 0x30 := by simp only [Fld.at]; omega
  have hlost : (F.TRC_SRC_DATA_LOST.at n).addr % 0x80000 ≠ 0x30 := by simp only [Fld.at]; omega
  unfold trace
  split
  · exact .refl s
  · dsimp only
    split
    · exact pendingStays_setFld _ _ hseq
    · exact (pendingStays_setFld _ _ hseq).trans ((pendingStays_setFld _ _ hlost).trans (pendingStays_perf _ _ _ _))

theorem pendingStays_frozenLoss (s : State) (e : TrcEntry) : s.pendingStays (s.frozenLoss e) := pendingStays_setFld s _ (by decide)

theorem pendingStays_storeEntry (s : State) (e : TrcEntry) : s.pendingStays (s.storeEntry e) := by
  have hfreeze : s.pendingStays s.freezeTrace := by
    unfold freezeTrace
    split
    · exact pendingStays_setFld s _ (by decide)
    · exact .refl s
  unfold storeEntry
  split
  · exact .refl s
  · split
    · exact .refl s
    · exact hfreeze.trans (pendingStays_frozenLoss _ _)
  · exact pendingStays_frozenLoss _ _
  · exact .refl s

theorem pendingStays_acceptEntry (s : State) (e : TrcEntry) : s.pendingStays (s.acceptEntry e) :=
  (pendingStays_perf (s.noteEntry _) _ _ _).trans (pendingStays_storeEntry _ _)

theorem pendingStays_snapRequest (s : State) (e : Nat) : s.pendingStays (s.snapRequest e) := by
  have hset : s.pendingStays ((s.setFld F.TRC_SNAP_EPOCH e).setFld F.TRC_SNAP_REQ 1) :=
    (pendingStays_setFld _ _ (by decide)).trans (pendingStays_setFld _ _ (by decide))
  unfold snapRequest
  split
  · exact pendingStays_setFld s _ (by decide)
  · dsimp only
    split
    · exact hset.trans (pendingStays_foldl _ _ (fun s d _ => pendingStays_ctrlWrite s d _ _) _)
    · exact hset

theorem pendingStays_startCapture (s : State) (src : Nat) : s.pendingStays (s.startCapture src) := by
  have htrc : ∀ (u : State) (x : Trc), u.pendingStays { u with trc := x } := fun u x => .refl u
  unfold startCapture boost
  dsimp only
  refine .trans (.trans (.trans (.trans ?_ (pendingStays_setFld _ _ (by decide))) (pendingStays_setFld _ _ (by decide)))
    (pendingStays_setFld _ _ (by decide))) (htrc _ _)
  exact .trans (.trans (.trans (.trans (htrc s _) (pendingStays_setFld _ _ (by decide))) (pendingStays_setFld _ _ (by decide)))
    (pendingStays_setFld _ _ (by decide))) (pendingStays_setFld _ _ (by decide))

theorem pendingStays_fireTrigger (s : State) (src isl : Nat) : s.pendingStays (s.fireTrigger src isl) := by
  have hcross : ∀ u : State, u.pendingStays u.crossTrigger := fun u => by
    unfold crossTrigger
    split
    · exact pendingStays_foldl _ _ (fun s d _ => pendingStays_ctrlWrite s d _ _) u
    · exact .refl u
  have hsnap : ∀ u : State, u.pendingStays u.snapOnTrigger := fun u => by
    unfold snapOnTrigger
    split
    · exact pendingStays_snapRequest _ _
    · exact .refl u
  unfold fireTrigger
  split
  · exact .refl s
  · split
    · exact ((pendingStays_startCapture s src).trans (hcross _)).trans (hsnap _)
    · split
      · exact pendingStays_setFld s _ (by decide)
      · exact .refl s

theorem pendingStays_acceptEntries (fuel : Nat) (s : State) : s.pendingStays (acceptEntries fuel s) := by
  have hserve : ∀ (u : State) (e : TrcEntry), u.pendingStays (u.serveEntry e) := fun u e => by
    unfold serveEntry
    split
    · exact (pendingStays_acceptEntry u e).trans (pendingStays_fireTrigger _ _ _)
    · exact pendingStays_acceptEntry u e
  induction fuel generalizing s with
  | zero => exact .refl s
  | succ fuel ih =>
    unfold acceptEntries
    split
    · exact .refl s
    · split
      · exact .refl s
      · split
        · exact .refl s
        · exact (hserve (s.popEntry _ _) _).trans (ih _)

theorem pendingStays_roleChanged (s : State) : s.pendingStays s.roleChanged := by
  unfold roleChanged trigger
  refine (pendingStays_trace s 0 0x0E (le 4 (s.reg F.MGT_ROLE_NODE_AGG.addr).toNat)).trans ?_
  split
  · exact (pendingStays_acceptEntries _ _).trans (pendingStays_fireTrigger _ _ _)
  · exact .refl _

end State
end Sys2Proof.Machine

namespace Sys2Proof.Machine
namespace State

/-! ### Roles and trees under messages and register writes -/

/-- Messages between the state in which a command begins and its effect are messages of the command. -/
theorem onlyMessages.ofStart {s t : State} (h : s.start.onlyMessages t) : s.onlyMessages { t with pending := s.pending } := by
  obtain ⟨hreg, hrest⟩ := h
  exact ⟨hreg, by rw [hrest]; rfl⟩

theorem onlyMessages.role {s t : State} (h : s.onlyMessages t) (ti : Tier) : t.role ti = s.role ti := by
  rw [h.2]
  cases ti <;> rfl

theorem onlyMessages.lead {s t : State} (h : s.onlyMessages t) (p : Nat) : t.lead p = s.lead p := by
  rw [h.2]
  rfl

theorem onlyMessages.img {s t : State} (h : s.onlyMessages t) : t.img = s.img := by rw [h.2]

theorem onlyMessages.image {s t : State} (h : s.onlyMessages t) : t.image = s.image := by simp only [State.image, h.img]

theorem onlyMessages.dieMac {s t : State} (h : s.onlyMessages t) (d : Nat) : t.dieMac d = s.dieMac d := by simp only [State.dieMac, h.image]

theorem onlyMessages.aln {s t : State} (h : s.onlyMessages t) : t.aln = s.aln := by rw [h.2]

@[simp] theorem reg_modRole (s : State) (ti : Tier) (f : RoleSt → RoleSt) (a : Nat) : (s.modRole ti f).reg a = s.reg a := by cases ti <;> rfl

@[simp] theorem aln_modRole (s : State) (ti : Tier) (f : RoleSt → RoleSt) : (s.modRole ti f).aln = s.aln := by cases ti <;> rfl

@[simp] theorem silent_modRole (s : State) (ti : Tier) (f : RoleSt → RoleSt) : (s.modRole ti f).silent = s.silent := by cases ti <;> rfl

@[simp] theorem epoch_modRole (s : State) (ti : Tier) (f : RoleSt → RoleSt) : (s.modRole ti f).epoch = s.epoch := by cases ti <;> rfl

/-- The role changed is the tier's. -/
@[simp] theorem role_modRole_same (s : State) (ti : Tier) (f : RoleSt → RoleSt) : (s.modRole ti f).role ti = f (s.role ti) := by
  cases ti <;> rfl

theorem start_modRole (s : State) (ti : Tier) (f : RoleSt → RoleSt) : s.start.modRole ti f = (s.modRole ti f).start := by cases ti <;> rfl

theorem pending_modRole (s : State) (ti : Tier) (f : RoleSt → RoleSt) : (s.modRole ti f).pending = s.pending := by cases ti <;> rfl

theorem lowerTree_withPending (s : State) (x : List Instr) (ti : Tier) : ({ s with pending := x } : State).lowerTree ti = s.lowerTree ti := by
  cases ti <;> rfl

theorem role_withPending (s : State) (x : List Instr) (ti : Tier) : ({ s with pending := x } : State).role ti = s.role ti := by cases ti <;> rfl

/-- The role bits of a tier are one bit each of MGT_ROLE. -/
theorem roleBit_fits (ti : Tier) : ∀ f ∈ [namedF ti, deputyF ti, actingF ti, yieldedF ti, lostF ti], f.addr = 0x1100 ∧ f.w = 1 ∧ f.lo + f.w ≤ 16 := by
  cases ti <;> decide

/-- ROLE_EPOCH and the role change made known, as a frame. -/
theorem roleStep_frame (s : State) {fs : List Fld} (h : F.MGT_ROLE_ROLE_EPOCH ∈ fs) : s.onlyMessagesAnd fs s.roleStep :=
  ((onlyMessagesAnd.refl s fs).setFld _ h).then (om_roleChanged _)

theorem roleStep_epoch (s : State) : s.roleStep.fld F.MGT_ROLE_ROLE_EPOCH = s.epoch % 2 ^ 32 := by
  rw [roleStep, (om_roleChanged _).fld (by decide), fld_setFld_same _ _ _ (by decide)]
  exact Nat.mod_mod _ _

/-- A role bit set is set, and no other than it and ROLE_EPOCH changes. -/
theorem roleStep_flag (s : State) {f : Fld} (h : f.addr = 0x1100 ∧ f.w = 1 ∧ f.lo + f.w ≤ 16) : ((s.setFld f 1).roleStep).flag f = true := by
  obtain ⟨ha, hw, hlo⟩ := h
  have hl : ledger f.addr = false := by rw [ha]; decide
  rw [roleStep, (om_roleChanged _).flag hl, flag, fld_setFld_bits _ _ _ _ (.inl (by simp only; omega)) (by omega),
    fld_setFld_same _ _ _ (by omega), hw]
  rfl

/-! ### Presence and acknowledgements (R24, R28) -/

/-- A Broadcast to someone leaves as a directed record of type 0x24. -/
theorem out_sendBroadcast (s : State) (dst : List Nat) (body : Bytes) (hd : dst ≠ []) (h : s.silent = false) :
    ∃ r : Rec, (s.sendBroadcast dst body).out = s.out ++ [.directed dst r] ∧ r.type = 0x24 ∧ r.body = pad8 body := by
  unfold sendBroadcast
  rw [if_neg (by simpa using hd)]
  exact ⟨_, out_sendTo _ _ _ _ _ _ _ _ h, rfl, rfl⟩

/-- An Acknowledgement to someone leaves as a directed record of type 0x25. -/
theorem out_sendAck (s : State) (dst : List Nat) (k st fl g c x : Nat) (hd : dst ≠ []) (h : s.silent = false) :
    ∃ r : Rec, (s.sendAck dst k st fl g c x).out = s.out ++ [.directed dst r] ∧ r.type = 0x25 ∧ r.body = pad8 (ackBody k st fl g c x) := by
  unfold sendAck
  rw [if_neg (by simpa using hd)]
  exact ⟨_, out_sendTo _ _ _ _ _ _ _ _ h, rfl, rfl⟩

theorem exec_presenceReceive (s : State) (ti : Tier) (src e : Nat) :
    exec (.presenceReceive ti src e) s = .next { s.start.presenceReceive ti src e with pending := s.pending } := rfl

/-- A deputy that does not act: P rises, and the record is acknowledged. -/
theorem completes_presence_deputy (s : State) (ti : Tier) (src e : Nat) (hdep : s.flag (deputyF ti) = true) (hworks : s.works 14 = true)
    (hact : s.flag (actingF ti) = false) :
    Completes (.presenceReceive ti src e) s (fun t => (t.role ti).presence = max (s.role ti).presence e ∧
      (s.modRole ti (fun r => { r with presence := max r.presence e })).onlyMessages t ∧
      (s.silent = false → ∃ r : Rec, t.out = [.directed [src] r] ∧ r.type = 0x25 ∧ r.body = pad8 (ackBody 0 0 0 (e % 2 ^ 32) 0 0))) := by
  have he : s.start.presenceReceive ti src e =
      (s.modRole ti (fun r => { r with presence := max r.presence e })).start.sendAck [src] 0 0 0 (e % 2 ^ 32) 0 0 := by
    rw [← start_modRole]
    have hd : s.start.flag (deputyF ti) = true := hdep
    have hw : s.start.works 14 = true := hworks
    have ha : s.start.flag (actingF ti) = false := hact
    simp only [presenceReceive, hd, hw, ha, Bool.not_true, Bool.or_self, Bool.false_eq_true, if_false]
  have hm := om_sendAck (s.modRole ti (fun r => { r with presence := max r.presence e })).start [src] 0 0 0 (e % 2 ^ 32) 0 0
  have hms := hm.ofStart
  rw [pending_modRole] at hms
  refine ⟨_, exec_presenceReceive s ti src e, ?_⟩
  rw [he]
  refine ⟨?_, hms, fun hsil => ?_⟩
  · rw [hms.role, role_modRole_same]
  · exact out_sendAck _ [src] 0 0 0 (e % 2 ^ 32) 0 0 (by simp) (by rw [← start_modRole, silent_modRole]; exact hsil)

/-- An acting deputy answers with its takeover Broadcast. -/
theorem completes_presence_acting (s : State) (ti : Tier) (src e : Nat) (hdep : s.flag (deputyF ti) = true) (hworks : s.works 14 = true)
    (hact : s.flag (actingF ti) = true) :
    Completes (.presenceReceive ti src e) s (fun t => s.onlyMessages t ∧
      (s.silent = false → ∃ r : Rec, t.out = [.directed [src] r] ∧ r.type = 0x24 ∧
        r.body = pad8 (broadcastBody 1 0 0 (s.fld F.MGT_ROLE_ROLE_EPOCH) 0 0 1 (le 6 ((s.role ti).presence - 8))))) := by
  have hr : s.start.role ti = s.role ti := by cases ti <;> rfl
  have he : s.start.presenceReceive ti src e =
      s.start.sendBroadcast [src] (broadcastBody 1 0 0 (s.fld F.MGT_ROLE_ROLE_EPOCH) 0 0 1 (le 6 ((s.role ti).presence - 8))) := by
    have hd : s.start.flag (deputyF ti) = true := hdep
    have hw : s.start.works 14 = true := hworks
    have ha : s.start.flag (actingF ti) = true := hact
    simp only [presenceReceive, hd, hw, ha, Bool.not_true, Bool.or_self, Bool.false_eq_true, if_false, if_true, takeoverBody, hr, fld_start]
  refine ⟨_, exec_presenceReceive s ti src e, ?_⟩
  rw [he]
  exact ⟨(om_sendBroadcast _ _ _).ofStart, fun hsil => out_sendBroadcast s.start [src] _ (by simp) hsil⟩

theorem exec_presenceReceive_ignored (s : State) (ti : Tier) (src e : Nat) (h : s.flag (deputyF ti) = false ∨ s.works 14 = false) :
    exec (.presenceReceive ti src e) s = .next { s with out := [] } := by
  have he : s.start.presenceReceive ti src e = s.start := by
    unfold presenceReceive
    rw [if_pos]
    rcases h with h | h
    · have : s.start.flag (deputyF ti) = false := h
      simp [this]
    · have : s.start.works 14 = false := h
      simp [this]
  rw [exec_presenceReceive, he]
  rfl

theorem exec_presenceAcknowledgement (s : State) (ti : Tier) (e : Nat) :
    exec (.presenceAcknowledgement ti e) s = .next ({ s with out := [] }.modRole ti (fun r => { r with unanswered := 0 })) := by
  cases ti <;> rfl

/-! ### TAKEOVER_RECEIVE (R25, R27) -/

/-- This block's role below a tier's master, which follows a takeover of that tier. -/
def follows (s : State) (ti : Tier) : Bool := match ti with | .group => true | .system => s.masterOf .group

/-- A child is told of the takeover: it is due to switch its parent. -/
def childTold (s : State) (ti : Tier) (a from_ : Nat) : State :=
  if s.follows ti then s.modLower ti (fun x => { x with switchTo := some a, resendFrom := from_ }) else s

/-- A master that is named and has not yielded is told of it: it is due to yield. -/
def masterTold (s : State) (ti : Tier) (a : Nat) : State :=
  if s.flag (namedF ti) && !s.flag (yieldedF ti) then s.modRole ti (fun r => { r with yieldDue := true, acting := some a }) else s

theorem exec_takeoverReceive (s : State) (ti : Tier) (a e from_ : Nat) :
    exec (.takeoverReceive ti a e from_) s = .next { s.start.takeoverReceive ti a from_ with pending := s.pending } := rfl

theorem takeoverReceive_eq (s : State) (ti : Tier) (a from_ : Nat) (hworks : s.works 14 = true) (ha : a ≠ s.myNode) :
    s.takeoverReceive ti a from_ = (s.childTold ti a from_).masterTold ti a := by
  unfold takeoverReceive
  rw [if_neg (by simp [hworks, ha])]
  rfl

theorem childTold_lowerTree (s : State) (ti : Tier) (a from_ : Nat) : (s.childTold ti a from_).lowerTree ti =
    if s.follows ti then { s.lowerTree ti with switchTo := some a, resendFrom := from_ } else s.lowerTree ti := by
  unfold childTold
  split
  · cases ti <;> rfl
  · rfl

theorem childTold_flag (s : State) (ti : Tier) (a from_ : Nat) (f : Fld) : (s.childTold ti a from_).flag f = s.flag f := by
  unfold childTold
  split
  · cases ti <;> rfl
  · rfl

theorem childTold_role (s : State) (ti : Tier) (a from_ : Nat) : (s.childTold ti a from_).role ti = s.role ti := by
  unfold childTold
  split
  · cases ti <;> rfl
  · rfl

theorem masterTold_lowerTree (s : State) (ti : Tier) (a : Nat) : (s.masterTold ti a).lowerTree ti = s.lowerTree ti := by
  unfold masterTold
  split
  · cases ti <;> rfl
  · rfl

theorem masterTold_role (s : State) (ti : Tier) (a : Nat) : (s.masterTold ti a).role ti =
    if s.flag (namedF ti) = true ∧ s.flag (yieldedF ti) = false then { s.role ti with yieldDue := true, acting := some a } else s.role ti := by
  unfold masterTold
  cases s.flag (namedF ti) with
  | false => rfl
  | true => cases s.flag (yieldedF ti) with
    | false => exact role_modRole_same _ _ _
    | true => rfl

/-- Nothing but the trees and roles changes. -/
theorem told_frame (s : State) (ti : Tier) (a from_ : Nat) : (s.childTold ti a from_).masterTold ti a = { s with mgt := { s.mgt with
    nodeTree := ((s.childTold ti a from_).masterTold ti a).mgt.nodeTree, groupTree := ((s.childTold ti a from_).masterTold ti a).mgt.groupTree
    group := ((s.childTold ti a from_).masterTold ti a).mgt.group, system := ((s.childTold ti a from_).masterTold ti a).mgt.system } } := by
  unfold childTold masterTold
  split <;> split <;> cases ti <;> rfl

theorem completes_takeoverReceive (s : State) (ti : Tier) (a e from_ : Nat) (hworks : s.works 14 = true) (ha : a ≠ s.myNode) :
    Completes (.takeoverReceive ti a e from_) s (fun t =>
      (ti = .group ∨ s.masterOf .group = true → t.lowerTree ti = { s.lowerTree ti with switchTo := some a, resendFrom := from_ }) ∧
      (ti = .system → s.masterOf .group = false → t.lowerTree ti = s.lowerTree ti) ∧
      t.role ti = (if s.flag (namedF ti) = true ∧ s.flag (yieldedF ti) = false then { s.role ti with yieldDue := true, acting := some a }
        else s.role ti) ∧
      t = { s with out := [], mgt := { s.mgt with
        nodeTree := t.mgt.nodeTree, groupTree := t.mgt.groupTree, group := t.mgt.group, system := t.mgt.system } }) := by
  have hfol : s.start.follows ti = s.follows ti := by cases ti <;> rfl
  have hlow : s.start.lowerTree ti = s.lowerTree ti := by cases ti <;> rfl
  have hlower := (masterTold_lowerTree (s.start.childTold ti a from_) ti a).trans (childTold_lowerTree s.start ti a from_)
  rw [hfol, hlow] at hlower
  refine ⟨_, exec_takeoverReceive s ti a e from_, ?_⟩
  rw [takeoverReceive_eq s.start ti a from_ hworks ha]
  refine ⟨fun h => ?_, fun h hm => ?_, ?_, ?_⟩
  · have hf : s.follows ti = true := by
      rcases h with rfl | h
      · rfl
      · cases ti
        · rfl
        · exact h
    rw [lowerTree_withPending, hlower, if_pos hf]
  · have hf : s.follows ti = false := by rw [h]; exact hm
    rw [lowerTree_withPending, hlower, if_neg (Bool.eq_false_iff.mp hf)]
  · have hr : s.start.role ti = s.role ti := by cases ti <;> rfl
    rw [role_withPending, masterTold_role, childTold_role, childTold_flag, childTold_flag, hr]
    rfl
  · rw [told_frame]
    rfl

theorem exec_takeoverReceive_ignored (s : State) (ti : Tier) (a e from_ : Nat) (h : s.works 14 = false ∨ a = s.myNode) :
    exec (.takeoverReceive ti a e from_) s = .next { s with out := [] } := by
  have he : s.start.takeoverReceive ti a from_ = s.start := if_pos (by
    rcases h with h | h
    · have hw : s.start.works 14 = false := h
      simp [hw]
    · have hn : a = s.start.myNode := h
      simp [hn])
  rw [exec_takeoverReceive, he]
  rfl

/-! ### YIELD (R27) -/

@[simp] theorem reg_setEpochs (s : State) (l : List AEpoch) {a : Nat} (h : a ≠ F.ALN_STATUS_OPEN_EPOCHS.addr) :
    (s.setEpochs l).reg a = s.reg a := by
  unfold setEpochs
  rw [reg_setFld_other _ F.ALN_STATUS_BACKLOG _ h, reg_setFld_other _ _ _ h]
  rfl

/-- The epochs list replaced, and the two fields that show it; nothing else. -/
theorem setEpochs_frame (s : State) (l : List AEpoch) :
    ({ s with aln := { s.aln with epochs := l } } : State).onlyMessagesAnd [F.ALN_STATUS_OPEN_EPOCHS, F.ALN_STATUS_BACKLOG] (s.setEpochs l) :=
  ((onlyMessagesAnd.refl _ _).setFld _ (by simp)).setFld _ (by simp)

theorem aln_setEpochs (s : State) (l : List AEpoch) : (s.setEpochs l).aln = { s.aln with epochs := l } := rfl

/-- A frame with fewer fields is one with more. -/
theorem onlyMessagesAnd.mono {s t : State} {fs gs : List Fld} (h : s.onlyMessagesAnd fs t) (hsub : ∀ f ∈ fs, f ∈ gs) : s.onlyMessagesAnd gs t :=
  ⟨fun g h64 hl hg => h.1 g h64 hl (fun f hf => hg f (hsub f hf)), h.2⟩

/-- A frame holds of states whose alignment is replaced alike. -/
theorem onlyMessagesAnd.withAln {s t : State} {fs : List Fld} (h : s.onlyMessagesAnd fs t) (x : Aln) :
    ({ s with aln := x } : State).onlyMessagesAnd fs { t with aln := x } := by
  obtain ⟨hfld, hrest⟩ := h
  exact ⟨hfld, by rw [hrest]⟩

/-- The state after a master's bits show that it has yielded. -/
def yieldStep (s : State) (ti : Tier) : State := ((s.modRole ti (fun r => { r with yieldDue := false })).setFld (yieldedF ti) 1).roleStep

theorem exec_yield (s : State) (ti : Tier) : exec (.yield ti) s = .next { s.start.yield ti with pending := s.pending } := rfl

theorem yield_eq (s : State) (ti : Tier) (hdue : (s.role ti).yieldDue = true) (hnamed : s.flag (namedF ti) = true) :
    s.yield ti = (s.yieldStep ti).setEpochs ((s.yieldStep ti).aln.epochs.filter (fun x => x.level != tierLevel ti)) := by
  unfold yield
  rw [if_neg (by simp [hdue, hnamed])]
  rfl

/-- The registers that yielding writes. -/
def yieldFields (ti : Tier) : List Fld := [yieldedF ti, F.MGT_ROLE_ROLE_EPOCH, F.ALN_STATUS_OPEN_EPOCHS, F.ALN_STATUS_BACKLOG]

theorem yieldStep_frame (s : State) (ti : Tier) :
    (s.modRole ti (fun r => { r with yieldDue := false })).onlyMessagesAnd (yieldFields ti) (s.yieldStep ti) :=
  ((onlyMessagesAnd.refl _ _).setFld _ (by simp [yieldFields])).trans (roleStep_frame _ (by simp [yieldFields]))

theorem onlyMessagesAnd.aln {s t : State} {fs : List Fld} (h : s.onlyMessagesAnd fs t) : t.aln = s.aln := by rw [h.2]

theorem onlyMessagesAnd.role {s t : State} {fs : List Fld} (h : s.onlyMessagesAnd fs t) (ti : Tier) : t.role ti = s.role ti := by
  rw [h.2]
  cases ti <;> rfl

theorem completes_yield (s : State) (ti : Tier) (hdue : (s.role ti).yieldDue = true) (hnamed : s.flag (namedF ti) = true) :
    Completes (.yield ti) s (fun t =>
      t.flag (yieldedF ti) = true ∧ t.fld F.MGT_ROLE_ROLE_EPOCH = s.epoch % 2 ^ 32 ∧ (t.role ti).yieldDue = false ∧
      (∀ x, x ∈ t.aln.epochs ↔ x ∈ s.aln.epochs ∧ x.level ≠ tierLevel ti) ∧
      ({ s.modRole ti (fun r => { r with yieldDue := false }) with aln := { s.aln with epochs := t.aln.epochs } } : State).onlyMessagesAnd
        [yieldedF ti, F.MGT_ROLE_ROLE_EPOCH, F.ALN_STATUS_OPEN_EPOCHS, F.ALN_STATUS_BACKLOG] t) := by
  have hr : s.start.role ti = s.role ti := by cases ti <;> rfl
  have hframe := yieldStep_frame s.start ti
  have haln : (s.start.yieldStep ti).aln = s.aln := by rw [hframe.aln, aln_modRole]; rfl
  have hmem : yieldedF ti ∈ [namedF ti, deputyF ti, actingF ti, yieldedF ti, lostF ti] := by simp
  have hbit := roleBit_fits ti _ hmem
  have hother : ∀ f : Fld, f.addr = 0x1100 → ∀ (u : State) (l : List AEpoch), (u.setEpochs l).fld f = u.fld f := fun f hf u l => by
    simp only [fld, hf, reg_setEpochs u l (a := 0x1100) (by decide)]
  refine ⟨_, exec_yield s ti, ?_⟩
  rw [yield_eq s.start ti (by rw [hr]; exact hdue) hnamed, haln]
  refine ⟨?_, ?_, ?_, ?_, ?_⟩
  · have h := roleStep_flag (s.start.modRole ti (fun r => { r with yieldDue := false })) hbit
    rw [flag] at h ⊢
    rw [fld_with_pending, hother _ hbit.1]
    exact h
  · rw [fld_with_pending, hother _ rfl, yieldStep, roleStep_epoch, epoch, fld_setFld_reg _ _ _ _ (by rw [hbit.1]; decide)]
    exact congrArg (· % 2 ^ 32) (epoch_modRole s.start ti _)
  · rw [role_withPending]
    have h : ((s.start.yieldStep ti).setEpochs (s.aln.epochs.filter (fun x => x.level != tierLevel ti))).role ti = (s.start.yieldStep ti).role ti := by
      cases ti <;> rfl
    rw [h, hframe.role, role_modRole_same]
  · intro x
    simp [aln_setEpochs]
  · have hset := (setEpochs_frame (s.start.yieldStep ti) (s.aln.epochs.filter (fun x => x.level != tierLevel ti))).mono
      (gs := yieldFields ti) (by simp [yieldFields])
    have h := (hframe.withAln { s.aln with epochs := s.aln.epochs.filter (fun x => x.level != tierLevel ti) }).trans (haln ▸ hset)
    obtain ⟨hfld, hrest⟩ := h
    refine ⟨?_, ?_⟩
    · cases ti <;> exact hfld
    · rw [hrest]
      cases ti <;> rfl

theorem exec_yield_ignored (s : State) (ti : Tier) (h : (s.role ti).yieldDue = false ∨ s.flag (namedF ti) = false) :
    exec (.yield ti) s = .next { s with out := [] } := by
  have hr : s.start.role ti = s.role ti := by cases ti <;> rfl
  have he : s.start.yield ti = s.start := if_pos (by
    rw [hr]
    rcases h with h | h
    · simp [h]
    · have hn : s.start.flag (namedF ti) = false := h
      simp [hn])
  rw [exec_yield, he]
  rfl

/-! ### DEPUTY_LOST (R28) -/

/-- A bit read as a field of width 1. -/
theorem getBits_one_of_getLsbD {v : Word} {i : Nat} (h : v.getLsbD i = true) : getBits v i 1 = 1 := by
  refine Nat.eq_of_testBit_eq (fun j => ?_)
  rw [testBit_getBits]
  cases j with
  | zero => simpa using h
  | succ j => simp [Nat.testBit_succ]

theorem exec_deputyLost (s : State) (ti : Tier) : exec (.deputyLost ti) s = .next { s.start.deputyLost ti with pending := s.pending } := rfl

theorem deputyLost_eq (s : State) (ti : Tier) (hnamed : s.flag (namedF ti) = true) (hy : s.flag (yieldedF ti) = false)
    (hun : s.threshold ti ≤ (s.role ti).unanswered) (hlost : s.flag (lostF ti) = false) :
    s.deputyLost ti = ((s.setFld (lostF ti) 1).pend 0 9).roleChanged := by
  unfold deputyLost
  rw [if_pos (by simp [hnamed, hy, hun, hlost])]

theorem completes_deputyLost (s : State) (ti : Tier) (hnamed : s.flag (namedF ti) = true) (hy : s.flag (yieldedF ti) = false)
    (hun : s.threshold ti ≤ (s.role ti).unanswered) (hlost : s.flag (lostF ti) = false) :
    Completes (.deputyLost ti) s (fun t => t.flag (lostF ti) = true ∧ getBits (t.reg (F.INT_PEND_ERR.at 0).addr) 9 1 = 1 ∧
      s.onlyMessagesAnd [lostF ti] t) := by
  have hr : s.start.role ti = s.role ti := by cases ti <;> rfl
  have hth : s.start.threshold ti = s.threshold ti := by cases ti <;> rfl
  obtain ⟨ha, hw, hlo⟩ := roleBit_fits ti (lostF ti) (by simp)
  have hl : ledger (lostF ti).addr = false := by rw [ha]; decide
  have hmsg := (om_pend (s.start.setFld (lostF ti) 1) 0 9).trans (om_roleChanged _)
  refine ⟨_, exec_deputyLost s ti, ?_⟩
  rw [deputyLost_eq s.start ti hnamed hy (by rw [hr, hth]; exact hun) hlost]
  refine ⟨?_, ?_, ?_⟩
  · rw [flag_with_pending, hmsg.flag hl, flag, fld_setFld_same _ _ _ (by omega), hw]
    rfl
  · have hpend : (((s.start.setFld (lostF ti) 1).pend 0 9).reg (F.INT_PEND_ERR.at 0).addr).getLsbD 9 = true := by
      rw [reg_pend_same, BitVec.getLsbD_or]
      exact Bool.or_true _
    have hstays := pendingStays_roleChanged _ 0 9 hpend
    rw [reg_with_pending]
    exact getBits_one_of_getLsbD hstays
  · exact (((onlyMessagesAnd.refl s.start _).setFld _ (by simp)).then hmsg).ofStart

/-! ### LEAD_LOST (R22) -/

/-- A batch of register writes, as it waits for its response. -/
def writeBatch (ws : List (Nat × Nat)) : CtrlBody := .batch (ws.map (fun w => { offset := w.1, write := true, value := w.2 }))

/-- Control requests that wait go on waiting. -/
def requestsStay (s t : State) : Prop := ∀ q ∈ s.stw.ctrl, q ∈ t.stw.ctrl

theorem requestsStay.trans {s t u : State} (h : s.requestsStay t) (k : t.requestsStay u) : s.requestsStay u := fun q hq => k q (h q hq)

theorem ctrl_ctrlWrite (s : State) (die : Nat) (ws : List (Nat × Nat)) (why : CtrlFor) : (s.ctrlWrite die ws why).stw.ctrl =
    s.stw.ctrl ++ [{ tag := s.stw.nextTag, die := die, body := writeBatch ws, purpose := why }] := by
  rw [ctrlWrite, control_eq]
  obtain ⟨o, h⟩ := sendTo_expOnly (s.withRequest { tag := s.stw.nextTag, die := die, body := writeBatch ws, purpose := why }) 14
    [s.dieAddr die] 0x0C 8 s.myNode 0 ((writeBatch ws).bytes s.stw.nextTag)
  exact (congrArg Stw.ctrl h.stw :)

/-- The write to a die waits for its response afterwards. -/
theorem ctrlWrite_waits (s : State) (die : Nat) (ws : List (Nat × Nat)) (why : CtrlFor) :
    ∃ q ∈ (s.ctrlWrite die ws why).stw.ctrl, q.die = die ∧ q.body = writeBatch ws := by
  rw [ctrl_ctrlWrite]
  exact ⟨_, List.mem_append_right _ (List.mem_singleton.2 rfl), rfl, rfl⟩

theorem requestsStay_ctrlWrite (s : State) (die : Nat) (ws : List (Nat × Nat)) (why : CtrlFor) : s.requestsStay (s.ctrlWrite die ws why) := by
  intro q hq
  rw [ctrl_ctrlWrite]
  exact List.mem_append_left _ hq

/-- PTK_REC_DMAC of every die of a list written with the alternate lead's address. -/
def tellDies (s : State) (alt : Nat) (ds : List Nat) : State := ds.foldl (fun s d => s.ctrlWrite d [(0x7A8, s.dieMac alt)] .plain) s

theorem om_tellDies (s : State) (alt : Nat) (ds : List Nat) : s.onlyMessages (s.tellDies alt ds) := om_foldl _ _ (fun s d _ => om_ctrlWrite s d _ _) s

theorem requestsStay_tellDies (s : State) (alt : Nat) (ds : List Nat) : s.requestsStay (s.tellDies alt ds) :=
  List.foldlRecOn ds _ (motive := s.requestsStay) (fun _ h => h) (fun _ hu _ _ => hu.trans (requestsStay_ctrlWrite _ _ _ _))

theorem tellDies_waits (s : State) (alt : Nat) (ds : List Nat) {d : Nat} (hd : d ∈ ds) :
    ∃ q ∈ (s.tellDies alt ds).stw.ctrl, q.die = d ∧ q.body = writeBatch [(0x7A8, s.dieMac alt)] := by
  induction ds generalizing s with
  | nil => simp at hd
  | cons x ds ih =>
    have hmac : (s.ctrlWrite x [(0x7A8, s.dieMac alt)] .plain).dieMac alt = s.dieMac alt := (om_ctrlWrite s x _ _).dieMac alt
    rcases List.mem_cons.1 hd with rfl | hd
    · obtain ⟨q, hq, hdie, hbody⟩ := ctrlWrite_waits s d [(0x7A8, s.dieMac alt)] .plain
      exact ⟨q, requestsStay_tellDies _ alt ds q hq, hdie, hbody⟩
    · have h := ih (s.ctrlWrite x [(0x7A8, s.dieMac alt)] .plain) hd
      rwa [hmac] at h

/-- Package `p`'s alternate lead becomes its lead. -/
def leadMoved (s : State) (p : Nat) : State :=
  { s with mgt := { s.mgt with leads := s.mgt.leads.put (fun _ => {}) p { s.lead p with lead := (s.lead p).alt, silent := 0 } } }

/-- The dies of package `p` told of the new lead. -/
def leadTold (s : State) (p : Nat) : State :=
  ((s.leadMoved p).ctrlWrite (s.lead p).alt [(0x7A8, s.image.nodeMac)] .plain).tellDies (s.lead p).alt
    ((s.lead p).dies.filter (fun d => d != (s.lead p).alt))

/-- The change made known as an Event. -/
def leadTaken (s : State) (p : Nat) : State :=
  (s.leadTold p).event 14 0x0003 ((s.leadTold p).dieAddr (s.lead p).lead) (s.lead p).silent (le 4 ((s.leadTold p).dieAddr (s.lead p).alt))

theorem exec_leadLost (s : State) (p : Nat) : exec (.leadLost p) s = .next { s.start.leadLost p with pending := s.pending } := rfl

theorem leadLost_eq (s : State) (p : Nat) (h4 : 4 ≤ (s.lead p).silent) (hp : ∃ c ∈ s.image.packages, c.package = p) :
    s.leadLost p = s.leadTaken p := by
  have hany : s.image.packages.any (fun c => c.package == p) = true := by simpa using hp
  unfold leadLost
  dsimp only
  rw [if_neg (by simp only [hany]; simp; omega)]
  rfl

theorem om_leadTaken (s : State) (p : Nat) : (s.leadMoved p).onlyMessages (s.leadTaken p) :=
  ((om_ctrlWrite _ _ _ _).trans (om_tellDies _ _ _)).trans (om_event _ _ _ _ _ _)

theorem stw_leadTaken (s : State) (p : Nat) : (s.leadTaken p).stw = (s.leadTold p).stw := (expOnly_send (s.leadTold p) _ _ _ _ _ _).stw

/-- Every die of the package is written the new lead's address, the new lead this block's. -/
theorem leadTold_waits (s : State) (p d : Nat) (hd : d = (s.lead p).alt ∨ d ∈ (s.lead p).dies) :
    ∃ q ∈ (s.leadTold p).stw.ctrl, q.die = d ∧
      q.body = writeBatch [(0x7A8, if d = (s.lead p).alt then s.image.nodeMac else s.dieMac (s.lead p).alt)] := by
  by_cases he : d = (s.lead p).alt
  · obtain ⟨q, hq, hdie, hbody⟩ := ctrlWrite_waits (s.leadMoved p) (s.lead p).alt [(0x7A8, s.image.nodeMac)] .plain
    exact ⟨q, requestsStay_tellDies _ _ _ q hq, hdie.trans he.symm, by rw [hbody, if_pos he]⟩
  · have hmem : d ∈ (s.lead p).dies.filter (fun d => d != (s.lead p).alt) :=
      List.mem_filter.2 ⟨hd.resolve_left he, by simpa using he⟩
    obtain ⟨q, hq, hdie, hbody⟩ :=
      tellDies_waits ((s.leadMoved p).ctrlWrite (s.lead p).alt [(0x7A8, s.image.nodeMac)] .plain) (s.lead p).alt _ hmem
    refine ⟨q, hq, hdie, ?_⟩
    rw [hbody, if_neg he, (om_ctrlWrite _ _ _ _).dieMac]
    rfl

theorem completes_leadLost (s : State) (p : Nat) (l : LeadSt) (hl : l = s.lead p) (h4 : 4 ≤ l.silent)
    (hp : ∃ c ∈ s.image.packages, c.package = p) :
    Completes (.leadLost p) s (fun t => t.lead p = { l with lead := l.alt, silent := 0 } ∧
      (∀ d, d = l.alt ∨ d ∈ l.dies → ∃ q ∈ t.stw.ctrl, q.die = d ∧
        q.body = .batch [{ offset := 0x7A8, write := true, value := if d = l.alt then s.image.nodeMac else s.dieMac l.alt }]) ∧
      ({ s with mgt := { s.mgt with leads := t.mgt.leads } } : State).onlyMessages t) := by
  subst hl
  have hmsg : (s.leadMoved p).onlyMessages { s.start.leadTaken p with pending := s.pending } := onlyMessages.ofStart (om_leadTaken s.start p)
  refine ⟨_, exec_leadLost s p, ?_⟩
  rw [leadLost_eq s.start p h4 hp]
  refine ⟨(hmsg.lead p).trans (Tab.get_put_same _ _ _), fun d hd => ?_, ?_⟩
  · obtain ⟨q, hq, hdie, hbody⟩ := leadTold_waits s.start p d hd
    exact ⟨q, (congrArg Stw.ctrl (stw_leadTaken s.start p)).symm ▸ hq, hdie, hbody⟩
  · have hleads : ({ s.start.leadTaken p with pending := s.pending } : State).mgt.leads = (s.leadMoved p).mgt.leads := by rw [hmsg.2]
    rw [hleads]
    exact hmsg

theorem exec_leadLost_ignored (s : State) (p : Nat) (h : (s.lead p).silent < 4) : exec (.leadLost p) s = .next { s with out := [] } := by
  have he : s.start.leadLost p = s.start := if_pos (by
    have hl : (s.start.lead p).silent < 4 := h
    simp [hl])
  rw [exec_leadLost, he]
  rfl

end State

/-- Settles O31, a lemma per clause: presence records, acknowledgements, takeover Broadcasts, yielding, a lost deputy and a lost lead. -/
theorem mastersAndDeputies : Obligations.MastersAndDeputies :=
  ⟨State.completes_presence_deputy, State.completes_presence_acting, State.exec_presenceReceive_ignored, State.exec_presenceAcknowledgement,
    State.completes_takeoverReceive, State.exec_takeoverReceive_ignored, State.completes_yield, State.exec_yield_ignored,
    State.completes_deputyLost, State.completes_leadLost, State.exec_leadLost_ignored⟩

end Sys2Proof.Machine

namespace Sys2Proof.Machine
namespace State

/-! ### What is sent stays sent -/

/-- Everything sent in `s` is sent in `t`. -/
def outStays (s t : State) : Prop := ∀ e ∈ s.out, e ∈ t.out

theorem outStays.refl (s : State) : s.outStays s := fun _ h => h

theorem outStays.trans {s t u : State} (h : s.outStays t) (k : t.outStays u) : s.outStays u := fun e he => k e (h e he)

theorem outStays_of_eq {s t : State} (h : t.out = s.out) : s.outStays t := fun e he => by rw [h]; exact he

theorem outStays_foldl {α : Type} (f : State → α → State) (l : List α) (h : ∀ (s : State) (x : α), s.outStays (f s x)) (s : State) :
    s.outStays (l.foldl f s) :=
  List.foldlRecOn l f (motive := s.outStays) (.refl s) (fun _ hu _ _ => hu.trans (h _ _))

theorem outStays_emit (s : State) (e : Emit) : s.outStays (s.emit e) := fun _ h => List.mem_append_left _ h

theorem outStays_sendTo (s : State) (n : Nat) (dst : List Nat) (ty c src fl : Nat) (b : Bytes) : s.outStays (s.sendTo n dst ty c src fl b) := by
  have hrec : s.outStays (s.mkRec n ty c src fl b).2 := .refl s
  unfold sendTo
  dsimp only
  split
  · exact hrec
  · split
    · exact hrec.trans (outStays_emit _ _)
    · exact (hrec.trans (outStays_emit _ _)).trans (outStays_of_eq (expOnly_toExp _ _ _).out)

theorem outStays_sendAck (s : State) (dst : List Nat) (k st fl g c x : Nat) : s.outStays (s.sendAck dst k st fl g c x) := by
  unfold sendAck
  split
  · exact .refl s
  · exact outStays_sendTo _ _ _ _ _ _ _ _

theorem out_pend (s : State) (n b : Nat) : (s.pend n b).out = s.out := by rw [pend_frame]

theorem out_pmcAdd (s : State) (n k m : Nat) : (s.pmcAdd n k m).out = s.out := by
  simp only [pmcAdd]
  split
  · rfl
  · split
    · exact out_pend _ _ _
    · rfl

theorem out_perf (s : State) (n ev m : Nat) : (s.perf n ev m).out = s.out := by
  unfold perf
  split
  · rfl
  · refine List.foldlRecOn _ _ (motive := fun u : State => u.out = s.out) rfl (fun u hu k _ => ?_)
    split
    · exact (out_pmcAdd _ _ _ _).trans hu
    · exact hu

theorem out_trace (s : State) (n code : Nat) (p : Bytes) : (s.trace n code p).out = s.out := by
  unfold trace
  split
  · rfl
  · dsimp only
    split
    · rfl
    · exact out_perf _ _ _ _

/-! ### TAKEOVER (R24, R25, R182) -/

/-- The deputy acts, and says so. -/
def acted (s : State) (ti : Tier) : State := (s.setFld (actingF ti) 1).roleStep

/-- It has the tier's children. -/
def adopted (s : State) (ti : Tier) : State := (s.acted ti).adopt ti ((s.acted ti).tierChildren ti)

/-- It has the tier's epochs open, from the one that its children resend. -/
def reopened (s : State) (ti : Tier) : State := (s.adopted ti).openRange (tierLevel ti) ((s.role ti).presence - 8) (s.adopted ti).epoch

/-- The blocks that its takeover Broadcast names: the children, and the old master. -/
def takeoverDst (s : State) (ti : Tier) : List Nat :=
  if (s.tierChildren ti).contains (s.masterBlock ti) || s.masterBlock ti = s.myNode then s.tierChildren ti
  else s.tierChildren ti ++ [s.masterBlock ti]

/-- It has told them. -/
def announced (s : State) (ti : Tier) : State :=
  (s.reopened ti).sendBroadcast (s.takeoverDst ti) ((s.reopened ti).takeoverBody ti (s.reopened ti).epoch)

/-- A system deputy that acts runs as grandmaster. -/
def tookOver (s : State) (ti : Tier) : State :=
  if ti = .system ∧ (s.announced ti).tim.servo.st ≠ 0 then (s.announced ti).freeLock else s.announced ti

theorem takeover_eq (s : State) (ti : Tier) (hdep : s.flag (deputyF ti) = true) (hact : s.flag (actingF ti) = false) (harm : s.isArmed = true)
    (hlag : s.lagPlus ti < s.epoch - (s.role ti).presence) : s.takeover ti = s.tookOver ti := by
  unfold takeover
  dsimp only
  rw [if_neg (by simp [hdep, hact, harm, hlag])]
  rfl

theorem takeover_ignored (s : State) (ti : Tier) (h : s.flag (deputyF ti) = false ∨ s.flag (actingF ti) = true ∨ s.isArmed = false ∨
    s.epoch - (s.role ti).presence ≤ s.lagPlus ti) : s.takeover ti = s := by
  refine if_pos ?_
  rcases h with h | h | h | h
  · simp [h]
  · simp [h]
  · simp [h]
  · simp; omega

/-- The registers in which a role taken over shows. -/
def actedFields (ti : Tier) : List Fld := [actingF ti, F.MGT_ROLE_ROLE_EPOCH]

theorem acted_frame (s : State) (ti : Tier) : s.onlyMessagesAnd (actedFields ti) (s.acted ti) :=
  ((onlyMessagesAnd.refl s _).setFld _ (by simp [actedFields])).trans (roleStep_frame _ (by simp [actedFields]))

theorem onlyMessagesAnd.image {s t : State} {fs : List Fld} (h : s.onlyMessagesAnd fs t) : t.image = s.image := by rw [h.2]; rfl

/-- A field of another register than MGT_ROLE, or of its block address, is the same after a role is taken over. -/
theorem acted_fld (s : State) (ti : Tier) {f : Fld} (h64 : f.lo + f.w ≤ 64) (hl : ledger f.addr = false)
    (hf : f.addr ≠ 0x1100 ∨ 11 ≤ f.lo ∧ f.lo + f.w ≤ 32) : (s.acted ti).fld f = s.fld f := by
  refine (acted_frame s ti).1 f h64 hl (fun g hg => ?_)
  have hg' : g.addr = 0x1100 ∧ (g.lo + g.w ≤ 11 ∨ g.lo = 32) := by
    rcases List.mem_cons.1 hg with rfl | hg
    · cases ti <;> decide
    · rw [List.mem_singleton.1 hg]
      decide
  unfold Fld.apart
  omega

theorem acted_tierChildren (s : State) (ti : Tier) : (s.acted ti).tierChildren ti = s.tierChildren ti := by
  have hnode : (s.acted ti).myNode = s.myNode := by
    simp only [myNode, group, node, acted_fld s ti (f := F.MGT_ROLE_GROUP) (by decide) (by decide) (by decide),
      acted_fld s ti (f := F.MGT_ROLE_NODE) (by decide) (by decide) (by decide)]
  simp only [tierChildren, (acted_frame s ti).image, hnode]

theorem acted_epoch (s : State) (ti : Tier) : (s.acted ti).epoch = s.epoch := acted_fld s ti (by decide) (by decide) (by decide)

theorem acted_silent (s : State) (ti : Tier) : (s.acted ti).silent = s.silent := by
  have himg : (s.acted ti).img = s.img := by rw [(acted_frame s ti).2]
  simp only [silent, himg, acted_fld s ti (f := F.MGT_BOOT_STAGE) (by decide) (by decide) (by decide)]

/-- Adoption changes the tree of the tier, and nothing else. -/
theorem adopted_rest (s : State) (ti : Tier) : (s.adopted ti).regs = (s.acted ti).regs ∧ (s.adopted ti).img = (s.acted ti).img ∧
    (s.adopted ti).aln = (s.acted ti).aln ∧ (s.adopted ti).role ti = (s.acted ti).role ti := by
  cases ti <;> exact ⟨rfl, rfl, rfl, rfl⟩

theorem reopened_reg (s : State) (ti : Tier) {a : Nat} (h : a ≠ F.ALN_STATUS_OPEN_EPOCHS.addr) : (s.reopened ti).reg a = (s.acted ti).reg a := by
  rw [reopened, openRange, reg_setEpochs _ _ h, reg, (adopted_rest s ti).1]
  rfl

theorem reopened_epoch (s : State) (ti : Tier) : (s.reopened ti).epoch = s.epoch := by
  rw [← acted_epoch s ti]
  simp only [epoch, fld, reopened_reg s ti (a := F.TIM_EPOCH_EPOCH.addr) (by decide)]

theorem adopted_epoch (s : State) (ti : Tier) : (s.adopted ti).epoch = s.epoch := by
  rw [← acted_epoch s ti]
  simp only [epoch, fld, reg, (adopted_rest s ti).1]

theorem reopened_silent (s : State) (ti : Tier) : (s.reopened ti).silent = s.silent := by
  rw [← acted_silent s ti]
  have himg : (s.reopened ti).img = (s.acted ti).img := (adopted_rest s ti).2.1
  simp only [silent, himg, fld, reopened_reg s ti (a := F.MGT_BOOT_STAGE.addr) (by decide)]

theorem reopened_presence (s : State) (ti : Tier) : (s.reopened ti).role ti = s.role ti := by
  have h : (s.reopened ti).role ti = (s.adopted ti).role ti := by cases ti <;> rfl
  rw [h, (adopted_rest s ti).2.2.2, (acted_frame s ti).role]

/-- The epochs opened are those not yet open, after those that were. -/
theorem openRange_epochs (s : State) (level lo hi : Nat) : (s.openRange level lo hi).aln.epochs = s.aln.epochs ++
    ((((List.range (hi + 1 - lo)).map (lo + ·)).filter (fun e => !((s.aln.epochs.filter (fun x => x.level == level)).any (fun x => x.epoch == e)))).map
      (fun e => { level := level, epoch := e, expected := (s.expectedSenders level).length })) := rfl

theorem openRange_opens (s : State) (level lo hi e : Nat) (hlo : lo ≤ e) (hhi : e ≤ hi) :
    ∃ x ∈ (s.openRange level lo hi).aln.epochs, x.level = level ∧ x.epoch = e := by
  rw [openRange_epochs]
  by_cases hopen : ∃ x ∈ s.aln.epochs, x.level = level ∧ x.epoch = e
  · obtain ⟨x, hx, hxe⟩ := hopen
    exact ⟨x, List.mem_append_left _ hx, hxe⟩
  · have hrange : e ∈ (List.range (hi + 1 - lo)).map (lo + ·) := List.mem_map.2 ⟨e - lo, List.mem_range.2 (by omega), by omega⟩
    have hnew : (!((s.aln.epochs.filter (fun x => x.level == level)).any (fun x => x.epoch == e))) = true := by
      simpa using fun x hx hl he => hopen ⟨x, hx, hl, he⟩
    exact ⟨_, List.mem_append_right _ (List.mem_map_of_mem (List.mem_filter.2 ⟨hrange, hnew⟩)), rfl, rfl⟩

theorem reopened_epochs (s : State) (ti : Tier) :
    (∀ e, (s.role ti).presence - 8 ≤ e → e ≤ s.epoch → ∃ x ∈ (s.reopened ti).aln.epochs, x.level = tierLevel ti ∧ x.epoch = e) ∧
    (∀ x ∈ s.aln.epochs, x ∈ (s.reopened ti).aln.epochs) := by
  refine ⟨fun e hlo hhi => openRange_opens _ _ _ _ e hlo (by rw [adopted_epoch]; exact hhi), fun x hx => ?_⟩
  rw [reopened, openRange_epochs, (adopted_rest s ti).2.2.1, (acted_frame s ti).aln]
  exact List.mem_append_left _ hx

/-- The tree above which the tier's master stands. -/
def upperTree (s : State) (ti : Tier) : TreeSt := match ti with | .group => s.mgt.groupTree | .system => s.mgt.systemTree

theorem reopened_children (s : State) (ti : Tier) : ((s.reopened ti).upperTree ti).children = s.tierChildren ti := by
  rw [← acted_tierChildren]
  cases ti <;> rfl

theorem tierChildren_takeoverDst (s : State) (ti : Tier) {a : Nat} (h : a ∈ s.tierChildren ti) : a ∈ s.takeoverDst ti := by
  unfold takeoverDst
  split
  · exact h
  · exact List.mem_append_left _ h

/-- A grandmaster's servo changes with a message, and nothing else but TIM does. -/
theorem freeLock_frame (s : State) : ({ s with tim := s.freeLock.tim } : State).onlyMessages s.freeLock ∧ s.freeLock.out = s.out := by
  have hservo : ∀ v o, (({ s with tim := (s.setServo v o).tim } : State).onlyMessages (s.setServo v o)) ∧ (s.setServo v o).out = s.out := fun v o => by
    unfold setServo
    dsimp only
    split
    · exact ⟨.refl _, rfl⟩
    · have h := om_trace ({ s with tim := { s.tim with servo := v } } : State) 1 0x0C
        (le 1 s.tim.servo.st ++ le 1 v.st ++ zeros 2 ++ le 4 (toField 32 (clampSigned 32 (quarters o))))
      refine ⟨?_, out_trace _ _ _ _⟩
      have htim := congrArg State.tim h.2
      rw [htim]
      exact h
  unfold freeLock
  split
  · exact hservo _ _
  · exact ⟨.refl s, rfl⟩

/-- What follows the opening of the epochs changes TIM and what messages leave. -/
theorem tookOver_frame (s : State) (ti : Tier) :
    ({ s.reopened ti with tim := (s.tookOver ti).tim } : State).onlyMessages (s.tookOver ti) ∧ (s.announced ti).outStays (s.tookOver ti) := by
  have hsend : (s.reopened ti).onlyMessages (s.announced ti) := om_sendBroadcast _ _ _
  unfold tookOver
  split
  · obtain ⟨hmsg, hout⟩ := freeLock_frame (s.announced ti)
    refine ⟨.trans ?_ hmsg, outStays_of_eq hout⟩
    obtain ⟨hreg, hrest⟩ := hsend
    refine ⟨hreg, ?_⟩
    rw [hrest]
  · refine ⟨?_, .refl _⟩
    have htim := congrArg State.tim hsend.2
    rw [htim]
    exact hsend

end State
end Sys2Proof.Machine

namespace Sys2Proof.Machine
namespace State

/-- The command's effect: the takeover, and the level's history started anew when it happens (R207). -/
def takeoverRun (s : State) (ti : Tier) : State :=
  if (s.takeover ti).flag (actingF ti) && !s.flag (actingF ti) then (s.takeover ti).historyTakeover (tierLevel ti) else s.takeover ti

theorem exec_takeover (s : State) (ti : Tier) : exec (.takeover ti) s = .next { s.start.takeoverRun ti with pending := s.pending } := rfl

/-- History started anew is FEA's own. -/
theorem takeoverRun_rest (s : State) (ti : Tier) : s.takeoverRun ti = { s.takeover ti with fea := (s.takeoverRun ti).fea } := by
  unfold takeoverRun
  split <;> rfl

theorem tookOver_reg (s : State) (ti : Tier) {a : Nat} (h : a ≠ F.ALN_STATUS_OPEN_EPOCHS.addr) (hl : ledger a = false) :
    (s.tookOver ti).reg a = (s.acted ti).reg a := ((tookOver_frame s ti).1.1 a hl).trans (reopened_reg s ti h)

theorem tookOver_acting (s : State) (ti : Tier) : (s.tookOver ti).flag (actingF ti) = true := by
  have hbit := roleBit_fits ti (actingF ti) (by simp)
  rw [← roleStep_flag s hbit]
  simp only [flag, fld, hbit.1, tookOver_reg s ti (a := 0x1100) (by decide) (by decide)]
  rfl

theorem tookOver_roleEpoch (s : State) (ti : Tier) : (s.tookOver ti).fld F.MGT_ROLE_ROLE_EPOCH = s.epoch % 2 ^ 32 := by
  have hset : (s.setFld (actingF ti) 1).epoch = s.epoch := fld_setFld_reg _ _ _ _ (by cases ti <;> decide)
  rw [← hset, ← roleStep_epoch]
  simp only [fld, tookOver_reg s ti (a := 0x1100) (by decide) (by decide)]
  rfl

/-- An acting block is master. -/
theorem masterOf_of_acting {s : State} {ti : Tier} (h : s.flag (actingF ti) = true) : s.masterOf ti = true := by
  cases ti <;> exact Bool.or_eq_true_iff.2 (.inr h)

theorem tookOver_epochs (s : State) (ti : Tier) : (s.tookOver ti).aln = (s.reopened ti).aln := by rw [(tookOver_frame s ti).1.2]

theorem tookOver_children (s : State) (ti : Tier) : ((s.tookOver ti).upperTree ti).children = s.tierChildren ti := by
  rw [← reopened_children, (tookOver_frame s ti).1.2]
  cases ti <;> rfl

/-- The takeover Broadcast goes to every child. -/
theorem tookOver_broadcast (s : State) (ti : Tier) (hsil : s.silent = false) (hkids : s.tierChildren ti ≠ []) :
    ∃ dst r, .directed dst r ∈ (s.tookOver ti).out ∧ (∀ a ∈ s.tierChildren ti, a ∈ dst) ∧ r.type = 0x24 ∧
      r.body = pad8 (broadcastBody 1 0 0 s.epoch 0 0 1 (le 6 ((s.role ti).presence - 8))) := by
  have hdst : s.takeoverDst ti ≠ [] := fun he => by
    obtain ⟨a, ha⟩ := List.exists_mem_of_ne_nil _ hkids
    simpa [he] using tierChildren_takeoverDst s ti ha
  obtain ⟨r, hout, htype, hbody⟩ := out_sendBroadcast (s.reopened ti) (s.takeoverDst ti)
    ((s.reopened ti).takeoverBody ti (s.reopened ti).epoch) hdst ((reopened_silent s ti).trans hsil)
  refine ⟨s.takeoverDst ti, r, (tookOver_frame s ti).2 _ ?_, fun a ha => tierChildren_takeoverDst s ti ha, htype, ?_⟩
  · rw [announced, hout]
    exact List.mem_append_right _ (List.mem_singleton.2 rfl)
  · rw [hbody, takeoverBody, reopened_presence, reopened_epoch]

theorem completes_takeover (s : State) (ti : Tier) (hdep : s.flag (deputyF ti) = true) (hact : s.flag (actingF ti) = false)
    (harm : s.isArmed = true) (hlag : s.lagPlus ti < s.epoch - (s.role ti).presence) : Completes (.takeover ti) s (fun t =>
      t.flag (actingF ti) = true ∧ t.fld F.MGT_ROLE_ROLE_EPOCH = s.epoch % 2 ^ 32 ∧ t.masterOf ti = true ∧
      (match ti with | .group => t.mgt.groupTree | .system => t.mgt.systemTree).children = s.tierChildren ti ∧
      (∀ e, (s.role ti).presence - 8 ≤ e → e ≤ s.epoch → ∃ x ∈ t.aln.epochs, x.level = tierLevel ti ∧ x.epoch = e) ∧
      (∀ x ∈ s.aln.epochs, x ∈ t.aln.epochs) ∧
      (s.silent = false → s.tierChildren ti ≠ [] → ∃ dst r, .directed dst r ∈ t.out ∧ (∀ a ∈ s.tierChildren ti, a ∈ dst) ∧ r.type = 0x24 ∧
        r.body = pad8 (broadcastBody 1 0 0 s.epoch 0 0 1 (le 6 ((s.role ti).presence - 8))))) := by
  have hrole : s.start.role ti = s.role ti := by cases ti <;> rfl
  have hlagPlus : s.start.lagPlus ti = s.lagPlus ti := by cases ti <;> rfl
  have hkids : s.start.tierChildren ti = s.tierChildren ti := by cases ti <;> rfl
  have heq : s.start.takeover ti = s.start.tookOver ti :=
    takeover_eq s.start ti hdep hact harm (by rw [hrole, hlagPlus]; exact hlag)
  have hacting := tookOver_acting s.start ti
  obtain ⟨hopen, hkept⟩ := reopened_epochs s.start ti
  rw [← tookOver_epochs, hrole] at hopen
  rw [← tookOver_epochs] at hkept
  refine ⟨_, exec_takeover s ti, ?_⟩
  rw [takeoverRun_rest, heq]
  refine ⟨hacting, tookOver_roleEpoch s.start ti, masterOf_of_acting hacting, ?_, hopen, hkept, fun hsil hne => ?_⟩
  · rw [← hkids, ← tookOver_children]
    cases ti <;> rfl
  · rw [← hkids] at hne ⊢
    rw [← hrole]
    exact tookOver_broadcast s.start ti hsil hne

theorem exec_takeover_ignored (s : State) (ti : Tier) (h : s.flag (deputyF ti) = false ∨ s.flag (actingF ti) = true ∨ s.isArmed = false ∨
    s.epoch - (s.role ti).presence ≤ s.lagPlus ti) : exec (.takeover ti) s = .next { s with out := [] } := by
  have hrole : s.start.role ti = s.role ti := by cases ti <;> rfl
  have hlagPlus : s.start.lagPlus ti = s.lagPlus ti := by cases ti <;> rfl
  have heq : s.start.takeover ti = s.start := takeover_ignored s.start ti (by rw [hrole, hlagPlus]; exact h)
  have hrun : s.start.takeoverRun ti = s.start := by
    rw [takeoverRun, heq, if_neg (by simp)]
  rw [exec_takeover, hrun]
  rfl

/-! ### PARENT_SWITCH (R25, R26, R194, R451) -/

/-- The level whose Summaries a role sends. -/
def roleLevel (ti : Tier) : Nat := tierLevel ti - 1

/-- The level's Coarsen request is cleared. -/
def cleared (s : State) (level : Nat) : State :=
  (s.modOutlet level (fun o => { o with req := none })).setFld (F.ALN_LEVEL_STATE_REQ_RES.at level) 0

/-- The acknowledgements of open broadcasts sent to the new parent. -/
def resendAcks (s : State) (p : Nat) : State :=
  if s.treeParent = some p then
    [2, 3, 4, 5].foldl (fun s k => if (s.bcast k).known && !(s.bcast k).finalised then s.resendAck k [p] else s) s
  else s

theorem switchParent_none (s : State) (ti : Tier) (h : (s.lowerTree ti).switchTo = none) : s.switchParent ti = s := by
  simp only [switchParent, h]

/-- The role has its new parent, and the request of the old one is cleared. -/
def parentTaken (s : State) (ti : Tier) (p : Nat) : State :=
  (s.modLower ti (fun x => { x with parent := some p, switchTo := none })).cleared (roleLevel ti)

theorem switchParent_some (s : State) (ti : Tier) (p : Nat) (h : (s.lowerTree ti).switchTo = some p) :
    s.switchParent ti = ((s.parentTaken ti p).resendRing (roleLevel ti) (s.lowerTree ti).resendFrom p).resendAcks p := by
  simp only [switchParent, h]
  rfl

theorem om_resendRing (s : State) (level e dst : Nat) : s.onlyMessages (s.resendRing level e dst) := by
  unfold resendRing
  split
  · exact .refl s
  · exact om_foldl _ _ (fun u r _ => (om_emit u _).trans (om_toExp _ _ _)) s

theorem om_resendAck (s : State) (k : Nat) (dst : List Nat) : s.onlyMessages (s.resendAck k dst) := by
  unfold resendAck
  split
  · exact om_sendAck _ _ _ _ _ _ _ _
  · exact .refl s

theorem om_resendAcks (s : State) (p : Nat) : s.onlyMessages (s.resendAcks p) := by
  unfold resendAcks
  split
  · refine om_foldl _ _ (fun u k _ => ?_) s
    split
    · exact om_resendAck _ _ _
    · exact .refl u
  · exact .refl s

theorem outStays_resendAcks (s : State) (p : Nat) : s.outStays (s.resendAcks p) := by
  unfold resendAcks
  split
  · refine outStays_foldl _ _ (fun u k => ?_) s
    split
    · unfold resendAck
      split
      · exact outStays_sendAck _ _ _ _ _ _ _ _
      · exact .refl u
    · exact .refl u
  · exact .refl s

/-- A ring sent again: each of its records to the new parent. -/
theorem out_foldl_directed (dst : Nat) (l : List Rec) (s : State) :
    (l.foldl (fun s r => (s.emit (.directed [dst] r)).toExp 4 r) s).out = s.out ++ l.map (fun r => .directed [dst] r) := by
  induction l generalizing s with
  | nil => simp
  | cons r l ih =>
    rw [List.foldl_cons, ih, (expOnly_toExp _ _ _).out, out_emit]
    simp

theorem outStays_resendRing (s : State) (level e dst : Nat) : s.outStays (s.resendRing level e dst) := by
  unfold resendRing
  split
  · exact .refl s
  · intro x hx
    rw [out_foldl_directed]
    exact List.mem_append_left _ hx

/-- Every Summary of the ring from the epoch on is sent. -/
theorem resendRing_sends (s : State) (level e dst : Nat) (hsil : s.silent = false) {r : Rec} (hr : r ∈ s.aln.rings.get nil level)
    (he : e < r.epoch + 2 ^ summaryRes r) : .directed [dst] r ∈ (s.resendRing level e dst).out := by
  unfold resendRing
  rw [if_neg (by simp [hsil]), out_foldl_directed]
  exact List.mem_append_right _ (List.mem_map_of_mem (List.mem_filter.2 ⟨hr, decide_eq_true he⟩))

/-- The fields that a switch of parents clears. -/
def reqFields : List Fld := [F.ALN_LEVEL_STATE_REQ_RES.at 0, F.ALN_LEVEL_STATE_REQ_RES.at 1]

/-- Between `s` and `t` lie the trees below the masters, the outlets and their requests' registers, and messages. -/
def switchOnly (s t : State) : Prop :=
  ({ s with mgt := { s.mgt with nodeTree := t.mgt.nodeTree, groupTree := t.mgt.groupTree }, aln := { s.aln with outlets := t.aln.outlets } } :
    State).onlyMessagesAnd reqFields t

theorem switchOnly.refl (s : State) : s.switchOnly s := onlyMessagesAnd.refl s _

theorem switchOnly.trans {s t u : State} (h : s.switchOnly t) (k : t.switchOnly u) : s.switchOnly u := by
  obtain ⟨hfld, hrest⟩ := h
  obtain ⟨kfld, krest⟩ := k
  refine ⟨fun g h64 hl hg => (kfld g h64 hl hg).trans (hfld g h64 hl hg), ?_⟩
  rw [krest, hrest]

theorem switchOnly.then {s t u : State} (h : s.switchOnly t) (k : t.onlyMessages u) : s.switchOnly u := by
  refine h.trans (k.toAnd reqFields |> fun ⟨kfld, krest⟩ => ⟨kfld, ?_⟩)
  rw [krest]

theorem switchOnly.silent {s t : State} (h : s.switchOnly t) : t.silent = s.silent := by
  have himg : t.img = s.img := by rw [h.2]
  have hstage : t.fld F.MGT_BOOT_STAGE = s.fld F.MGT_BOOT_STAGE := h.1 _ (by decide) (by decide) (by simp [reqFields, Fld.apart, Fld.at])
  simp only [State.silent, himg, hstage]

theorem switchOnly.rings {s t : State} (h : s.switchOnly t) : t.aln.rings = s.aln.rings := by rw [h.2]

theorem roleLevel_reqFields (ti : Tier) : F.ALN_LEVEL_STATE_REQ_RES.at (roleLevel ti) ∈ reqFields := by cases ti <;> decide

theorem switchOnly_parentTaken (s : State) (ti : Tier) (p : Nat) : s.switchOnly (s.parentTaken ti p) := by
  have h := (onlyMessagesAnd.refl ((s.modLower ti (fun x => { x with parent := some p, switchTo := none })).modOutlet (roleLevel ti)
    (fun o => { o with req := none })) reqFields).setFld 0 (roleLevel_reqFields ti)
  cases ti <;> exact h

/-- What a switch to parent `p` leaves of role `ti`. -/
def switched (s : State) (ti : Tier) (p : Nat) (t : State) : Prop :=
  t.lowerTree ti = { s.lowerTree ti with parent := some p, switchTo := none } ∧ (t.outlet (roleLevel ti)).req = none ∧
  t.fld (F.ALN_LEVEL_STATE_REQ_RES.at (roleLevel ti)) = 0 ∧
  (s.silent = false → ∀ r ∈ s.aln.rings.get nil (roleLevel ti), (s.lowerTree ti).resendFrom < r.epoch + 2 ^ summaryRes r → .directed [p] r ∈ t.out)

theorem parentTaken_shown (s : State) (ti : Tier) (p : Nat) :
    (s.parentTaken ti p).lowerTree ti = { s.lowerTree ti with parent := some p, switchTo := none } ∧
    ((s.parentTaken ti p).outlet (roleLevel ti)).req = none ∧ (s.parentTaken ti p).fld (F.ALN_LEVEL_STATE_REQ_RES.at (roleLevel ti)) = 0 := by
  refine ⟨by cases ti <;> rfl, ?_, ?_⟩
  · exact congrArg Outlet.req (Tab.get_put_same _ _ _)
  · exact (fld_setFld_same _ _ _ (by cases ti <;> decide)).trans (Nat.zero_mod _)

theorem onlyMessages.lowerTree {s t : State} (h : s.onlyMessages t) (ti : Tier) : t.lowerTree ti = s.lowerTree ti := by
  rw [h.2]
  cases ti <;> rfl

theorem onlyMessages.outlet {s t : State} (h : s.onlyMessages t) (level : Nat) : t.outlet level = s.outlet level := by simp only [State.outlet, h.aln]

theorem switched_switchParent (s : State) (ti : Tier) (p : Nat) (h : (s.lowerTree ti).switchTo = some p) : s.switched ti p (s.switchParent ti) := by
  have hmsg := (om_resendRing (s.parentTaken ti p) (roleLevel ti) (s.lowerTree ti).resendFrom p).trans (om_resendAcks _ p)
  obtain ⟨htree, hreq, hres⟩ := parentTaken_shown s ti p
  have honly := switchOnly_parentTaken s ti p
  rw [switchParent_some s ti p h]
  refine ⟨(hmsg.lowerTree ti).trans htree, ?_, ?_, fun hsil r hr he => ?_⟩
  · rw [hmsg.outlet, hreq]
  · exact (hmsg.fld (by cases ti <;> decide)).trans hres
  · refine outStays_resendAcks _ _ _ (resendRing_sends _ _ _ _ (honly.silent.trans hsil) ?_ he)
    rw [honly.rings]
    exact hr

theorem switchOnly_switchParent (s : State) (ti : Tier) : s.switchOnly (s.switchParent ti) := by
  cases h : (s.lowerTree ti).switchTo with
  | none => rw [switchParent_none s ti h]; exact .refl s
  | some p =>
    rw [switchParent_some s ti p h]
    exact ((switchOnly_parentTaken s ti p).then (om_resendRing _ _ _ _)).then (om_resendAcks _ _)

theorem outStays_switchParent (s : State) (ti : Tier) : s.outStays (s.switchParent ti) := by
  cases h : (s.lowerTree ti).switchTo with
  | none => rw [switchParent_none s ti h]; exact .refl s
  | some p =>
    rw [switchParent_some s ti p h]
    have htaken : s.outStays (s.parentTaken ti p) := by cases ti <;> exact .refl s
    exact (htaken.trans (outStays_resendRing _ _ _ _)).trans (outStays_resendAcks _ _)

/-- The other role's part of a switch: its tree, its outlet and its register are left as they were. -/
def leaves (s : State) (ti : Tier) (t : State) : Prop :=
  t.lowerTree ti = s.lowerTree ti ∧ t.outlet (roleLevel ti) = s.outlet (roleLevel ti) ∧
  t.fld (F.ALN_LEVEL_STATE_REQ_RES.at (roleLevel ti)) = s.fld (F.ALN_LEVEL_STATE_REQ_RES.at (roleLevel ti))

theorem leaves_parentTaken (s : State) {ti tj : Tier} (h : tj ≠ ti) (p : Nat) : s.leaves tj (s.parentTaken ti p) := by
  have hlevel : roleLevel tj ≠ roleLevel ti := by revert h; cases ti <;> cases tj <;> decide
  have haddr : (F.ALN_LEVEL_STATE_REQ_RES.at (roleLevel tj)).addr ≠ (F.ALN_LEVEL_STATE_REQ_RES.at (roleLevel ti)).addr := by
    revert h; cases ti <;> cases tj <;> decide
  refine ⟨?_, ?_, (fld_setFld_reg _ _ _ _ haddr).trans (by cases ti <;> rfl)⟩
  · cases tj with
    | group => cases ti with
      | group => exact absurd rfl h
      | system => rfl
    | system => cases ti with
      | group => rfl
      | system => exact absurd rfl h
  · exact (Tab.get_put_other _ _ hlevel).trans (by cases ti <;> rfl)

theorem leaves_switchParent (s : State) {ti tj : Tier} (h : tj ≠ ti) : s.leaves tj (s.switchParent ti) := by
  cases hs : (s.lowerTree ti).switchTo with
  | none => rw [switchParent_none s ti hs]; exact ⟨rfl, rfl, rfl⟩
  | some p =>
    rw [switchParent_some s ti p hs]
    have hmsg := (om_resendRing (s.parentTaken ti p) (roleLevel ti) (s.lowerTree ti).resendFrom p).trans (om_resendAcks _ p)
    obtain ⟨htree, hout, hres⟩ := leaves_parentTaken s h p
    exact ⟨(hmsg.lowerTree tj).trans htree, (hmsg.outlet _).trans hout, (hmsg.fld (by cases tj <;> decide)).trans hres⟩

/-- What one role's switch has left stays through the other's. -/
theorem switched.leaves {s t u : State} {ti : Tier} {p : Nat} (h : s.switched ti p t) (k : t.leaves ti u) (hout : t.outStays u) :
    s.switched ti p u := by
  obtain ⟨htree, hreq, hres, hsent⟩ := h
  obtain ⟨ktree, kout, kres⟩ := k
  exact ⟨ktree.trans htree, by rw [kout, hreq], kres.trans hres, fun hsil r hr he => hout _ (hsent hsil r hr he)⟩

/-- A switch after another role's is one from the state before both. -/
theorem switched.after {s t u : State} {ti : Tier} {p : Nat} (honly : s.switchOnly t) (hleft : s.leaves ti t) (h : t.switched ti p u) :
    s.switched ti p u := by
  obtain ⟨htree, hreq, hres, hsent⟩ := h
  obtain ⟨kt, -, -⟩ := hleft
  rw [kt] at htree hsent
  rw [honly.silent, honly.rings] at hsent
  exact ⟨htree, hreq, hres, hsent⟩

/-- Each role due to switch has switched after PARENT_SWITCH. -/
theorem switched_parentSwitch (s : State) (ti : Tier) (p : Nat) (h : (s.lowerTree ti).switchTo = some p) : s.switched ti p s.parentSwitch := by
  cases ti with
  | group => exact (switched_switchParent s .group p h).leaves (leaves_switchParent _ (by decide)) (outStays_switchParent _ _)
  | system =>
    have hleft := leaves_switchParent s (ti := .group) (tj := .system) (by decide)
    exact switched.after (switchOnly_switchParent s .group) hleft (switched_switchParent _ .system p (hleft.1.symm ▸ h))

/-- A role not due has the tree it had. -/
theorem parentSwitch_kept (s : State) (ti : Tier) (h : (s.lowerTree ti).switchTo = none) : s.parentSwitch.lowerTree ti = s.lowerTree ti := by
  cases ti with
  | group => rw [parentSwitch, (leaves_switchParent _ (ti := .system) (tj := .group) (by decide)).1, switchParent_none s .group h]
  | system =>
    have hleft := (leaves_switchParent s (ti := .group) (tj := .system) (by decide)).1
    rw [parentSwitch, switchParent_none _ .system (by rw [hleft, h]), hleft]

theorem exec_parentSwitch (s : State) : exec .parentSwitch s = .next { s.start.parentSwitch with pending := s.pending } := rfl

theorem completes_parentSwitch (s : State) : Completes .parentSwitch s (fun t =>
    (∀ (ti : Tier) (p : Nat), (s.lowerTree ti).switchTo = some p →
      t.lowerTree ti = { s.lowerTree ti with parent := some p, switchTo := none } ∧ (t.outlet (tierLevel ti - 1)).req = none ∧
      t.fld (F.ALN_LEVEL_STATE_REQ_RES.at (tierLevel ti - 1)) = 0 ∧
      (s.silent = false → ∀ r ∈ s.aln.rings.get nil (tierLevel ti - 1), (s.lowerTree ti).resendFrom < r.epoch + 2 ^ summaryRes r →
        .directed [p] r ∈ t.out)) ∧
    (∀ ti : Tier, (s.lowerTree ti).switchTo = none → t.lowerTree ti = s.lowerTree ti) ∧
    ({ s with mgt := { s.mgt with nodeTree := t.mgt.nodeTree, groupTree := t.mgt.groupTree }, aln := { s.aln with outlets := t.aln.outlets } } :
      State).onlyMessagesAnd [F.ALN_LEVEL_STATE_REQ_RES.at 0, F.ALN_LEVEL_STATE_REQ_RES.at 1] t) := by
  have hlow : ∀ ti, s.start.lowerTree ti = s.lowerTree ti := fun ti => by cases ti <;> rfl
  refine ⟨_, exec_parentSwitch s, fun ti p h => ?_, fun ti h => ?_, ?_⟩
  · obtain ⟨htree, hreq, hres, hsent⟩ := switched_parentSwitch s.start ti p (by rw [hlow]; exact h)
    rw [hlow] at htree hsent
    exact ⟨by rw [lowerTree_withPending, htree], hreq, hres, hsent⟩
  · rw [lowerTree_withPending, parentSwitch_kept s.start ti (by rw [hlow]; exact h), hlow]
  · obtain ⟨hfld, hrest⟩ := (switchOnly_switchParent s.start .group).trans (switchOnly_switchParent _ .system)
    refine ⟨hfld, ?_⟩
    rw [parentSwitch, hrest]
    rfl

theorem exec_parentSwitch_ignored (s : State) (hn : s.mgt.nodeTree.switchTo = none) (hg : s.mgt.groupTree.switchTo = none) :
    exec .parentSwitch s = .next { s with out := [] } := by
  have he : s.start.parentSwitch = s.start := by
    rw [parentSwitch, switchParent_none s.start .group hn, switchParent_none s.start .system hg]
  rw [exec_parentSwitch, he]
  rfl

end State

/-- Settles O32: a takeover's parts by the states it passes through (`acted` to `tookOver`), a switch of parents role by role (`switched`, `leaves`). -/
theorem takeoverAndParentSwitch : Obligations.TakeoverAndParentSwitch :=
  ⟨State.completes_takeover, State.exec_takeover_ignored, State.completes_parentSwitch, State.exec_parentSwitch_ignored⟩

end Sys2Proof.Machine

namespace Sys2Proof.Machine
namespace State

/-! ### What a tick's work leaves as it was -/

/-- The registers of MGT and TIM that a tick is known by: the roles, the image's state, generation and epoch, the stage, the open epoch. -/
def tickReg (a : Nat) : Bool := a == 0x1100 || a == 0x1520 || a == 0x1528 || a == 0x1530 || a == 0x1600 || a == 0x81028

/-- The data that a tick is known by: time, the images, the epochs of alignment, the cores that rejoin, the job and its
broadcast, and of MGT the block's readiness, the verified image and what the roles have heard. -/
def tickData (s : State) : State :=
  { tim := s.tim, img := s.img, prevImg := s.prevImg, aln := { epochs := s.aln.epochs }
    tdsp := { rejoin := s.tdsp.rejoin }, stw := { job := s.stw.job, staged := s.stw.staged, bcasts := s.stw.bcasts }
    mgt := { ready := s.mgt.ready, verified := s.mgt.verified, group := { presence := s.mgt.group.presence }
             system := { presence := s.mgt.system.presence } } }

/-- Those registers and data are in `t` as in `s`. -/
def keepsTick (s t : State) : Prop := (∀ a, tickReg a = true → t.reg a = s.reg a) ∧ t.tickData = s.tickData

theorem keepsTick.refl (s : State) : s.keepsTick s := ⟨fun _ _ => rfl, rfl⟩

theorem keepsTick.trans {s t u : State} (h : s.keepsTick t) (k : t.keepsTick u) : s.keepsTick u :=
  ⟨fun a ha => (k.1 a ha).trans (h.1 a ha), k.2.trans h.2⟩

theorem keepsTick.fld {s t : State} (h : s.keepsTick t) {f : Fld} (hf : tickReg f.addr = true) : t.fld f = s.fld f := by
  simp only [State.fld, h.1 _ hf]

theorem keepsTick.epoch {s t : State} (h : s.keepsTick t) : t.epoch = s.epoch := h.fld (by decide)

theorem keepsTick.img {s t : State} (h : s.keepsTick t) : t.img = s.img := (congrArg State.img h.2 :)

theorem keepsTick.image {s t : State} (h : s.keepsTick t) : t.image = s.image := by simp only [State.image, h.img]

theorem keepsTick.tim {s t : State} (h : s.keepsTick t) : t.tim = s.tim := (congrArg State.tim h.2 :)

theorem keepsTick.epochs {s t : State} (h : s.keepsTick t) : t.aln.epochs = s.aln.epochs := (congrArg (fun u : State => u.aln.epochs) h.2 :)

theorem keepsTick.rejoin {s t : State} (h : s.keepsTick t) : t.tdsp.rejoin = s.tdsp.rejoin := (congrArg (fun u : State => u.tdsp.rejoin) h.2 :)

theorem keepsTick.job {s t : State} (h : s.keepsTick t) :
    t.stw.job = s.stw.job ∧ t.stw.staged = s.stw.staged ∧ t.stw.bcasts = s.stw.bcasts :=
  ⟨(congrArg (fun u : State => u.stw.job) h.2 :), (congrArg (fun u : State => u.stw.staged) h.2 :), (congrArg (fun u : State => u.stw.bcasts) h.2 :)⟩

/-- A register beyond those of MGT and TIM is none of them. -/
theorem tickReg_beyond {a : Nat} (h : 0x100000 ≤ a) : tickReg a = false := by
  simp only [tickReg, Bool.or_eq_false_iff, beq_eq_false_iff_ne]
  omega

theorem ledger_of_tickReg {a : Nat} (h : tickReg a = true) : ledger a = false := by
  simp only [tickReg, Bool.or_eq_true, beq_iff_eq] at h
  rcases h with ((((h | h) | h) | h) | h) | h <;> subst h <;> decide

/-- Messages and counts keep what a tick is known by. -/
theorem onlyMessages.tick {s t : State} (h : s.onlyMessages t) : s.keepsTick t :=
  ⟨fun a ha => h.1 a (ledger_of_tickReg ha), by rw [h.2]; rfl⟩

theorem keepsTick.setReg {s t : State} (h : s.keepsTick t) {a : Nat} (v : Word) (ha : tickReg a = false) : s.keepsTick (t.setReg a v) :=
  ⟨fun b hb => (reg_setReg_other _ _ (by rintro rfl; simp [ha] at hb)).trans (h.1 b hb), h.2⟩

theorem keepsTick.setFld {s t : State} (h : s.keepsTick t) {f : Fld} (v : Nat) (hf : 0x100000 ≤ f.addr) : s.keepsTick (t.setFld f v) :=
  h.setReg _ (tickReg_beyond hf)

theorem keepsTick.foldl {α : Type} {s t : State} (h : s.keepsTick t) (f : State → α → State) (l : List α)
    (hf : ∀ (u : State) (x : α), x ∈ l → u.keepsTick (f u x)) : s.keepsTick (l.foldl f t) :=
  List.foldlRecOn l f (motive := s.keepsTick) h (fun u hu x hx => hu.trans (hf u x hx))

/-- A change of what a tick is not known by. -/
theorem keepsTick.of_data {s t : State} (hregs : t.regs = s.regs) (h : t.tickData = s.tickData) : s.keepsTick t :=
  ⟨fun a _ => by rw [reg, reg, hregs], h⟩

theorem keepsTick.ite {s t u : State} {c : Prop} [Decidable c] (h : s.keepsTick t) (k : s.keepsTick u) : s.keepsTick (if c then t else u) := by
  split
  · exact h
  · exact k

/-- A copy of a window's register lies where the first one does, or further. -/
theorem beyond_at {f : Fld} (n : Nat) (h : 0x100000 ≤ f.addr) : 0x100000 ≤ (f.at n).addr := Nat.le_trans h (Nat.le_add_right _ _)

/-! ### Roles at a tick (R22, R24) -/

theorem presenceTick_keeps (s : State) (ti : Tier) : s.keepsTick (s.presenceTick ti) := by
  unfold presenceTick
  split
  · split
    · have hrole : s.keepsTick (s.modRole ti (fun r => { r with unanswered := r.unanswered + 1 })) := by cases ti <;> exact .refl s
      exact hrole.trans (om_sendBroadcast _ _ _).tick
    · exact .refl s
  · exact .refl s

theorem leadTick_keeps (s : State) : s.keepsTick s.leadTick := by
  unfold leadTick
  exact (keepsTick.refl s).foldl _ _ (fun u _ _ => .of_data rfl rfl)

theorem rolesTick_keeps (s : State) : s.keepsTick s.rolesTick :=
  (((presenceTick_keeps s .group).trans (presenceTick_keeps _ .system)).trans (leadTick_keeps _)).trans (.of_data rfl rfl)

/-! ### Canaries, heads and the engines' work at a tick -/

/-- The canary figures of a layer shown. -/
def showCanary (s : State) (l mean count : Nat) : State :=
  (s.setFld (F.STW_TDSP_CANARY_DATA_MEAN_D.at l) mean).setFld (F.STW_TDSP_CANARY_DATA_COUNT.at l) count

theorem showCanary_keeps (s : State) (l mean count : Nat) : s.keepsTick (s.showCanary l mean count) :=
  ((keepsTick.refl s).setFld _ (beyond_at (f := F.STW_TDSP_CANARY_DATA_MEAN_D) l (by decide))).setFld _
    (beyond_at (f := F.STW_TDSP_CANARY_DATA_COUNT) l (by decide))

theorem canaryTick_keeps (s : State) : s.keepsTick s.canaryTick := by
  have hsum : s.keepsTick { s with tdsp := { s.tdsp with canarySum := [] } } := .of_data rfl rfl
  unfold canaryTick
  refine hsum.foldl _ _ (fun u l _ => ?_)
  have hshow := fun mean count => showCanary_keeps u l mean count
  exact .ite (((hshow _ _).setFld _ (beyond_at (f := F.STW_TDSP_CANARY_DATA_DRIFT) l (by decide))).trans (om_pend _ _ _).tick) (hshow _ _)

theorem headsTick_keeps (s : State) : s.keepsTick s.headsTick := by
  unfold headsTick
  dsimp only
  split
  · exact .refl s
  · exact (om_sendBroadcast _ _ _).tick

theorem storeWrite_keeps (s : State) (a : Nat) (bs : Bytes) (p : Bool) : s.keepsTick (s.storeWrite a bs p) := .of_data rfl rfl

theorem baseWrite_keeps (s : State) (off : Nat) (b : Bytes) : s.keepsTick (s.baseWrite off b) := by
  unfold baseWrite
  split
  · exact storeWrite_keeps _ _ _ _
  · exact .refl s

theorem baselineInstall_keeps (s : State) : s.keepsTick s.baselineInstall := by
  unfold baselineInstall
  split
  · exact .refl s
  · split
    · exact .refl s
    · dsimp only
      refine keepsTick.setFld (keepsTick.setFld (.trans (.trans ?_ (baseWrite_keeps _ _ _)) (baseWrite_keeps _ _ _)) _ (by decide)) _ (by decide)
      exact .of_data rfl rfl

theorem showIdle_keeps (s : State) (b : Nat) : s.keepsTick (s.showIdle b) := by
  have hidle : s.keepsTick { s with cod := { s.cod with idle := b } } := .of_data rfl rfl
  unfold showIdle
  exact (hidle.foldl _ _ (fun u i _ => (keepsTick.refl u).setFld _ (beyond_at (f := F.COD_DICT_DATA_VALUE) i (by decide)))).setFld _ (by decide)

/-- The registers of a bank of the codec's dictionary. -/
theorem bankField_beyond (b : Nat) {f : Fld} (h : 0x100000 ≤ f.addr) : 0x100000 ≤ (bankField b f).addr := Nat.le_trans h (Nat.le_add_right _ _)

/-- A loaded bank shown as the active one. -/
def showBank (s : State) (b tgen serial n : Nat) : State :=
  (((((s.setFld (bankField b F.COD_BANK0_TGEN) tgen).setFld (bankField b F.COD_BANK0_ACTIVE) 1).setFld (bankField b F.COD_BANK0_ENTRIES) n).setFld
    (bankField b F.COD_BANK0_SERIAL) serial).setFld F.COD_DICT_CTRL_ACTIVE_TGEN tgen).setFld F.COD_DICT_CTRL_ACTIVE_SERIAL serial

theorem setBank_keeps (s : State) (b v : Nat) {f : Fld} (h : 0x100000 ≤ f.addr) : s.keepsTick (s.setFld (bankField b f) v) :=
  (keepsTick.refl s).setFld v (bankField_beyond b h)

theorem showBank_keeps (s : State) (b tgen serial n : Nat) : s.keepsTick (s.showBank b tgen serial n) :=
  (((((setBank_keeps s b _ (by decide)).trans (setBank_keeps _ b _ (by decide))).trans (setBank_keeps _ b _ (by decide))).trans
    (setBank_keeps _ b _ (by decide))).setFld _ (by decide)).setFld _ (by decide)

theorem dictSwap_keeps (s : State) : s.keepsTick s.dictSwap := by
  have hstart : ∀ x : Cod, s.keepsTick { s.setFld F.COD_DICT_CTRL_ACTIVATE 0 with cod := x } := fun x =>
    ((keepsTick.refl s).setFld _ (by decide)).trans (.of_data rfl rfl)
  unfold dictSwap
  split
  · exact .refl s
  · dsimp only
    split
    · exact (((hstart _).trans (showBank_keeps _ _ _ _ _)).trans (setBank_keeps _ _ _ (by decide))).trans (setBank_keeps _ _ _ (by decide))
    · exact ((hstart _).trans (showBank_keeps _ _ _ _ _)).trans (showIdle_keeps _ _)

theorem extTick_keeps (s : State) : s.keepsTick s.extTick := .of_data rfl rfl

theorem pmcTick_keeps (s : State) : s.keepsTick s.pmcTick := by
  unfold pmcTick clearPmcs
  refine (keepsTick.refl s).foldl _ _ (fun u n _ => (keepsTick.refl u).foldl _ _ (fun v k hk => ?_))
  split
  · exact (om_setFld v (f := pmcField n k F.PMC_VALUE) 0 (ledger_pmc n k _ (List.mem_range.1 hk) (Or.inl rfl))).tick
  · exact .refl v

theorem powerTick_keeps (s : State) : s.keepsTick s.powerTick := by
  unfold powerTick
  dsimp only
  split
  · exact .of_data rfl rfl
  · exact ((keepsTick.refl s).setReg (a := F.MGT_PWR_STATUS_EPOCH_AVG_W.addr) _ (by decide)).trans (.of_data rfl rfl)

theorem digTick_keeps (s : State) : s.keepsTick s.digTick := by
  unfold digTick
  split
  · unfold digUnmeasured
    split
    · exact .refl s
    · exact .of_data rfl rfl
  · split
    · exact .refl s
    · exact (keepsTick.of_data (t := { s with dig := { s.dig with dark := 0 } }) rfl rfl).trans (om_send _ _ _ _ _ _ _).tick

/-! ### Tests at a tick (R347 to R350) -/

theorem ctrlWrite_keeps (s : State) (die : Nat) (ws : List (Nat × Nat)) (why : CtrlFor) : s.keepsTick (s.ctrlWrite die ws why) :=
  (om_ctrlWrite s die ws why).tick

theorem setTstSlot_keeps (s : State) (die k : Nat) (v : Option TstSlot) : s.keepsTick (s.setTstSlot die k v) := .of_data rfl rfl

theorem writeDesc_keeps (s : State) (die k : Nat) (p : Option Package) : s.keepsTick (s.writeDesc die k p) := by
  unfold writeDesc
  dsimp only
  exact (setTstSlot_keeps s _ _ _).trans (ctrlWrite_keeps _ _ _ _)

theorem noteMarked_keeps (s : State) (die pkg : Nat) (on : Bool) : s.keepsTick (s.noteMarked die pkg on) := .of_data rfl rfl

theorem markDue_keeps (s : State) (die k : Nat) : s.keepsTick (s.markDue die k) := by
  unfold markDue
  split
  · dsimp only
    split
    · exact .refl s
    · exact (noteMarked_keeps s _ _ _).trans (ctrlWrite_keeps _ _ _ _)
  · exact .refl s

theorem tstDie_keeps (s : State) (d : DieCfg) : s.keepsTick (s.tstDie d) := by
  have hdue : s.keepsTick (s.updateDue d) := .of_data rfl rfl
  unfold tstDie
  dsimp only
  refine ((hdue.foldl _ _ (fun u k _ => ?_)).foldl _ _ (fun u p _ => ?_)).foldl _ _ (fun u k _ => markDue_keeps u _ k)
  · split
    · exact (noteMarked_keeps u _ _ _).trans (writeDesc_keeps _ _ _ _)
    · exact writeDesc_keeps _ _ _ _
  · split
    · exact .refl u
    · split
      · exact writeDesc_keeps _ _ _ _
      · exact .refl u

theorem tstTick_keeps (s : State) : s.keepsTick s.tstTick := by
  have hset : ∀ (u : State) (x : Tst) (f : Fld) (v : Nat), 0x100000 ≤ f.addr → u.keepsTick (({ u with tst := x } : State).setFld f v) :=
    fun u x f v hf => (keepsTick.of_data (t := { u with tst := x }) rfl rfl).setFld v hf
  unfold tstTick
  split
  · exact .refl s
  · refine keepsTick.foldl ?_ _ _ (fun u d _ => tstDie_keeps u d)
    exact (hset s _ F.TST_STATUS_PACKAGES _ (by decide)).trans (hset _ _ F.TST_STATUS_OVERDUE _ (by decide))

/-! ### Export and trace at a tick -/

theorem exportLossMarkers_keeps (s : State) : s.keepsTick s.exportLossMarkers := by
  unfold exportLossMarkers
  split
  · exact .refl s
  · refine keepsTick.foldl (.of_data rfl rfl) _ _ (fun u e _ => ?_)
    exact (((om_mkRec u 12 0x0B 10 (u.destCfg e.1).level (2 ^ flagLoss) (lossBody 3 e.2 0)).trans (om_pushQueue _ _ _ _)).trans
      (om_incFld _ (by decide))).tick

theorem sendTrace_keeps (s : State) (mode : Nat) (trig : Bool) (es : List TrcEntry) (enc : TrcEntry → Bytes) (e : Nat) :
    s.keepsTick (s.sendTrace mode trig es enc e).2 := by
  unfold sendTrace
  dsimp only
  split
  · dsimp only
    split
    · exact (keepsTick.refl s).setFld _ (by decide)
    · exact .refl s
  · refine .trans (keepsTick.setFld ?_ _ ?_) (om_toExp _ _ _).tick
    · exact (om_mkRec s 13 0x06 11 s.myNode 0 _).tick
    · split <;> decide

theorem exportCapture_keeps (flush : Bool) (fuel : Nat) (s : State) : s.keepsTick (exportCapture flush fuel s) := by
  induction fuel generalizing s with
  | zero => exact .refl s
  | succ fuel ih =>
    unfold exportCapture
    dsimp only
    split
    · split
      · exact (keepsTick.refl s).setFld _ (by decide)
      · exact .refl s
    · split
      · exact .refl s
      · have hsent := sendTrace_keeps s 2 true (blockBeats s.liveOut 21842 TrcEntry.beat ((s.trc.pre ++ s.trc.reserve).drop s.trc.exported).length []
          ((s.trc.pre ++ s.trc.reserve).drop s.trc.exported)) TrcEntry.beat
        split
        · exact ((hsent _).trans (.of_data rfl rfl)).trans (ih _)
        · exact hsent _

theorem exportSnap_keeps (fuel : Nat) (s : State) : s.keepsTick (exportSnap fuel s) := by
  induction fuel generalizing s with
  | zero => exact .refl s
  | succ fuel ih =>
    unfold exportSnap
    dsimp only
    split
    · exact (keepsTick.refl s).setFld _ (by decide)
    · have hsent := sendTrace_keeps s 3 false (blockBeats s.liveOut 21842 TrcEntry.item (s.trc.snap.drop s.trc.snapExported).length []
        (s.trc.snap.drop s.trc.snapExported)) TrcEntry.item
      split
      · exact ((hsent _).trans (.of_data rfl rfl)).trans (ih _)
      · exact hsent _

theorem exportTrace_keeps (s : State) (flush : Bool) : s.keepsTick (s.exportTrace flush) := by
  have hcapture : ∀ n, s.keepsTick (if s.flag F.TRC_STATUS_EXPORTING then exportCapture flush n s else s) := fun n =>
    .ite (exportCapture_keeps _ _ _) (.refl s)
  unfold exportTrace
  split
  · exact .refl s
  · exact .ite ((hcapture _).trans (exportSnap_keeps _ _)) (hcapture _)

theorem traceLossMarker_keeps (s : State) : s.keepsTick s.traceLossMarker := by
  unfold traceLossMarker
  split
  · exact .refl s
  · exact (keepsTick.of_data (t := { s with trc := { s.trc with loss := {} } }) rfl rfl).trans (om_send _ _ _ _ _ _ _).tick

theorem traceTick_keeps (s : State) : s.keepsTick s.traceTick := by
  have hcount : s.keepsTick ({ s.drainTrace with trc := { s.drainTrace.trc with
      sinceTrigger := s.drainTrace.trc.sinceTrigger + 1, sinceBoost := s.drainTrace.trc.sinceBoost + 1 } } : State) :=
    (om_drainTrace s).tick.trans (.of_data rfl rfl)
  exact (hcount.trans (exportTrace_keeps _ _)).trans (traceLossMarker_keeps _)

theorem mapRetire_keeps (s : State) : s.keepsTick s.mapRetire := by
  unfold mapRetire
  split
  · exact .refl s
  · split
    · exact .refl s
    · exact .of_data rfl rfl

theorem onPtk_keeps (s : State) (d : Nat) (f : Potik → Potik) : s.keepsTick (s.onPtk d f) := by
  unfold onPtk
  dsimp only
  split
  · exact .refl s
  · exact .of_data rfl rfl

theorem tellSched_keeps (s : State) : s.keepsTick s.tellSched := by
  unfold tellSched
  split
  · exact .refl s
  · split
    · exact (keepsTick.refl s).foldl _ _ (fun u d _ => onPtk_keeps u d _)
    · exact .refl s

end State
end Sys2Proof.Machine

namespace Sys2Proof.Machine
namespace State

/-! ### What the opening of an epoch leaves as it was -/

/-- The data that no part of an opening changes: time without the links, the images, readiness, the verified image, what the roles have heard. -/
def openingData (s : State) : State := { s.tickData with tim := { s.tim with links := [] }, aln := {}, tdsp := {}, stw := {} }

/-- The registers that a tick is known by and those data are in `t` as in `s`. -/
def keepsOpening (s t : State) : Prop := (∀ a, tickReg a = true → t.reg a = s.reg a) ∧ t.openingData = s.openingData

theorem keepsOpening.trans {s t u : State} (h : s.keepsOpening t) (k : t.keepsOpening u) : s.keepsOpening u :=
  ⟨fun a ha => (k.1 a ha).trans (h.1 a ha), k.2.trans h.2⟩

theorem keepsTick.opening {s t : State} (h : s.keepsTick t) : s.keepsOpening t :=
  ⟨h.1, congrArg (fun u : State => { u with tim := { u.tim with links := [] }, aln := {}, tdsp := {}, stw := {} }) h.2⟩

theorem keepsOpening.fld {s t : State} (h : s.keepsOpening t) {f : Fld} (hf : tickReg f.addr = true) : t.fld f = s.fld f := by
  simp only [State.fld, h.1 _ hf]

theorem keepsOpening.flag {s t : State} (h : s.keepsOpening t) {f : Fld} (hf : tickReg f.addr = true) : t.flag f = s.flag f := by
  simp only [State.flag, h.fld hf]

theorem keepsOpening.img {s t : State} (h : s.keepsOpening t) : t.img = s.img ∧ t.prevImg = s.prevImg :=
  ⟨(congrArg State.img h.2 :), (congrArg State.prevImg h.2 :)⟩

/-- Fleet time and the schedules. -/
theorem keepsOpening.tim {s t : State} (h : s.keepsOpening t) : t.tim.time = s.tim.time ∧ t.tim.opened = s.tim.opened ∧
    t.tim.open_ = s.tim.open_ ∧ t.tim.stepped = s.tim.stepped ∧ t.tim.sched = s.tim.sched ∧ t.tim.pending = s.tim.pending ∧
    t.tim.before = s.tim.before := by
  have htim : ({ t.tim with links := [] } : Tim) = { s.tim with links := [] } := (congrArg State.tim h.2 :)
  exact ⟨(congrArg Tim.time htim :), (congrArg Tim.opened htim :), (congrArg Tim.open_ htim :), (congrArg Tim.stepped htim :),
    (congrArg Tim.sched htim :), (congrArg Tim.pending htim :), (congrArg Tim.before htim :)⟩

theorem keepsOpening.mgt {s t : State} (h : s.keepsOpening t) : t.mgt.ready = s.mgt.ready ∧ t.mgt.verified = s.mgt.verified ∧
    t.mgt.group.presence = s.mgt.group.presence ∧ t.mgt.system.presence = s.mgt.system.presence :=
  ⟨(congrArg (fun u : State => u.mgt.ready) h.2 :), (congrArg (fun u : State => u.mgt.verified) h.2 :),
    (congrArg (fun u : State => u.mgt.group.presence) h.2 :), (congrArg (fun u : State => u.mgt.system.presence) h.2 :)⟩

/-! ### The epochs opened (R76, R180) -/

theorem openEpochs_epochs (s : State) (e : Nat) : (s.openEpochs e).aln.epochs = s.aln.epochs ++
    ([0, 1, 2].filter s.aggregates).map (fun l => { level := l, epoch := e, expected := (s.expectedSenders l).length }) := rfl

/-- Every level that the block aggregates has the epoch open. -/
theorem openEpochs_opens (s : State) (e : Nat) {l : Nat} (hl : l < 3) (h : s.aggregates l = true) :
    ∃ x ∈ (s.openEpochs e).aln.epochs, x.level = l ∧ x.epoch = e ∧ x.st = 0 := by
  have hmem : l ∈ [0, 1, 2] := by simp only [List.mem_cons, List.not_mem_nil, or_false]; omega
  rw [openEpochs_epochs]
  exact ⟨_, List.mem_append_right _ (List.mem_map_of_mem (List.mem_filter.2 ⟨hmem, h⟩)), rfl, rfl, rfl⟩

/-- The epochs replaced by a longer list: the rest stays. -/
theorem openEpochs_keeps (s : State) (e : Nat) :
    ({ s with aln := { s.aln with epochs := (s.openEpochs e).aln.epochs } } : State).keepsTick (s.openEpochs e) :=
  ((keepsTick.refl _).setFld (f := F.ALN_STATUS_OPEN_EPOCHS) _ (by decide)).setFld (f := F.ALN_STATUS_BACKLOG) _ (by decide)

theorem keepsOpening_openEpochs (s : State) (e : Nat) : s.keepsOpening (s.openEpochs e) := (openEpochs_keeps s e).opening

/-! ### Settings latched at a tick (R90, R261, R466) -/

/-- A register outside the ledger is not touched by the roles' work. -/
theorem rolesTick_reg (s : State) {a : Nat} (h : ledger a = false) : s.rolesTick.reg a = s.reg a := by
  have hpres : ∀ (u : State) (ti : Tier), (u.presenceTick ti).reg a = u.reg a := fun u ti => by
    unfold presenceTick
    split
    · split
      · exact ((om_sendBroadcast _ _ _).1 a h).trans (reg_modRole _ _ _ _)
      · rfl
    · rfl
  have hlead : ∀ u : State, u.leadTick.reg a = u.reg a := fun u =>
    List.foldlRecOn u.image.packages _ (motive := fun v : State => v.reg a = u.reg a) rfl (fun _ hv _ _ => hv)
  exact (hlead _).trans ((hpres _ _).trans (hpres _ _))

theorem asymTick_frame (s : State) : s.asymTick = { s with tim := { s.tim with links := s.asymTick.tim.links } } := by
  unfold asymTick
  exact List.foldlRecOn _ _ (motive := fun v : State => v = { s with tim := { s.tim with links := v.tim.links } }) rfl
    (fun v hv x _ => by rw [hv]; rfl)

theorem tlink_modTlink (s : State) (k m : Nat) (f : TLink → TLink) :
    (s.modTlink k f).tlink m = if m = k then f (s.tlink k) else s.tlink m := Tab.get_put _ _ _ _

/-- After a list of links has been gone through, each has the asymmetry of its register. -/
theorem asym_foldl (l : List (TimeLink × Nat)) (s : State) (k : Nat) :
    ((l.foldl (fun s e => s.modTlink e.2 (fun x => { x with asym := s.sfld (F.TIM_ASYM_DATA_ASYM.at e.2) })) s).tlink k).asym =
      if k ∈ l.map Prod.snd then s.sfld (F.TIM_ASYM_DATA_ASYM.at k) else (s.tlink k).asym := by
  induction l generalizing s with
  | nil => rfl
  | cons e l ih =>
    have hreg : (s.modTlink e.2 (fun x => { x with asym := s.sfld (F.TIM_ASYM_DATA_ASYM.at e.2) })).sfld (F.TIM_ASYM_DATA_ASYM.at k) =
      s.sfld (F.TIM_ASYM_DATA_ASYM.at k) := rfl
    rw [List.foldl_cons, ih, hreg, tlink_modTlink, List.map_cons]
    by_cases hk : k = e.2
    · simp [hk]
    · have hmem : k ∈ e.2 :: l.map Prod.snd ↔ k ∈ l.map Prod.snd := by simp [hk]
      simp only [if_neg hk, hmem]

theorem asymTick_asym (s : State) {k : Nat} {l : TimeLink} (h : s.image.timeLinks[k]? = some l) :
    (s.asymTick.tlink k).asym = s.sfld (F.TIM_ASYM_DATA_ASYM.at k) := by
  have hmem : k ∈ (s.image.timeLinks.zipIdx).map Prod.snd := by
    obtain ⟨hlt, -⟩ := List.getElem?_eq_some_iff.1 h
    rw [List.zipIdx_map_snd]
    simpa using hlt
  unfold asymTick
  rw [asym_foldl, if_pos hmem]

theorem latchMinPast_frame (s : State) : s.latchMinPast = { s with seqs := s.latchMinPast.seqs } := by
  unfold latchMinPast
  refine List.foldlRecOn _ _ (motive := fun v : State => v = { s with seqs := v.seqs }) rfl (fun v hv m _ => ?_)
  dsimp only
  split
  · exact hv
  · rw [hv]

/-- Links, sequence models and the dispatcher's settings change, and nothing else. -/
theorem latchTick_frame (s : State) : s.latchTick = { s with
    tim := { s.tim with links := s.asymTick.tim.links }, seqs := s.latchTick.seqs
    tdsp := { s.tdsp with cfg := s.reg F.STW_TDSP_CFG_CANARY_SHIFT.addr, rejoin := [] } } := by
  unfold latchTick
  rw [latchMinPast_frame, asymTick_frame]
  rfl

theorem latchTick_keeps (s : State) : ({ s with tim := { s.tim with links := s.asymTick.tim.links }, tdsp := { s.tdsp with rejoin := [] } } :
    State).keepsTick s.latchTick := by
  rw [latchTick_frame]
  exact .of_data rfl rfl

theorem keepsOpening_latchTick (s : State) : s.keepsOpening s.latchTick := (latchTick_keeps s).opening

theorem latchTick_asym (s : State) {k : Nat} {l : TimeLink} (h : s.image.timeLinks[k]? = some l) :
    (s.latchTick.tlink k).asym = s.sfld (F.TIM_ASYM_DATA_ASYM.at k) := by
  rw [tlink, (latchTick_keeps s).tim]
  exact asymTick_asym s h

theorem latchTick_rest (s : State) : s.latchTick.aln.epochs = s.aln.epochs ∧ s.latchTick.tdsp.rejoin = [] ∧
    s.latchTick.stw.staged = s.stw.staged ∧ s.latchTick.stw.bcasts = s.stw.bcasts :=
  ⟨(latchTick_keeps s).epochs, (latchTick_keeps s).rejoin, (latchTick_keeps s).job.2⟩

/-! ### The job at a tick (R453, R454) -/

/-- The staged job is in force, and shown so. -/
def jobTaken (s : State) (j : Job) : State :=
  ((((({ s with stw := { s.stw with job := j } } : State).setStaged none).setFld F.STW_JOB0_JOB_GEN j.gen).setFld F.STW_JOB1_LATE_APPLY
    (b2n (decide (j.act < s.epoch)))).setFld F.VRD_STRAG_ROUNDS_PER_STEP j.rounds).replicaRestart

/-- The Potiks of excluded dies disarmed, those being armed for the job armed. -/
def jobArmings (s : State) (j : Job) : State :=
  let s := (s.image.dies.filter (fun d => dieExcluded j.delta (s.dieAddr d.slot) && s.stw.armed.contains d.slot)).foldl
    (fun s d => s.disarm d.slot) s
  (s.stw.arming.filter (fun a => a.job)).foldl (fun s a => ((s.setArming a.die (some { a with job := false })).ctrlWrite a.die [(0x80, 1)] (.arm 4))) s

theorem jobTick_due (s : State) (j : Job) (hj : s.stw.staged = some j) (hact : j.act ≤ s.epoch) (hholds : (s.bcast 2).holds = true) :
    s.jobTick = (s.jobTaken j).jobArmings j := by
  simp only [jobTick, hj]
  rw [if_neg (by simp [hholds]; omega)]
  rfl

theorem jobTick_early (s : State) (h : ∀ j, s.stw.staged = some j → s.epoch < j.act ∨ (s.bcast 2).holds = false) : s.jobTick = s := by
  cases hj : s.stw.staged with
  | none => simp only [jobTick, hj]
  | some j =>
    simp only [jobTick, hj]
    refine if_pos ?_
    rcases h j hj with h | h <;> simp [h]

theorem setStaged_none_keeps (s : State) :
    ({ s with stw := { s.stw with staged := none } } : State).keepsTick (s.setStaged none) :=
  (((keepsTick.refl _).setFld (f := F.STW_JOB0_STAGED_GEN) _ (by decide)).setFld (f := F.STW_JOB1_ACT_EPOCH) _ (by decide)).setFld
    (f := F.STW_JOB1_PENDING) _ (by decide)

theorem replicaRestart_keeps (s : State) : s.keepsTick s.replicaRestart := .of_data rfl rfl

theorem jobTaken_keeps (s : State) (j : Job) :
    ({ s with stw := { s.stw with job := j, staged := none } } : State).keepsTick (s.jobTaken j) := by
  have hstaged := setStaged_none_keeps ({ s with stw := { s.stw with job := j } } : State)
  unfold jobTaken
  exact (((hstaged.setFld (f := F.STW_JOB0_JOB_GEN) _ (by decide)).setFld (f := F.STW_JOB1_LATE_APPLY) _ (by decide)).setFld
    (f := F.VRD_STRAG_ROUNDS_PER_STEP) _ (by decide)).trans (replicaRestart_keeps _)

theorem disarm_keeps (s : State) (die : Nat) : s.keepsTick (s.disarm die) := by
  have harmed : s.keepsTick { s with stw := { s.stw with armed := s.stw.armed.filter (fun d => d != die) } } := .of_data rfl rfl
  exact harmed.trans (ctrlWrite_keeps _ _ _ _)

theorem setArming_keeps (s : State) (die : Nat) (a : Option Arming) : s.keepsTick (s.setArming die a) := .of_data rfl rfl

theorem jobArmings_keeps (s : State) (j : Job) : s.keepsTick (s.jobArmings j) := by
  unfold jobArmings
  dsimp only
  exact ((keepsTick.refl s).foldl _ _ (fun u d _ => disarm_keeps u d.slot)).foldl _ _
    (fun u a _ => (setArming_keeps u _ _).trans (ctrlWrite_keeps _ _ _ _))

/-- The job and the staged one aside, a tick's work on the job keeps what a tick is known by. -/
theorem jobTick_keeps (s : State) :
    ({ s with stw := { s.stw with job := s.jobTick.stw.job, staged := s.jobTick.stw.staged } } : State).keepsTick s.jobTick := by
  by_cases h : ∃ j, s.stw.staged = some j ∧ j.act ≤ s.epoch ∧ (s.bcast 2).holds = true
  · obtain ⟨j, hj, hact, hholds⟩ := h
    have hk := (jobTaken_keeps s j).trans (jobArmings_keeps _ j)
    rw [jobTick_due s j hj hact hholds, hk.job.1, hk.job.2.1]
    exact hk
  · rw [jobTick_early s (fun j hj => by
      rcases Nat.lt_or_ge s.epoch j.act with hlt | hge
      · exact .inl hlt
      · exact .inr (Bool.eq_false_iff.2 (fun hh => h ⟨j, hj, hge, hh⟩)))]
    exact .refl s

theorem keepsOpening_jobTick (s : State) : s.keepsOpening s.jobTick := (jobTick_keeps s).opening

theorem jobTick_rest (s : State) : s.jobTick.aln.epochs = s.aln.epochs ∧ s.jobTick.tdsp.rejoin = s.tdsp.rejoin ∧ s.jobTick.tim = s.tim :=
  ⟨(jobTick_keeps s).epochs, (jobTick_keeps s).rejoin, (jobTick_keeps s).tim⟩

theorem jobTick_applies (s : State) (j : Job) (hj : s.stw.staged = some j) (hact : j.act ≤ s.epoch) (hholds : (s.bcast 2).holds = true) :
    s.jobTick.stw.job = j ∧ s.jobTick.stw.staged = none := by
  have hk := ((jobTaken_keeps s j).trans (jobArmings_keeps _ j)).job
  rw [jobTick_due s j hj hact hholds]
  exact ⟨hk.1, hk.2.1⟩

/-! ### All of an opening -/

/-- The work up to the job's. -/
def openHead (s : State) (e : Nat) : State := ((s.openEpochs e).rolesTick.latchTick).canaryTick.headsTick

/-- The work after the job's. -/
def openTail (s : State) : State :=
  ((((((((s.baselineInstall.dictSwap).extTick).pmcTick).powerTick).digTick).tstTick).exportLossMarkers).traceTick).mapRetire.tellSched

theorem openWork_eq (s : State) (e : Nat) : s.openWork e = (s.openHead e).jobTick.openTail := rfl

theorem openTail_keeps (s : State) : s.keepsTick s.openTail :=
  ((((((((((baselineInstall_keeps s).trans (dictSwap_keeps _)).trans (extTick_keeps _)).trans (pmcTick_keeps _)).trans (powerTick_keeps _)).trans
    (digTick_keeps _)).trans (tstTick_keeps _)).trans (exportLossMarkers_keeps _)).trans (traceTick_keeps _)).trans (mapRetire_keeps _)).trans
    (tellSched_keeps _)

/-- From the settings latched on, the canaries and HEADS keep what a tick is known by. -/
theorem openHead_latched (s : State) (e : Nat) : ((s.openEpochs e).rolesTick.latchTick).keepsTick (s.openHead e) :=
  (canaryTick_keeps _).trans (headsTick_keeps _)

theorem openHead_keeps (s : State) (e : Nat) : s.keepsOpening (s.openHead e) :=
  (((keepsOpening_openEpochs s e).trans (rolesTick_keeps _).opening).trans (keepsOpening_latchTick _)).trans (openHead_latched s e).opening

theorem openWork_keeps (s : State) (e : Nat) : s.keepsOpening (s.openWork e) := by
  rw [openWork_eq]
  exact ((openHead_keeps s e).trans (keepsOpening_jobTick _)).trans (openTail_keeps _).opening

theorem openEpochs_rest (s : State) (e : Nat) : (s.openEpochs e).stw = s.stw := rfl

theorem openHead_rest (s : State) (e : Nat) : (s.openHead e).aln.epochs = (s.openEpochs e).aln.epochs ∧ (s.openHead e).tdsp.rejoin = [] ∧
    (s.openHead e).stw.staged = s.stw.staged ∧ (s.openHead e).stw.bcasts = s.stw.bcasts := by
  have hroles := rolesTick_keeps (s.openEpochs e)
  obtain ⟨hepochs, hrejoin, hstaged, hbcasts⟩ := latchTick_rest (s.openEpochs e).rolesTick
  have hend := openHead_latched s e
  obtain ⟨-, rstaged, rbcasts⟩ := hroles.job
  obtain ⟨-, estaged, ebcasts⟩ := hend.job
  rw [openEpochs_rest] at rstaged rbcasts
  exact ⟨hend.epochs.trans (hepochs.trans hroles.epochs), hend.rejoin.trans hrejoin, estaged.trans (hstaged.trans rstaged),
    ebcasts.trans (hbcasts.trans rbcasts)⟩

/-- The epochs, and the cores that rejoin, are those that the opening and the settings have left. -/
theorem openWork_epochs (s : State) (e : Nat) : (s.openWork e).aln.epochs = (s.openEpochs e).aln.epochs ∧ (s.openWork e).tdsp.rejoin = [] := by
  obtain ⟨hepochs, hrejoin, -, -⟩ := openHead_rest s e
  obtain ⟨jepochs, jrejoin, -⟩ := jobTick_rest (s.openHead e)
  have htail := openTail_keeps (s.openHead e).jobTick
  rw [openWork_eq]
  exact ⟨htail.epochs.trans (jepochs.trans hepochs), htail.rejoin.trans (jrejoin.trans hrejoin)⟩

/-- A staged job that is held and whose epoch has come is in force. -/
theorem openWork_job (s : State) (e : Nat) (j : Job) (hj : s.stw.staged = some j) (hact : j.act ≤ s.epoch) (hholds : (s.bcast 2).holds = true) :
    (s.openWork e).stw.job = j ∧ (s.openWork e).stw.staged = none := by
  obtain ⟨-, -, hstaged, hbcasts⟩ := openHead_rest s e
  have hepoch : (s.openHead e).epoch = s.epoch := (openHead_keeps s e).fld (by decide)
  have hb : (s.openHead e).bcast 2 = s.bcast 2 := by simp only [bcast, hbcasts]
  obtain ⟨hjob, hnone⟩ := jobTick_applies (s.openHead e) j (hstaged.trans hj) (by rw [hepoch]; exact hact) (by rw [hb]; exact hholds)
  obtain ⟨htail, htailStaged, -⟩ := (openTail_keeps (s.openHead e).jobTick).job
  rw [openWork_eq]
  exact ⟨htail.trans hjob, htailStaged.trans hnone⟩

theorem openEpochs_reg (s : State) (e : Nat) {a : Nat} (h : a ≠ F.ALN_STATUS_OPEN_EPOCHS.addr) : (s.openEpochs e).reg a = s.reg a :=
  reg_setEpochs _ _ h

/-- A link's register of its window is neither a message's nor a status of alignment. -/
theorem asym_addr (k : Nat) : ledger (F.TIM_ASYM_DATA_ASYM.at k).addr = false ∧ (F.TIM_ASYM_DATA_ASYM.at k).addr ≠ F.ALN_STATUS_OPEN_EPOCHS.addr := by
  have h1 : (0x81408 + k * 0x4000000) % 0x4000000 = 0x81408 := by omega
  have h2 : (0x81408 + k * 0x4000000) % 0x80000 = 0x1408 := by omega
  refine ⟨?_, ?_⟩
  · simp only [ledger, Fld.at, h1, h2]
    decide
  · simp only [Fld.at]
    omega

/-- Every link has the asymmetry that its register held before the opening. -/
theorem openWork_asym (s : State) (e : Nat) {k : Nat} {l : TimeLink} (h : s.image.timeLinks[k]? = some l) :
    ((s.openWork e).tlink k).asym = s.sfld (F.TIM_ASYM_DATA_ASYM.at k) := by
  have himage : (s.openEpochs e).rolesTick.image = s.image := (rolesTick_keeps (s.openEpochs e)).image
  obtain ⟨hl, hne⟩ := asym_addr k
  have hreg : (s.openEpochs e).rolesTick.sfld (F.TIM_ASYM_DATA_ASYM.at k) = s.sfld (F.TIM_ASYM_DATA_ASYM.at k) := by
    simp only [sfld, fld, rolesTick_reg _ hl, openEpochs_reg _ _ hne]
  have htim : (s.openWork e).tim = (s.openEpochs e).rolesTick.latchTick.tim := by
    rw [openWork_eq]
    exact (openTail_keeps _).tim.trans ((jobTick_rest _).2.2.trans (openHead_latched s e).tim)
  rw [← hreg, ← latchTick_asym _ (himage.symm ▸ h), tlink, tlink, htim]

end State
end Sys2Proof.Machine

namespace Sys2Proof.Machine
namespace State

/-! ### The schedule and the time of a tick (R76, R77) -/

/-- A pending schedule's first epoch has come by epoch `e`. -/
def takes (s : State) (e : Nat) : Bool := s.tim.pending.any (fun n => decide (n.e0 ≤ e))

/-- TIM with the schedule that opens epoch `e`. -/
def takenTim (s : State) (e : Nat) : Tim :=
  if s.takes e then { s.tim with before := s.tim.sched, sched := s.tim.pending, pending := none } else s.tim

/-- Between `s` and `t` lie register writes, all of them to STB_TIM_SCHED. -/
def schedOnly (s t : State) : Prop := (∀ a, a ≠ F.TIM_SCHED_PERIOD_NS.addr → t.reg a = s.reg a) ∧ t = { s with regs := t.regs }

theorem schedOnly.setFld {s t : State} (h : s.schedOnly t) {f : Fld} (v : Nat) (hf : f.addr = F.TIM_SCHED_PERIOD_NS.addr) :
    s.schedOnly (t.setFld f v) := by
  obtain ⟨hreg, hrest⟩ := h
  refine ⟨fun a ha => (reg_setFld_other _ _ _ (by rw [hf]; exact ha)).trans (hreg a ha), ?_⟩
  rw [hrest]
  rfl

theorem schedOnly_showSched (s : State) : s.schedOnly s.showSched := by
  have hclear : s.schedOnly (s.setReg F.TIM_SCHED_PERIOD_NS.addr 0) := ⟨fun a ha => reg_setReg_other _ _ ha, rfl⟩
  have hperiod : s.schedOnly (match s.tim.sched with
      | some c => (s.setReg F.TIM_SCHED_PERIOD_NS.addr 0).setFld F.TIM_SCHED_PERIOD_NS c.p
      | none => s.setReg F.TIM_SCHED_PERIOD_NS.addr 0) := by
    split
    · exact hclear.setFld _ rfl
    · exact hclear
  cases hs : s.tim.sched <;> cases hp : s.tim.pending <;> rw [hs] at hperiod <;>
    simp only [showSched, tim_setReg, tim_setFld, hs, hp]
  case none.none => exact hperiod
  case some.none => exact hperiod
  case none.some => exact (hperiod.setFld (f := F.TIM_SCHED_PENDING) _ rfl).setFld (f := F.TIM_SCHED_PENDING_E0) _ rfl
  case some.some => exact (hperiod.setFld (f := F.TIM_SCHED_PENDING) _ rfl).setFld (f := F.TIM_SCHED_PENDING_E0) _ rfl

theorem takeSched_frame (s : State) (e : Nat) :
    (∀ a, a ≠ F.TIM_SCHED_PERIOD_NS.addr → (s.takeSched e).reg a = s.reg a) ∧
    s.takeSched e = { s with regs := (s.takeSched e).regs, tim := s.takenTim e } := by
  unfold takeSched takenTim takes
  cases hp : s.tim.pending with
  | none => exact ⟨fun _ _ => rfl, rfl⟩
  | some n =>
    cases hn : (some n).any (fun n => decide (n.e0 ≤ e)) with
    | false => exact ⟨fun _ _ => rfl, rfl⟩
    | true =>
      simp only [if_true, schedTakeover, hp]
      obtain ⟨hreg, hrest⟩ := schedOnly_showSched ({ s with tim := { s.tim with before := s.tim.sched, sched := some n, pending := none } } : State)
      exact ⟨fun a ha => hreg a ha, by rw [hrest]⟩

/-- Epoch `e` opened at fleet time `t` under the schedule that opens it. -/
def tickOpened (s : State) (e : Nat) (t : Int) : State := (s.takeSched e).openAt e t

theorem tickOpened_reg (s : State) (e : Nat) (t : Int) {a : Nat} (h : a ≠ F.TIM_SCHED_PERIOD_NS.addr) (he : a ≠ F.TIM_EPOCH_EPOCH.addr) :
    (s.tickOpened e t).reg a = s.reg a := (reg_setFld_other _ _ _ he).trans ((takeSched_frame s e).1 a h)

theorem tickOpened_epoch (s : State) (e : Nat) (t : Int) (h : e < 2 ^ 48) : (s.tickOpened e t).epoch = e :=
  (fld_setFld_same _ _ _ (by decide)).trans (Nat.mod_eq_of_lt h)

/-- Nothing but TIM and its registers changes. -/
theorem tickOpened_rest (s : State) (e : Nat) (t : Int) : s.tickOpened e t = { s with
    regs := (s.tickOpened e t).regs, tim := { s.takenTim e with time := t, opened := t, open_ := true, stepped := false } } := by
  unfold tickOpened
  rw [(takeSched_frame s e).2]
  rfl

theorem tickOpened_fld (s : State) (e : Nat) (t : Int) {f : Fld} (h : f.addr ≠ F.TIM_SCHED_PERIOD_NS.addr) (he : f.addr ≠ F.TIM_EPOCH_EPOCH.addr) :
    (s.tickOpened e t).fld f = s.fld f := by simp only [fld, tickOpened_reg s e t h he]

/-- The levels that a block aggregates are read from its roles. -/
theorem aggregates_of_roles {s t : State} (h : t.reg 0x1100 = s.reg 0x1100) (l : Nat) : t.aggregates l = s.aggregates l := by
  unfold aggregates masterOf
  simp only [flag, fld, h]

/-- The open epoch's stamps, schedules and epochs, as an opening of epoch `e` at `now` leaves them (R76). -/
def opened (s : State) (e : Nat) (now : Int) (t : State) : Prop :=
  t.epoch = e ∧ t.tim.time = now ∧ t.tim.opened = now ∧ t.tim.open_ = true ∧ t.tim.stepped = false ∧
  t.tim.sched = (s.takenTim e).sched ∧ t.tim.pending = (s.takenTim e).pending ∧ t.tim.before = (s.takenTim e).before ∧
  (∀ l < 3, s.aggregates l = true → ∃ x ∈ t.aln.epochs, x.level = l ∧ x.epoch = e ∧ x.st = 0) ∧
  (∀ x ∈ s.aln.epochs, x ∈ t.aln.epochs) ∧ t.tdsp.rejoin = []

/-- The work of an opening leaves what the opening has set. -/
theorem opened_openWork {s u : State} {e : Nat} {now : Int} (hepoch : u.epoch = e)
    (htim : u.tim = { s.takenTim e with time := now, opened := now, open_ := true, stepped := false })
    (haln : u.aln = s.aln) (hrole : u.reg 0x1100 = s.reg 0x1100) : s.opened e now (u.openWork e) := by
  have hkeeps := openWork_keeps u e
  obtain ⟨ktime, kopened, kopen, kstepped, ksched, kpending, kbefore⟩ := hkeeps.tim
  obtain ⟨kepochs, krejoin⟩ := openWork_epochs u e
  rw [htim] at ktime kopened kopen kstepped ksched kpending kbefore
  refine ⟨(hkeeps.fld (by decide)).trans hepoch, ktime, kopened, kopen, kstepped, ksched, kpending, kbefore, fun l hl hagg => ?_, fun x hx => ?_, krejoin⟩
  · rw [kepochs]
    exact openEpochs_opens u e hl ((aggregates_of_roles hrole l).trans hagg)
  · rw [kepochs, openEpochs_epochs, haln]
    exact List.mem_append_left _ hx

/-! ### EQUINOX_TICK (R76, R77, R90, R453) -/

theorem exec_equinoxTick (s : State) : exec .equinoxTick s = .next { s.start.equinoxTick with pending := s.pending } := rfl

theorem takeSched_none (s : State) (e : Nat) (h : s.tim.pending = none) : s.takeSched e = s := by simp [takeSched, h]

theorem equinoxTick_ignored (s : State) (h : s.isArmed = false ∨ s.tim.open_ = false ∨ s.tim.sched = none ∧ s.tim.pending = none) :
    s.equinoxTick = s := by
  rcases h with h | h | ⟨hs, hp⟩
  · exact if_pos (by simp [h])
  · exact if_pos (by simp [h])
  · have hnone : s.tickTime (s.epoch + 1) = none := by simp [tickTime, hs]
    unfold equinoxTick
    dsimp only
    rw [takeSched_none s _ hp, hnone]
    split <;> rfl

theorem exec_equinoxTick_ignored (s : State) (h : s.isArmed = false ∨ s.tim.open_ = false ∨ s.tim.sched = none ∧ s.tim.pending = none) :
    exec .equinoxTick s = .next { s with out := [] } := by
  rw [exec_equinoxTick, equinoxTick_ignored s.start h]
  rfl

/-- A tick of an armed block under a schedule: the epoch opens, an aimed commit switches, and the opening's work follows. -/
theorem equinoxTick_eq (s : State) (now : Int) (harm : s.isArmed = true) (hopen : s.tim.open_ = true)
    (htime : (s.takeSched (s.epoch + 1)).tickTime (s.epoch + 1) = some now) :
    s.equinoxTick = ((s.tickOpened (s.epoch + 1) now).commitTick (s.epoch + 1)).openWork (s.epoch + 1) := by
  unfold equinoxTick
  rw [if_neg (by simp [harm, hopen])]
  dsimp only
  rw [htime]
  rfl

theorem tickTime_takeSched (s : State) (e : Nat) (c : Sched) (h : (if s.takes e then s.tim.pending else s.tim.sched) = some c) :
    (s.takenTim e).sched = some c ∧
    (s.takeSched e).tickTime e = some (c.t0 + ((e : Int) - (c.e0 : Int)) * (c.p : Int) * 65536) := by
  have hsched : (s.takenTim e).sched = some c := by
    rw [← h, takenTim]
    split <;> rfl
  refine ⟨hsched, ?_⟩
  rw [(takeSched_frame s e).2, tickTime]
  dsimp only
  rw [hsched]
  rfl

theorem commitTick_idle (s : State) (e : Nat) (h : s.commitArmed = false) : s.commitTick e = s := if_neg (by simp [h])

theorem tickOpened_commitArmed (s : State) (e : Nat) (t : Int) : (s.tickOpened e t).commitArmed = s.commitArmed := by
  simp only [commitArmed, imgState, tickOpened_fld s e t (f := F.MGT_IMG_STATUS_STATE) (by decide) (by decide)]

theorem completes_equinoxTick (s : State) (e : Nat) (take : Bool) (c : Sched) (now : Int) (harm : s.isArmed = true) (hopen : s.tim.open_ = true)
    (he : e = s.epoch + 1) (hlt : e < 2 ^ 48) (hcommit : s.commitArmed = false) (htake : take = s.tim.pending.any (fun n => decide (n.e0 ≤ e)))
    (hsched : (if take then s.tim.pending else s.tim.sched) = some c)
    (hnow : now = c.t0 + ((e : Int) - (c.e0 : Int)) * (c.p : Int) * 65536) : Completes .equinoxTick s (fun t =>
      t.epoch = e ∧ t.tim.time = now ∧ t.tim.opened = now ∧ t.tim.open_ = true ∧ t.tim.stepped = false ∧ t.tim.sched = some c ∧
      t.tim.pending = (if take then none else s.tim.pending) ∧ t.tim.before = (if take then s.tim.sched else s.tim.before) ∧
      t.img = s.img ∧
      (∀ l < 3, s.aggregates l = true → ∃ x ∈ t.aln.epochs, x.level = l ∧ x.epoch = e ∧ x.st = 0) ∧
      (∀ x ∈ s.aln.epochs, x ∈ t.aln.epochs) ∧ t.tdsp.rejoin = [] ∧
      (∀ k l, s.image.timeLinks[k]? = some l → (t.tlink k).asym = s.sfld (F.TIM_ASYM_DATA_ASYM.at k)) ∧
      (∀ j, s.stw.staged = some j → j.act ≤ e → (s.bcast 2).holds = true → t.stw.job = j ∧ t.stw.staged = none)) := by
  have hs : s.takes e = take := htake.symm
  have hpending : (s.takenTim e).pending = if take then none else s.tim.pending := by rw [takenTim, hs]; split <;> rfl
  have hbefore : (s.takenTim e).before = if take then s.tim.sched else s.tim.before := by rw [takenTim, hs]; split <;> rfl
  obtain ⟨htaken, htime⟩ := tickTime_takeSched s.start e c (by rw [← hsched, ← hs]; rfl)
  have hrest := tickOpened_rest s.start e now
  have hopened : s.start.opened e now ((s.start.tickOpened e now).openWork e) :=
    opened_openWork (tickOpened_epoch _ _ _ hlt) (by rw [hrest]) (by rw [hrest]) (tickOpened_reg _ _ _ (by decide) (by decide))
  obtain ⟨oepoch, otime, oopened, oopen, ostepped, osched, opending, obefore, oepochs, okept, orejoin⟩ := hopened
  have heq : s.start.equinoxTick = (s.start.tickOpened e now).openWork e := by
    have hstep : s.start.epoch + 1 = e := he.symm
    rw [equinoxTick_eq s.start now harm hopen (by rw [hstep, htime, hnow]), hstep,
      commitTick_idle (s.start.tickOpened e now) e ((tickOpened_commitArmed _ _ _).trans hcommit)]
  refine ⟨_, exec_equinoxTick s, ?_⟩
  rw [heq]
  refine ⟨oepoch, otime, oopened, oopen, ostepped, osched.trans htaken, opending.trans hpending, obefore.trans hbefore, ?_, oepochs, okept, orejoin,
    fun k l hk => ?_, fun j hj hact hholds => ?_⟩
  · exact (openWork_keeps _ e).img.1.trans (by rw [hrest]; rfl)
  · have himage : (s.start.tickOpened e now).image = s.image := by rw [hrest]; rfl
    have hreg : (s.start.tickOpened e now).sfld (F.TIM_ASYM_DATA_ASYM.at k) = s.sfld (F.TIM_ASYM_DATA_ASYM.at k) := by
      simp only [sfld, tickOpened_fld s.start e now (f := F.TIM_ASYM_DATA_ASYM.at k) (by simp only [Fld.at]; omega) (by simp only [Fld.at]; omega)]
      rfl
    exact (openWork_asym _ e (himage.symm ▸ hk)).trans hreg
  · have hstw : (s.start.tickOpened e now).stw = s.stw := by rw [hrest]; rfl
    exact openWork_job _ e j (by rw [hstw]; exact hj) (by rw [tickOpened_epoch _ _ _ hlt]; exact hact) (by rw [bcast, hstw]; exact hholds)

/-! ### BLOCK_ARM (R24, R481, R483) -/

/-- The block is armed, its first epoch opened at `now`. -/
def blockOpened (s : State) (e : Nat) (now : Int) : State :=
  let s := ((s.tickOpened e now).setFld F.MGT_BOOT_STAGE 5).modRole .group (fun r => { r with presence := e })
  let s := s.modRole .system (fun r => { r with presence := e })
  { s with mgt := { s.mgt with ready := true } }

/-- The node aggregator begins to arm every die of the job that is neither armed nor being armed. -/
def armDies (s : State) : State :=
  if !s.flag F.MGT_ROLE_NODE_AGG || !s.works 14 then s
  else (s.jobDies.filter (fun d => !s.stw.armed.contains d.slot && (s.armingOf d.slot).isNone)).foldl (fun s d => s.armStart d.slot false) s

theorem exec_blockArm (s : State) (now : Int) : exec (.blockArm now) s = .next { s.start.blockArm now with pending := s.pending } := rfl

theorem blockArm_eq (s : State) (now : Int) (e : Nat) (hat : s.tim.sched.bind (fun c => c.at_ now) = some e) (hstage : s.fld F.MGT_BOOT_STAGE = 4)
    (hreset : s.inReset = false) (himg : s.img ≠ none) (hmay : s.mayArm now = true) :
    s.blockArm now = ((s.blockOpened e now).openWork e).armDies := by
  have hnone : s.img.isNone = false := by simpa [Option.isSome_iff_ne_none] using himg
  unfold blockArm
  rw [hat]
  dsimp only
  rw [if_neg (by simp [hstage, hreset, hnone, hmay])]
  rfl

theorem blockArm_ignored (s : State) (now : Int) (h : s.tim.sched.bind (fun c => c.at_ now) = none ∨ s.fld F.MGT_BOOT_STAGE ≠ 4 ∨
    s.inReset = true ∨ s.img = none ∨ s.mayArm now = false) : s.blockArm now = s := by
  unfold blockArm
  split
  · rfl
  · case _ e hat =>
    refine if_pos ?_
    rcases h with h | h | h | h | h
    · exact absurd (h.symm.trans hat) (by simp)
    · simp [h]
    · simp [h]
    · simp [h]
    · simp [h]

theorem exec_blockArm_ignored (s : State) (now : Int) (h : s.tim.sched.bind (fun c => c.at_ now) = none ∨ s.fld F.MGT_BOOT_STAGE ≠ 4 ∨
    s.inReset = true ∨ s.img = none ∨ s.mayArm now = false) : exec (.blockArm now) s = .next { s with out := [] } := by
  rw [exec_blockArm, blockArm_ignored s.start now h]
  rfl

theorem blockOpened_reg (s : State) (e : Nat) (now : Int) {a : Nat} (h : a ≠ F.MGT_BOOT_STAGE.addr) :
    (s.blockOpened e now).reg a = (s.tickOpened e now).reg a := reg_setFld_other _ _ _ h

theorem blockOpened_stage (s : State) (e : Nat) (now : Int) : (s.blockOpened e now).fld F.MGT_BOOT_STAGE = 5 :=
  fld_setFld_same _ _ _ (by decide)

theorem armStart_keeps (s : State) (die : Nat) (job : Bool) : s.keepsTick (s.armStart die job) :=
  (setArming_keeps s die _).trans (om_control _ _ _ _).tick

theorem armDies_keeps (s : State) : s.keepsTick s.armDies := by
  unfold armDies
  split
  · exact .refl s
  · exact (keepsTick.refl s).foldl _ _ (fun u d _ => armStart_keeps u d.slot false)

/-! ### The dies being armed (R483) -/

/-- Arming goes on: what it speaks of stays, and a die once being armed still is. -/
def armingGoesOn (s t : State) : Prop :=
  (∀ a, ledger a = false → t.reg a = s.reg a) ∧ t.img = s.img ∧ t.stw.job = s.stw.job ∧ t.stw.armed = s.stw.armed ∧
  ∀ d, (s.armingOf d).isSome = true → (t.armingOf d).isSome = true

theorem armingGoesOn.refl (s : State) : s.armingGoesOn s := ⟨fun _ _ => rfl, rfl, rfl, rfl, fun _ h => h⟩

theorem armingGoesOn.trans {s t u : State} (h : s.armingGoesOn t) (k : t.armingGoesOn u) : s.armingGoesOn u := by
  obtain ⟨hreg, himg, hjob, harmed, hon⟩ := h
  obtain ⟨kreg, kimg, kjob, karmed, kon⟩ := k
  exact ⟨fun a ha => (kreg a ha).trans (hreg a ha), kimg.trans himg, kjob.trans hjob, karmed.trans harmed, fun d hd => kon d (hon d hd)⟩

theorem armingOf_setArming (s : State) (die : Nat) (a : Arming) (ha : a.die = die) (d : Nat) :
    (s.setArming die (some a)).armingOf d = if d = die then some a else s.armingOf d := by
  have hnew : ∀ l : List Arming, (l ++ [a]).find? (fun x => x.die == d) = (l.find? (fun x => x.die == d)).or (if d = die then some a else none) :=
    fun l => by
      rw [List.find?_append, List.find?_singleton]
      by_cases hd : d = die
      · simp [ha, hd]
      · simp [ha, hd, Ne.symm hd]
  rw [armingOf, setArming]
  dsimp only [Option.toList_some]
  rw [hnew]
  by_cases hd : d = die
  · have hno : (s.stw.arming.filter (fun x => x.die != die)).find? (fun x => x.die == d) = none := by
      rw [List.find?_eq_none]
      intro x hx
      simp [hd, (by simpa using (List.mem_filter.1 hx).2 : x.die ≠ die)]
    rw [hno, if_pos hd, if_pos hd]
    rfl
  · have hsame : (s.stw.arming.filter (fun x => x.die != die)).find? (fun x => x.die == d) = s.armingOf d := by
      rw [List.find?_filter, armingOf]
      congr 1
      funext x
      by_cases hx : x.die = d
      · simp [hx, hd]
      · simp [hx]
    rw [hsame, if_neg hd, if_neg hd, Option.or_none]

/-- A die whose arming starts is being armed. -/
theorem armStart_arming (s : State) (die d : Nat) (job : Bool) :
    (s.armStart die job).armingOf d = if d = die then some { die := die, job := job } else s.armingOf d := by
  have hmsg := om_control (s.setArming die (some { die := die, job := job })) die
    (.batch [{ offset := 0x420, write := false }, { offset := 0x7C0, write := false }]) (.arm 1)
  have harming : (s.armStart die job).stw.arming = (s.setArming die (some { die := die, job := job })).stw.arming := by
    rw [armStart, hmsg.2]
  rw [← armingOf_setArming s die { die := die, job := job } rfl d]
  simp only [armingOf, harming]

theorem armStart_goesOn (s : State) (die : Nat) (job : Bool) : s.armingGoesOn (s.armStart die job) := by
  have hmsg := om_control (s.setArming die (some { die := die, job := job })) die
    (.batch [{ offset := 0x420, write := false }, { offset := 0x7C0, write := false }]) (.arm 1)
  have hstw : (s.armStart die job).stw.job = s.stw.job ∧ (s.armStart die job).stw.armed = s.stw.armed := by
    rw [armStart, hmsg.2]
    exact ⟨rfl, rfl⟩
  refine ⟨hmsg.1, hmsg.img, hstw.1, hstw.2, fun d hd => ?_⟩
  rw [armStart_arming]
  split
  · rfl
  · exact hd

theorem foldl_armStart_goesOn (l : List DieCfg) (s : State) : s.armingGoesOn (l.foldl (fun s d => s.armStart d.slot false) s) :=
  List.foldlRecOn l _ (motive := s.armingGoesOn) (.refl s) (fun _ hu _ _ => hu.trans (armStart_goesOn _ _ _))

theorem foldl_armStart_arms (l : List DieCfg) (s : State) {d : DieCfg} (hd : d ∈ l) :
    ((l.foldl (fun s d => s.armStart d.slot false) s).armingOf d.slot).isSome = true := by
  induction l generalizing s with
  | nil => simp at hd
  | cons x l ih =>
    rcases List.mem_cons.1 hd with rfl | hd
    · refine (foldl_armStart_goesOn l (s.armStart d.slot false)).2.2.2.2 d.slot ?_
      rw [armStart_arming, if_pos rfl]
      rfl
    · exact ih _ hd

theorem armingGoesOn.jobDies {s t : State} (h : s.armingGoesOn t) : t.jobDies = s.jobDies := by
  obtain ⟨hreg, himg, hjob, -, -⟩ := h
  have haddr : t.dieAddr = s.dieAddr := by
    funext d
    simp only [dieAddr, group, node, State.fld, hreg F.MGT_ROLE_GROUP.addr (by decide)]
  simp only [State.jobDies, State.image, himg, hjob, haddr]

theorem works_of_reg {s t : State} {n : Nat} (h : t.reg (F.STATUS_STATE.at n).addr = s.reg (F.STATUS_STATE.at n).addr) : t.works n = s.works n := by
  simp only [works, istate, fld, h]

/-- An aggregator at work has every die of the job armed or being armed. -/
theorem armDies_arms (s : State) (hagg : s.armDies.flag F.MGT_ROLE_NODE_AGG = true) (hworks : s.armDies.works 14 = true) :
    ∀ d ∈ s.armDies.jobDies, d.slot ∈ s.armDies.stw.armed ∨ (s.armDies.armingOf d.slot).isSome = true := by
  have hgo : s.armingGoesOn s.armDies := by
    unfold armDies
    split
    · exact .refl s
    · exact foldl_armStart_goesOn _ _
  have hdies := hgo.jobDies
  obtain ⟨hreg, -, -, harmed, hon⟩ := hgo
  have haggs : s.flag F.MGT_ROLE_NODE_AGG = true := by
    rw [← hagg]
    simp only [flag, fld, hreg F.MGT_ROLE_NODE_AGG.addr (by decide)]
  have hworkss : s.works 14 = true := (works_of_reg (hreg _ (by decide))).symm.trans hworks
  intro d hd
  rw [hdies] at hd
  rw [harmed]
  by_cases ha : d.slot ∈ s.stw.armed
  · exact .inl ha
  · refine .inr ?_
    cases hnow : (s.armingOf d.slot).isSome with
    | true => exact hon _ hnow
    | false =>
      have hfold : s.armDies = (s.jobDies.filter (fun d => !s.stw.armed.contains d.slot && (s.armingOf d.slot).isNone)).foldl
          (fun s d => s.armStart d.slot false) s := if_neg (by simp [haggs, hworkss])
      rw [hfold]
      refine foldl_armStart_arms _ s (List.mem_filter.2 ⟨hd, ?_⟩)
      have hisNone : (s.armingOf d.slot).isNone = true := by simpa using hnow
      simp [ha, hisNone]

theorem completes_blockArm (s : State) (now : Int) (e : Nat) (hat : s.tim.sched.bind (fun c => c.at_ now) = some e) (hlt : e < 2 ^ 48)
    (hstage : s.fld F.MGT_BOOT_STAGE = 4) (hreset : s.inReset = false) (himg : s.img ≠ none) (hmay : s.mayArm now = true) :
    Completes (.blockArm now) s (fun t =>
      t.fld F.MGT_BOOT_STAGE = 5 ∧ t.mgt.ready = true ∧ t.epoch = e ∧ t.tim.time = now ∧ t.tim.opened = now ∧ t.tim.open_ = true ∧
      t.tim.stepped = false ∧ t.mgt.group.presence = e ∧ t.mgt.system.presence = e ∧ t.img = s.img ∧
      (∀ l < 3, s.aggregates l = true → ∃ x ∈ t.aln.epochs, x.level = l ∧ x.epoch = e ∧ x.st = 0) ∧
      (t.flag F.MGT_ROLE_NODE_AGG = true → t.works 14 = true → ∀ d ∈ t.jobDies, d.slot ∈ t.stw.armed ∨ (t.armingOf d.slot).isSome = true)) := by
  have hrest := tickOpened_rest s.start e now
  have hepoch : (s.start.blockOpened e now).epoch = e := by
    refine Eq.trans ?_ (tickOpened_epoch s.start e now hlt)
    simp only [epoch, fld, blockOpened_reg s.start e now (a := F.TIM_EPOCH_EPOCH.addr) (by decide)]
  have hparts : (s.start.blockOpened e now).tim = (s.start.tickOpened e now).tim ∧ (s.start.blockOpened e now).aln = (s.start.tickOpened e now).aln ∧
      (s.start.blockOpened e now).img = (s.start.tickOpened e now).img := ⟨rfl, rfl, rfl⟩
  rw [hrest] at hparts
  obtain ⟨htim, haln, hpimg⟩ := hparts
  have hopened : s.start.opened e now ((s.start.blockOpened e now).openWork e) := opened_openWork hepoch htim haln
    ((blockOpened_reg _ _ _ (by decide)).trans (tickOpened_reg _ _ _ (by decide) (by decide)))
  have hwork := openWork_keeps (s.start.blockOpened e now) e
  have harm := armDies_keeps ((s.start.blockOpened e now).openWork e)
  obtain ⟨oepoch, otime, oopened, oopen, ostepped, -, -, -, oepochs, -, -⟩ := hopened
  obtain ⟨mready, -, mgroup, msystem⟩ := (hwork.trans harm.opening).mgt
  refine ⟨_, exec_blockArm s now, ?_⟩
  rw [blockArm_eq s.start now e hat hstage hreset himg hmay]
  refine ⟨?_, mready, harm.epoch.trans oepoch, ?_, ?_, ?_, ?_, mgroup, msystem, ?_, fun l hl hagg => ?_, fun hagg hworks => ?_⟩
  · exact ((hwork.trans harm.opening).fld (by decide)).trans (blockOpened_stage _ _ _)
  · exact (congrArg Tim.time harm.tim).trans otime
  · exact (congrArg Tim.opened harm.tim).trans oopened
  · exact (congrArg Tim.open_ harm.tim).trans oopen
  · exact (congrArg Tim.stepped harm.tim).trans ostepped
  · exact (hwork.trans harm.opening).img.1.trans hpimg
  · obtain ⟨x, hx, hxl⟩ := oepochs l hl hagg
    exact ⟨x, harm.epochs.symm ▸ hx, hxl⟩
  · exact armDies_arms _ hagg hworks

end State
end Sys2Proof.Machine

namespace Sys2Proof.Machine
namespace State

/-! ### The images through a commit's switch (R422, R426) -/

/-- The running image and the one before it are in `t` as in `s`. -/
def keepsImages (s t : State) : Prop := t.img = s.img ∧ t.prevImg = s.prevImg

theorem keepsImages.refl (s : State) : s.keepsImages s := ⟨rfl, rfl⟩

theorem keepsImages.trans {s t u : State} (h : s.keepsImages t) (k : t.keepsImages u) : s.keepsImages u := ⟨k.1.trans h.1, k.2.trans h.2⟩

theorem keepsImages.ite {s t u : State} {c : Prop} [Decidable c] (h : s.keepsImages t) (k : s.keepsImages u) :
    s.keepsImages (if c then t else u) := by
  split
  · exact h
  · exact k

theorem keepsImages.foldl {α : Type} {s t : State} (h : s.keepsImages t) {f : State → α → State} {l : List α}
    (hf : ∀ (u : State) (x : α), u.keepsImages (f u x)) : s.keepsImages (l.foldl f t) :=
  List.foldlRecOn l f (motive := s.keepsImages) h (fun u hu x _ => hu.trans (hf u x))

theorem keepsImages.setFld {s t : State} (h : s.keepsImages t) {f : Fld} {v : Nat} : s.keepsImages (t.setFld f v) := h

theorem onlyMessages.images {s t : State} (h : s.onlyMessages t) : s.keepsImages t := by
  rw [h.2]
  exact ⟨rfl, rfl⟩

theorem keepsTick.images {s t : State} (h : s.keepsTick t) : s.keepsImages t := h.opening.img

theorem keepsImages.pend {s t : State} (h : s.keepsImages t) {n b : Nat} : s.keepsImages (t.pend n b) := h.trans (om_pend t n b).images

theorem keepsImages.trace {s t : State} (h : s.keepsImages t) {n code : Nat} {p : Bytes} : s.keepsImages (t.trace n code p) :=
  h.trans (om_trace t n code p).images

theorem keepsImages.showSched {s t : State} (h : s.keepsImages t) : s.keepsImages t.showSched := by
  rw [(schedOnly_showSched t).2]
  exact h

/-! ### Roles, queues and registers at a commit -/

theorem commitTree_images (s : State) (im : Image) (e : Nat) : s.keepsImages (s.commitTree im e) := by
  have hdrop : ∀ (u : State) (level : Nat), u.keepsImages ((u.modOutlet level (fun o => { o with req := none })).setFld
      (F.ALN_LEVEL_STATE_REQ_RES.at level) 0) := fun u _ => .refl u
  have hnode : s.keepsImages (if s.mgt.nodeTree.parent = some im.groupMaster then s else
      (s.modOutlet 0 (fun o => { o with req := none })).setFld (F.ALN_LEVEL_STATE_REQ_RES.at 0) 0) := .ite (.refl s) (hdrop s 0)
  exact hnode.trans (.ite (.refl _) (hdrop _ 1))

theorem commitQueues_images (s : State) (old im : Image) : s.keepsImages (s.commitQueues old im) := by
  unfold commitQueues
  dsimp only
  refine keepsImages.foldl ?_ (fun u e => ?_)
  · have hlost : s.keepsImages (s.exp.queues.foldl (fun s e => if (match old.dests[e.1 / 8]? with
        | some c => keptDest im c | none => none).isNone then s.loseAt (e.1 / 8) e.2.recs else s) s) :=
      (keepsImages.refl s).foldl (fun u e => .ite (.refl u) (.refl u))
    exact hlost
  · exact ((om_mkRec u 12 0x0B 10 u.myNode (2 ^ flagLoss) (lossBody 3 e.2 0)).trans (om_toExp _ _ _)).images.setFld

theorem resetOwn_images (s : State) : s.keepsImages s.resetOwn := by
  unfold resetOwn
  exact (keepsImages.refl s).foldl (fun u e => .ite (.refl u) (.refl u))

theorem setServo_images (s : State) (v : Servo) (o : Int) : s.keepsImages (s.setServo v o) :=
  .ite (.refl _) (.trace (.refl _))

theorem freeLock_images (s : State) : s.keepsImages s.freeLock := .ite (setServo_images _ _ _) (.refl s)

theorem mergeHeld_images (d fuel : Nat) (s : State) : s.keepsImages (mergeHeld d fuel s) := by
  induction fuel generalizing s with
  | zero => exact .refl s
  | succ fuel ih =>
    unfold mergeHeld
    dsimp only
    split
    · exact .refl s
    · exact (keepsImages.refl s).trans (ih _)

theorem heldMerges_images (s : State) : s.keepsImages s.heldMerges := by
  unfold heldMerges
  exact .ite (.refl s) ((keepsImages.refl s).foldl (fun u d => .ite (mergeHeld_images _ _ u) (.refl u)))

theorem resume_images (s : State) (n : Nat) : s.keepsImages (s.resume n) := by
  unfold resume
  split
  · exact freeLock_images s
  · exact heldMerges_images s
  · exact .ite (.refl s) (.refl s)

theorem recover_images (s : State) (n : Nat) : s.keepsImages (s.recover n) := by
  unfold recover
  dsimp only
  split
  · exact .pend (.refl _)
  · exact keepsImages.trans (.trace (.pend (.setFld (.setFld (.setFld (.setFld (.refl s))))))) (resume_images _ _)

theorem holdWrite_images (s : State) (n : Nat) (on : Bool) : s.keepsImages (s.holdWrite n on) := by
  have hleave : ∀ u : State, u.keepsImages (u.winterLeave n) := fun u => .ite (.refl u) (.ite (.refl u) (recover_images _ n))
  exact .ite (hleave (s.setFld (F.CTRL_HOLD.at n) (b2n on))) (.refl s)

theorem keepsImages.offer {s t : State} (h : s.keepsImages t) {n : Nat} {b : Word} : s.keepsImages (t.offer n b) := h.trans (om_offer t n b).images

theorem intEnWrite_images (s : State) (n v : Nat) : s.keepsImages (s.intEnWrite n v) := .ite (.refl s) (.offer (.refl _))

theorem loadReg_images (s : State) (n off a v : Nat) : s.keepsImages (s.loadReg n off a v) :=
  .ite (holdWrite_images s n _) (.ite (intEnWrite_images s n v) (.ite (.refl s) (.refl s)))

theorem islandTake_images (s : State) (r : Nat × Nat × Nat) : s.keepsImages (s.islandTake r) := by
  unfold islandTake
  split
  · exact .refl s
  · exact .ite (.refl s) (loadReg_images _ _ _ _ _)

theorem commitRegs_images (s : State) (im : Image) : s.keepsImages (s.commitRegs im) := by
  unfold commitRegs
  exact (((resetOwn_images s).foldl islandTake_images).foldl islandTake_images).foldl (fun u _ => loadReg_images u _ _ _ _)

/-! ### Tables at a commit -/

theorem commitRoutes_images (s : State) (im : Image) : s.keepsImages (s.commitRoutes im) := by
  unfold commitRoutes
  refine .foldl ?_ (fun u _ => ?_) <;> exact .refl _

theorem commitIngest_images (s : State) (im : Image) : s.keepsImages (s.commitIngest im) := by
  unfold commitIngest
  refine keepsImages.trans (.foldl (.foldl ?_ (fun u _ => ?_)) (fun u _ => ?_)) (.refl _) <;> exact .refl _

theorem commitAlign_images (s : State) (im : Image) : s.keepsImages (s.commitAlign im) := by
  unfold commitAlign
  refine .foldl ?_ (fun u _ => ?_) <;> exact .refl _

theorem commitModels_images (s : State) (im : Image) : s.keepsImages (s.commitModels im) := by
  unfold commitModels
  refine (keepsImages.refl s).foldl (fun u m => ?_)
  split <;> exact .refl u

theorem commitPolicies_images (s : State) (im : Image) : s.keepsImages (s.commitPolicies im) :=
  (keepsImages.refl s).foldl (fun u _ => .refl u)

theorem commitReplicas_images (s : State) (old im : Image) : s.keepsImages (s.commitReplicas old im) := by
  unfold commitReplicas
  refine (keepsImages.refl s).foldl (fun u k => ?_)
  split <;> exact .refl u

theorem commitArchives_images (s : State) (old im : Image) : s.keepsImages (s.commitArchives old im) := by
  unfold commitArchives
  refine .foldl ?_ (fun u k => ?_)
  · exact .refl s
  · split <;> exact .refl u

theorem commitDict_images (s : State) (im : Image) : s.keepsImages (s.commitDict im) := by
  have hload : s.keepsImages (s.loadDict im) := by
    unfold loadDict
    exact ((keepsImages.refl s).foldl (fun u _ => (keepsImages.refl u).setFld)).setFld
  exact .ite ((hload.setFld).trans (dictSwap_keeps _).images) (.refl s)

theorem commitLinks_images (s : State) (old im : Image) : s.keepsImages (s.commitLinks old im) := by
  unfold commitLinks
  refine .foldl ?_ (fun u _ => ?_) <;> exact .refl _

theorem schedTakeover_images (s : State) : s.keepsImages s.schedTakeover := by
  unfold schedTakeover
  split
  · exact .refl s
  · exact .showSched (.refl s)

theorem commitSched_images (s : State) (im : Image) : s.keepsImages (s.commitSched im) := by
  have hshow : ∀ x : Tim, s.keepsImages (({ s with tim := x } : State).showSched) := fun x => .showSched (.refl s)
  unfold commitSched
  split
  · exact .refl s
  · exact hshow _
  · exact .ite (hshow _) (.ite ((hshow _).trans (schedTakeover_images _)) (hshow _))

theorem pulseModeWrite_images (s : State) (n v : Nat) (now : Int) : s.keepsImages (s.pulseModeWrite n v now) := by
  have hfault : ∀ {u : State} {f : Fld}, s.keepsImages u → s.keepsImages (u.pulseFault n f) := fun h => .pend (.setFld h)
  unfold pulseModeWrite
  dsimp only
  split
  · exact hfault (.refl s)
  · split
    · exact .refl s
    · exact .ite (hfault (.refl s)) (.refl s)
    · exact .ite (hfault (.refl s)) (.refl s)
    · exact .refl s

theorem commitPulses_images (s : State) (im : Image) : s.keepsImages (s.commitPulses im) := by
  unfold commitPulses
  exact (keepsImages.refl s).foldl (fun u n => .ite (pulseModeWrite_images _ _ _ _) (.refl u))

/-! ### The steward, packages, power and trace at a commit -/

theorem mboxRespond_images (s : State) (m : Nat) (bs : Bytes) : s.keepsImages (s.mboxRespond m bs) := by
  unfold mboxRespond
  refine .ite (.refl s) (.pend (.setFld (.setFld (.setFld (.foldl (.refl s) (fun u w => ?_))))))
  exact .refl u

theorem queryReply_images (s : State) (q : Query) (status : Nat) (body : Bytes) : s.keepsImages (s.queryReply q status body) := by
  unfold queryReply
  generalize (if (q.mbox && decide (4084 < body.length)) = true then (7, []) else (status, body)) = p
  obtain ⟨st, b⟩ := p
  dsimp only
  have hcount : s.keepsImages (match st with
      | 0 => s.incFld F.STW_QUERY_REQUESTS
      | 3 => (s.incFld F.STW_QUERY_REQUESTS).incFld F.STW_QUERY_DENIED
      | 4 => (s.incFld F.STW_QUERY_REQUESTS).incFld F.STW_QUERY_BUSY
      | _ => (s.incFld F.STW_QUERY_REQUESTS).incFld F.STW_QUERY_ERRORS) := by
    split <;> exact .refl s
  exact .ite (hcount.trans (mboxRespond_images _ _ _)) (hcount.trans (.refl _))

theorem queryReceive_images (s : State) (q : Query) : s.keepsImages (s.queryReceive q) :=
  .ite (.refl s) (.ite (queryReply_images _ _ _ _) (.ite (queryReply_images _ _ _ _) (.ite (queryReply_images _ _ _ _) (.refl s))))

theorem mboxTake_images (s : State) (m : Nat) : s.keepsImages (s.mboxTake m) := by
  unfold mboxTake
  split
  · exact .refl s
  · exact .ite (.refl s) (.ite ((keepsImages.refl s).trans (queryReceive_images _ _)) (.refl s))

/-- The row of program `p` as an image gives it. -/
def progRow (im : Image) (s : State) (p : Nat) : State :=
  match im.programs[p]? with
  | none => s.setReg (F.STW_PROG_DATA_SERVICE.at p).addr 0
  | some (svc, cores) =>
    ((s.setFld (F.STW_PROG_DATA_SERVICE.at p) svc).setFld (F.STW_PROG_DATA_CORES.at p) cores).setFld (F.STW_PROG_DATA_STATE.at p)
      (if s.works 14 then 1 else 3)

/-- A mailbox that shows whether it has an owner. -/
def mboxOwned (s : State) (m : Nat) : State := s.setFld (F.STW_MBOX_CTRL_NO_OWNER.at m) (b2n (s.mboxOwner m).isNone)

theorem progRow_images (im : Image) (s : State) (p : Nat) : s.keepsImages (progRow im s p) := by
  unfold progRow
  split <;> exact .refl s

theorem commitPrograms_images (s : State) (im : Image) : s.keepsImages (s.commitPrograms im) := by
  have hrows : s.keepsImages ((List.range 16).foldl (progRow im) { s with stw := { s.stw with overruns := [] } }) := by
    refine .foldl ?_ (progRow_images im)
    exact .refl s
  have hqueue : s.keepsImages (((List.range 4).foldl mboxOwned ((List.range 16).foldl (progRow im)
      { s with stw := { s.stw with overruns := [] } })).showQuery) :=
    (hrows.foldl (fun u m => (keepsImages.refl u).setFld)).setFld
  exact hqueue.foldl mboxTake_images

theorem keepPackage_images (s : State) (b : Bytes) (act : Nat) : s.keepsImages (s.keepPackage b act).2 := by
  unfold keepPackage
  split
  · exact .refl s
  · split
    · exact .refl s
    · dsimp only
      split
      · exact .refl s
      · split <;> exact .refl s

theorem commitPackages_images (s : State) (im : Image) (e : Nat) : s.keepsImages (s.commitPackages im e) :=
  (keepsImages.refl s).foldl (fun u b => keepPackage_images u b e)

theorem ackCap_images (s : State) : s.keepsImages s.ackCap := by
  unfold ackCap
  split
  · exact .refl s
  · exact .ite (.refl s) (.ite (.refl s) (.refl s))

theorem capTaken_images (s : State) : s.keepsImages s.effectiveCap.unmet.ackCap := by
  have hunmet : ∀ u : State, u.keepsImages u.unmet := fun u => .ite (.refl u) (.ite (.refl u) (.refl u))
  have heff : s.keepsImages s.effectiveCap := .refl s
  exact (heff.trans (hunmet _)).trans (ackCap_images _)

theorem traceMode_images (s : State) : s.keepsImages s.traceMode := .ite (.ite (.refl s) (.refl s)) (.refl s)

theorem commitTables_images (s : State) (old im : Image) (e : Nat) : s.keepsImages (s.commitTables old im e) := by
  have hext : ∀ u : State, u.keepsImages u.commitExt := .refl
  have hbudget : ∀ u : State, u.keepsImages u.commitBudget := .refl
  have hseeds : ∀ u : State, u.keepsImages (u.commitSeeds im) := .refl
  have hjob : ∀ u : State, u.keepsImages u.commitJob := .refl
  have hregs := ((commitRegs_images s im).trans (commitRoutes_images _ im)).trans (commitIngest_images _ im)
  have hmodels := ((hregs.trans (commitAlign_images _ im)).trans (hext _)).trans (commitModels_images _ im)
  have hreplicas := ((hmodels.trans (commitPolicies_images _ im)).trans (hbudget _)).trans (commitReplicas_images _ old im)
  have hlinks := ((hreplicas.trans (commitArchives_images _ old im)).trans (commitDict_images _ im)).trans (commitLinks_images _ old im)
  have hprograms := ((hlinks.trans (commitSched_images _ im)).trans (commitPulses_images _ im)).trans (commitPrograms_images _ im)
  have hcap := ((hprograms.trans (hseeds _)).trans (commitPackages_images _ im e)).trans (capTaken_images _)
  exact (hcap.trans (.ite (traceMode_images _) (.refl _))).trans (hjob _)

theorem commitDests_images (s : State) (im : Image) : s.keepsImages (s.commitDests im) := by
  unfold commitDests
  refine .foldl ?_ (fun u _ => ?_) <;> exact .refl _

theorem bucketsFull_images (s : State) : s.keepsImages s.bucketsFull := by
  unfold bucketsFull
  exact (keepsImages.refl s).foldl (fun u _ => keepsImages.foldl (.refl _) (fun v _ => .refl v))

/-! ### Engines and the grandmaster at a commit -/

theorem baselineCommit_images (s : State) : s.keepsImages s.baselineCommit := by
  unfold baselineCommit
  dsimp only
  refine .ite (.refl s) ?_
  split
  · exact .refl s
  · exact keepsImages.trans (.refl s) ((baseWrite_keeps _ _ _).trans (baseWrite_keeps _ _ _)).images

theorem keepsImages.showWindow {s t : State} (h : s.keepsImages t) {m n : Nat} {c : ModelCfg} : s.keepsImages (t.showWindow m n c) := by
  unfold State.showWindow
  split
  · exact h
  · exact .ite h h

theorem windowCommit_images (s : State) (old : Option Image) : s.keepsImages (s.windowCommit old) := by
  unfold windowCommit
  refine (keepsImages.refl s).foldl (fun u m => ?_)
  split
  · exact .refl u
  · refine .ite (.refl u) ?_
    split
    · exact .refl u
    · refine .showWindow (.setFld (.foldl (.refl u) (fun v _ => ?_)))
      exact .refl v

theorem treSwap_images (s : State) (e : Nat) : s.keepsImages (s.treSwap e) := .ite (.refl s) (.ite (.refl s) (.refl s))

theorem commitEngines_images (s : State) (old : Option Image) (e : Nat) : s.keepsImages (s.commitEngines old e) := by
  have hhist : s.keepsImages (match old with | some o => s.historyCommit o | none => s) := by
    split <;> exact .refl s
  exact ((hhist.trans (baselineCommit_images _)).trans (windowCommit_images _ old)).trans (treSwap_images _ e)

theorem commitGrandmaster_images (s : State) (was : Bool) : s.keepsImages (s.commitGrandmaster was) := .ite (freeLock_images s) (.refl s)

end State
end Sys2Proof.Machine

namespace Sys2Proof.Machine
namespace State

/-! ### A commit's switch and its record (R422, R426, R496) -/

/-- `im` runs from epoch `e` on in place of `old`, nothing is verified, and IMG_STATUS, IMG_GEN and IMG_EPOCH show it. -/
def recorded (im old : Image) (e : Nat) (t : State) : Prop :=
  t.img = some im ∧ t.prevImg = some (e, old) ∧ t.mgt.verified = none ∧ t.imgState = 0 ∧
  t.fld F.MGT_IMG_GEN_RUNNING_GEN = im.generation % 2 ^ 32 ∧ t.fld F.MGT_IMG_EPOCH_EPOCH = e ∧ t.flag F.MGT_IMG_STATUS_COMMITTED = true

theorem recorded.opening {im old : Image} {e : Nat} {s t : State} (h : recorded im old e s) (k : s.keepsOpening t) : recorded im old e t := by
  obtain ⟨himg, hprev, hver, hstate, hgen, hepoch, hflag⟩ := h
  obtain ⟨kimg, kprev⟩ := k.img
  obtain ⟨-, kver, -, -⟩ := k.mgt
  exact ⟨kimg.trans himg, kprev.trans hprev, kver.trans hver, (k.fld (by decide)).trans hstate, (k.fld (by decide)).trans hgen,
    (k.fld (by decide)).trans hepoch, (k.flag (by decide)).trans hflag⟩

theorem setImgState_empty (s : State) : (s.setImgState 0).imgState = 0 ∧
    (∀ g : Fld, 3 ≤ g.lo → g.lo + g.w ≤ 64 → (s.setImgState 0).fld g = s.fld g) ∧
    (∀ g : Fld, g.addr ≠ F.MGT_IMG_STATUS_STATE.addr → (s.setImgState 0).fld g = s.fld g) := by
  unfold setImgState
  by_cases h : s.imgState = 0
  · rw [if_pos h]
    exact ⟨h, fun _ _ _ => rfl, fun _ _ => rfl⟩
  · rw [if_neg h]
    exact ⟨fld_setFld_same _ _ _ (by decide), fun g hlo h64 => fld_setFld_bits _ _ _ _ (.inr hlo) h64, fun g hg => fld_setFld_reg _ _ _ _ hg⟩

theorem setImgState_data (s : State) : s.setImgState 0 = { s with regs := (s.setImgState 0).regs } := by
  unfold setImgState
  by_cases h : s.imgState = 0
  · rw [if_pos h]
  · rw [if_neg h]
    rfl

/-- The generation and the epoch of a commit noted, and nothing staged or verified any more. -/
def commitNoted (s : State) (im : Image) (e : Nat) : State :=
  let s := ((s.setFld F.MGT_IMG_STATUS_COMMITTED 1).setFld F.MGT_IMG_GEN_RUNNING_GEN im.generation).setFld F.MGT_IMG_EPOCH_EPOCH e
  { s with mgt := { s.mgt with stagedLen := 0, verified := none, deferrals := 0 } }

/-- The record of a commit in the registers, without its interrupt and its trace message. -/
def commitShown (s : State) (im : Image) (e : Nat) : State :=
  (((s.commitNoted im e).setFld F.MGT_IMG_COMMIT_ARM 0).setImgState 0).clearShadows

theorem recordCommit_opening (s : State) (im : Image) (e : Nat) : (s.commitShown im e).keepsOpening (s.recordCommit im e) :=
  ((om_pend (s.commitShown im e) 0 10).trans (om_trace _ 0 7 (le 4 im.generation ++ le 6 e))).tick.opening

theorem clearShadows_fld (s : State) {g : Fld} (h0 : g.addr ≠ F.MGT_IMG_SHADOW0_READY.addr) (h1 : g.addr ≠ F.MGT_IMG_SHADOW1_READY.addr) :
    s.clearShadows.fld g = s.fld g := (fld_setFld_reg _ _ _ _ h1).trans (fld_setFld_reg _ _ _ _ h0)

theorem recorded_commitShown {s : State} {im old : Image} {e : Nat} (himg : s.img = some im) (hprev : s.prevImg = some (e, old)) (he : e < 2 ^ 48) :
    recorded im old e (s.commitShown im e) := by
  unfold commitShown
  obtain ⟨hempty, hbits, hother⟩ := setImgState_empty ((s.commitNoted im e).setFld F.MGT_IMG_COMMIT_ARM 0)
  have hdata := setImgState_data ((s.commitNoted im e).setFld F.MGT_IMG_COMMIT_ARM 0)
  have hgen : (s.commitNoted im e).fld F.MGT_IMG_GEN_RUNNING_GEN = im.generation % 2 ^ 32 := (fld_setFld_reg _ _ _ _ (by decide)).trans (fld_setFld_same _ _ _ (by decide))
  have hepoch : (s.commitNoted im e).fld F.MGT_IMG_EPOCH_EPOCH = e := (fld_setFld_same _ _ _ (by decide)).trans (Nat.mod_eq_of_lt he)
  have hflag : (s.commitNoted im e).fld F.MGT_IMG_STATUS_COMMITTED = 1 :=
    ((fld_setFld_reg _ _ _ _ (by decide)).trans (fld_setFld_reg _ _ _ _ (by decide))).trans (fld_setFld_same _ _ _ (by decide))
  refine ⟨?_, ?_, ?_, ?_, ?_, ?_, ?_⟩
  · rw [hdata]
    exact himg
  · rw [hdata]
    exact hprev
  · rw [hdata]
    rfl
  · exact (clearShadows_fld _ (by decide) (by decide)).trans hempty
  · rw [clearShadows_fld _ (by decide) (by decide), hother _ (by decide), fld_setFld_reg _ _ _ _ (by decide), hgen]
  · rw [clearShadows_fld _ (by decide) (by decide), hother _ (by decide), fld_setFld_reg _ _ _ _ (by decide), hepoch]
  · rw [flag, clearShadows_fld _ (by decide) (by decide), hbits _ (by decide) (by decide), fld_setFld_reg _ _ _ _ (by decide), hflag]
    rfl

theorem recorded_recordCommit {s : State} {im old : Image} {e : Nat} (himg : s.img = some im) (hprev : s.prevImg = some (e, old)) (he : e < 2 ^ 48) :
    recorded im old e (s.recordCommit im e) := (recorded_commitShown himg hprev he).opening (recordCommit_opening s im e)

/-- Everything a switch does between taking the image and recording it. -/
def switchWork (s : State) (im o : Image) (old : Option Image) (was : Bool) (role : Word) (e : Nat) : State :=
  let s := ((s.commitRole im).commitTree im e).commitQueues o im
  let s := ((s.commitTables o im e).commitDests im).bucketsFull
  let s := ((s.commitEngines old e).commitMap o e).commitGrandmaster was
  if s.reg F.MGT_ROLE_NODE_AGG.addr = role then s else s.roleChanged

theorem switchWork_images (s : State) (im o : Image) (old : Option Image) (was : Bool) (role : Word) (e : Nat) :
    s.keepsImages (s.switchWork im o old was role e) := by
  have hrole : s.keepsImages (s.commitRole im) := .refl s
  have hmap : ∀ u : State, u.keepsImages (u.commitMap o e) := .refl
  have hqueues := (hrole.trans (commitTree_images _ im e)).trans (commitQueues_images _ o im)
  have htables := ((hqueues.trans (commitTables_images _ o im e)).trans (commitDests_images _ im)).trans (bucketsFull_images _)
  have hengines := ((htables.trans (commitEngines_images _ old e)).trans (hmap _)).trans (commitGrandmaster_images _ was)
  exact .ite hengines (hengines.trans (om_roleChanged _).images)

/-- The verified image taken in place of the running one, whose live blocks are flushed first. -/
def imageTaken (s : State) (im old : Image) (e : Nat) : State := { s.flushLiveBlocks old with img := some im, prevImg := some (e, old) }

theorem commitSwitch_eq {s : State} {im old : Image} (e : Nat) (himg : s.img = some old) (hver : s.mgt.verified = some im) :
    s.commitSwitch e =
      ((s.imageTaken im old e).switchWork im old (some old) s.grandmaster (s.reg F.MGT_ROLE_NODE_AGG.addr) e).recordCommit im e := by
  unfold commitSwitch
  rw [hver, himg]
  rfl

theorem recorded_commitSwitch {s : State} {im old : Image} {e : Nat} (himg : s.img = some old) (hver : s.mgt.verified = some im) (he : e < 2 ^ 48) :
    recorded im old e (s.commitSwitch e) := by
  obtain ⟨kimg, kprev⟩ := switchWork_images (s.imageTaken im old e) im old (some old) s.grandmaster (s.reg F.MGT_ROLE_NODE_AGG.addr) e
  rw [commitSwitch_eq e himg hver]
  exact recorded_recordCommit kimg kprev he

theorem commitTick_switches {s : State} {e : Nat} (h : s.commitArmed = true) (hfixed : s.mgt.fixed = true) (haim : s.mgt.aim ≤ e) (himg : s.img ≠ none) :
    s.commitTick e = s.commitSwitch e := if_pos (by simp [h, hfixed, haim, Option.isSome_iff_ne_none, himg])

theorem completes_equinoxTick_commit (s : State) (im old : Image) (harm : s.isArmed = true) (hopen : s.tim.open_ = true)
    (hpending : s.tim.pending = none) (hsched : s.tim.sched ≠ none) (hlt : s.epoch + 1 < 2 ^ 48) (hcommit : s.commitArmed = true)
    (hfixed : s.mgt.fixed = true) (haim : s.mgt.aim ≤ s.epoch + 1) (himg : s.img = some old) (hver : s.mgt.verified = some im) :
    Completes .equinoxTick s (recorded im old (s.epoch + 1)) := by
  obtain ⟨c, hc⟩ := Option.ne_none_iff_exists'.1 hsched
  have htakes : s.start.takes (s.epoch + 1) = false := by simp [takes, start, hpending]
  obtain ⟨-, htime⟩ := tickTime_takeSched s.start (s.epoch + 1) c (by rw [htakes]; exact hc)
  refine ⟨_, exec_equinoxTick s, ?_⟩
  rw [equinoxTick_eq s.start _ harm hopen htime]
  generalize c.t0 + (((s.epoch + 1 : Nat) : Int) - (c.e0 : Int)) * (c.p : Int) * 65536 = now
  have hrest := tickOpened_rest s.start (s.epoch + 1) now
  have hparts : (s.start.tickOpened (s.epoch + 1) now).mgt = s.mgt ∧ (s.start.tickOpened (s.epoch + 1) now).img = s.img := by
    rw [hrest]
    exact ⟨rfl, rfl⟩
  obtain ⟨hmgt, hpimg⟩ := hparts
  have hswitch : (s.start.tickOpened (s.epoch + 1) now).commitTick (s.epoch + 1) = (s.start.tickOpened (s.epoch + 1) now).commitSwitch (s.epoch + 1) :=
    commitTick_switches ((tickOpened_commitArmed _ _ _).trans hcommit) (by rw [hmgt, hfixed]) (by rw [hmgt]; exact haim) (by simp [hpimg, himg])
  have hrec : recorded im old (s.epoch + 1) ((s.start.tickOpened (s.epoch + 1) now).commitSwitch (s.epoch + 1)) :=
    recorded_commitSwitch (hpimg.trans himg) (by rw [hmgt, hver]) hlt
  rw [show s.start.epoch = s.epoch from rfl, hswitch]
  exact hrec.opening (openWork_keeps _ _)

end State

/-- Settles O42: the tick's opening in its three cases (idle, without a commit, with a commit aimed at it) and the arming of the block, whose
work after the opening keeps what the opening and the commit have set. -/
theorem ticksOfTheBlock : Obligations.TicksOfTheBlock := by
  unfold Obligations.TicksOfTheBlock
  exact ⟨State.exec_equinoxTick_ignored, State.completes_equinoxTick, State.completes_equinoxTick_commit, State.completes_blockArm,
    State.exec_blockArm_ignored⟩

end Sys2Proof.Machine
